-- ==== Sys2Proof/Word.lean ====
section
/-! DEFINITION. The word types of the model: what the manual treats as bits. -/

namespace Sys2Proof

/-- One byte of a message or of a bus. -/
abbrev Byte := BitVec 8

/-- A value of the millisecond clock (R1). -/
abbrev Clock := BitVec 32

/-- A 7-bit bus target address (00_scope.md, Conventions). -/
abbrev Addr := BitVec 7

/-- A 16-bit count or duration (00_scope.md, Conventions). -/
abbrev Half := BitVec 16

end Sys2Proof
end

