-- ==== Sys2Proof/Syntax.lean ====
section
/-! DEFINITION. The commands of the block: one constructor for each row of spec/opcode_table.json. -/

namespace Sys2Proof

/-- Host port 0 to 2. -/
abbrev PortIx := Fin 3

/-- Downstream bus 0 to 3. -/
abbrev BusIx := Fin 4

/-- The direction bit of an address byte (R47). -/
inductive Direction where
  | write
  | read
  deriving DecidableEq, Repr

/-- Who made a start on the wire (log 7). -/
inductive Maker where
  | broker
  | foreign
  deriving DecidableEq, Repr

/-- Where a start or stop fell: at a byte boundary (which includes an idle bus), in one of the nine clocks of a byte, bit 8
being the acknowledge bit (R47, R78), or in the repeated start that the 3400 is making (R72; logs 6 and 36). -/
inductive Place where
  | boundary
  | inByte (bit : Fin 9)
  | inRepeatedStart
  deriving DecidableEq, Repr

/-- The bits of R71 in which the engine can lose arbitration: bit `bit` of an address byte (its eighth bit is the
direction bit) or of a written byte, counted from 0 in the order they are sent (R47), or the NACK after a read byte. -/
inductive LossBit where
  | addressByte (bit : Fin 8)
  | writtenByte (bit : Fin 8)
  | readNack
  deriving DecidableEq, Repr

/-- What a receive line brings: a character, or a character whose stop bit is low (R163, R167). -/
inductive LineInput where
  | char (b : Byte)
  | framingError
  deriving DecidableEq, Repr

/-- The trigger lines T0 and T1. -/
inductive TriggerLine where
  | t0
  | t1
  deriving DecidableEq, Repr

/-- A loss in a condition that the engine makes: the bus, and whether the condition is a repeated start or a stop (R72; log
36). -/
structure ConditionLoss where
  bus : BusIx
  inRepeatedStart : Bool
  deriving DecidableEq, Repr

/-- What the monitor reports with STUCK_DETECTED: the bus, and what its lines show once the engine has let go of them (R51, R57,
R80; log 28): nothing with CLK low, the level of DAT with CLK high. DAT is high there only where the 3400 itself held it low, in
TARGET. -/
structure StuckLine where
  bus : BusIx
  atEntry : Option Bool
  deriving DecidableEq, Repr

/-- The acknowledge bit before a byte of a read transfer, and the bus that carries it (R137). -/
structure ReadAck where
  bus : BusIx
  ack : Bool
  deriving DecidableEq, Repr

/-- The body of a BUS_RECOVER frame, and what the lines show if it enters RECOVERY: nothing with CLK low, the level of DAT with
CLK high (R80; log 28). -/
structure RecoverBody where
  bytes : List Byte
  atEntry : Option Bool
  deriving DecidableEq, Repr

/-- The commands. A request row is the good frame that carries the request: `p` is the port, `q` the
frame's sequence byte and `body` its body (for a QUERY row, what follows the subject byte). -/
inductive Instr where
  | powerOnReset (rateHigh t0 t1 : Bool)
  | clockTick
  | openSession (p : PortIx) (q : Byte) (body : List Byte)
  | closeSession (p : PortIx) (q : Byte) (body : List Byte)
  | querySession (p : PortIx) (q : Byte) (params : List Byte)
  | queryBus (p : PortIx) (q : Byte) (params : List Byte)
  | queryQueue (p : PortIx) (q : Byte) (params : List Byte)
  | queryTransaction (p : PortIx) (q : Byte) (params : List Byte)
  | queryLeases (p : PortIx) (q : Byte) (params : List Byte)
  | queryGroups (p : PortIx) (q : Byte) (params : List Byte)
  | queryWatches (p : PortIx) (q : Byte) (params : List Byte)
  | queryTarget (p : PortIx) (q : Byte) (params : List Byte)
  | queryCounters (p : PortIx) (q : Byte) (params : List Byte)
  | queryCountersClear (p : PortIx) (q scope number : Byte)
  | noticeAck (p : PortIx) (q : Byte) (body : List Byte)
  | noticeRewind (p : PortIx) (q : Byte) (body : List Byte)
  | submit (p : PortIx) (q : Byte) (body : List Byte)
  | cancel (p : PortIx) (q : Byte) (body : List Byte)
  | claim (p : PortIx) (q : Byte) (body : List Byte)
  | renew (p : PortIx) (q : Byte) (body : List Byte)
  | release (p : PortIx) (q : Byte) (body : List Byte)
  | revoke (p : PortIx) (q : Byte) (body : List Byte)
  | groupCreate (p : PortIx) (q : Byte) (body : List Byte)
  | groupArm (p : PortIx) (q : Byte) (body : List Byte)
  | groupFire (p : PortIx) (q : Byte) (body : List Byte)
  | groupBind (p : PortIx) (q : Byte) (body : List Byte)
  | groupDelete (p : PortIx) (q : Byte) (body : List Byte)
  | watchAdd (p : PortIx) (q : Byte) (body : List Byte)
  | watchRemove (p : PortIx) (q : Byte) (body : List Byte)
  | watchResume (p : PortIx) (q : Byte) (body : List Byte)
  | targetOwnOn (p : PortIx) (q bus : Byte)
  | targetOwnOff (p : PortIx) (q bus : Byte)
  | targetLoadReplace (p : PortIx) (q bus count : Byte) (bytes : List Byte)
  | targetLoadAppend (p : PortIx) (q bus count : Byte) (bytes : List Byte)
  | busConfigure (p : PortIx) (q : Byte) (body : List Byte)
  | busRecover (p : PortIx) (q : Byte) (body : RecoverBody)
  | resetBroker (p : PortIx) (q : Byte) (body : List Byte)
  | unknownKind (p : PortIx) (kind q : Byte) (body : List Byte)
  | duplicateRequest (p : PortIx) (kind q : Byte) (body : List Byte)
  | requestOverrun (p : PortIx) (kind q : Byte) (body : List Byte)
  | badFrame (p : PortIx) (input : LineInput)
  | lineBreak (p : PortIx)
  | transmitFrameEnd (p : PortIx)
  | retransmitTimerExpiry (p : PortIx)
  | deadlineExpiry (slot : Fin 64)
  | notBeforeReached (slot : Fin 64)
  | agingPromotion (b : BusIx)
  | leaseExpiry (slot : Fin 16)
  | triggerEdge (line : TriggerLine) (rising : Bool)
  | watchPeriodExpiry (slot : Fin 12)
  | busFreeWaitEnd (b : BusIx)
  | startSeen (b : BusIx) (maker : Maker) (place : Place)
  | stopSeen (b : BusIx) (place : Place)
  | clkLowOnFreeBus (b : BusIx)
  | idleDetect (b : BusIx)
  | stuckDetected (x : StuckLine)
  | stretchTimeout (b : BusIx)
  | addressByteAcknowledge (b : BusIx) (ack : Bool)
  | writeByteAcknowledge (b : BusIx) (ack : Bool)
  | readByteReceived (b : BusIx) (byte : Byte)
  | arbitrationLoss (b : BusIx) (bit : LossBit)
  | lossInRepeatedStartOrStop (x : ConditionLoss)
  | addressTailDirectionBit (b : BusIx) (addr : Addr) (dir : Direction)
  | foreignOwnAddress (b : BusIx) (dir : Direction)
  | targetWriteByte (b : BusIx) (byte : Byte)
  | targetReadByteTaken (x : ReadAck)
  | recoveryClockRise (b : BusIx) (datHigh : Bool)
  | recoveryPulseEnd (b : BusIx) (datHigh : Bool)
  | recoveryClockTimeout (b : BusIx)
  | recoveryStopDataHeld (b : BusIx)
  | characterReceived (p : PortIx) (byte : Byte)
  | foreignAddressOther (b : BusIx) (addr : Addr) (dir : Direction)
  deriving DecidableEq, Repr

end Sys2Proof
end

