-- ==== Sys2Proof/Config.lean ====
section
/-! DEFINITION. What the manual fixes as a number, and the free values. -/

namespace Sys2Proof.Config

/-- Longest unstuffed content of a frame (R165). -/
def maxContent : Nat := 100

/-- Longest body of a frame (R165). -/
def maxBody : Nat := 96

/-- Places of an outbox (R154, R155). -/
def outboxRoom : Nat := 16

/-- Places of a reply queue (R170). -/
def replyRoom : Nat := 4

/-- Bytes an inbound slot or an outbound buffer holds (R134, R139). -/
def targetBytes : Nat := 32

/-- The largest age an item reaches (R1). -/
def maxAge : Nat := 2 ^ 31 - 1

/-- Free value: byte `place` of a reply whose field section 12.2 gives no value to, in the reply that
reads the free-value index at `index` (log 12). It has no body: nothing is known of it. -/
opaque freeByte (index place : Nat) : Byte

end Sys2Proof.Config
end

