-- ==== Sys2Proof/Machine/State.lean ====
section
/-! DEFINITION. Every piece of state the manual gives the block, as plain data, and its value after power-on reset. -/

namespace Sys2Proof.Machine

/-! ## Why a step stops -/

/-- Faults: none. No rule of the manual stops the block (INVENTORY.md, Faults). -/
inductive Fault where
  deriving DecidableEq, Repr

/-- Refusals. -/
inductive Refusal where
  /-- Raised by an arm of `exec` whose command has no meaning yet; safe, since nothing is claimed of it. No arm
  of this model raises it. -/
  | notModelled (mnemonic : String)
  deriving DecidableEq, Repr

/-! ## Transactions (01_transactions.md) -/

/-- Scheduling class (R5, R27). -/
inductive Cls where
  | urgent
  | normal
  | bulk
  deriving DecidableEq, Repr

/-- States of a live record (R5). -/
inductive RecState where
  | staged
  | queued
  | active
  | done
  deriving DecidableEq, Repr

/-- Result statuses (R16). -/
inductive Status where
  | ok
  | nackAddress
  | nackData
  | lost
  | lostPartial
  | stretchTimeout
  | busError
  | expired
  | cancelled
  | aborted
  | busOff
  deriving DecidableEq, Repr

/-- A segment (R6): a WRITE carries its data bytes, a READ the count it asks for. -/
inductive Segment where
  | write (addr : Addr) (data : List Byte)
  | read (addr : Addr) (count : Nat)
  deriving DecidableEq, Repr

/-- The result of a record in DONE (R15). -/
structure Result where
  status : Status
  failing : Option Nat
  bytesCompleted : Nat
  completionTime : Clock
  readData : List Byte
  deriving DecidableEq, Repr

/-- A transaction record (R5). `ageStopped` is R1's stop of the age at its largest value, and `spacingOver` says that the
clock has reached the not-before time, which then no longer blocks (R31; log 9). -/
structure Record where
  owner : PortIx
  bus : BusIx
  cls : Cls
  origCls : Cls
  noReplay : Bool
  retryNack : Bool
  budget : Nat
  group : Option Byte
  deadline : Option Half
  segments : List Segment
  state : RecState
  entryTime : Option Clock
  ageStopped : Bool
  deadlineTime : Option Clock
  notBefore : Option Clock
  spacingOver : Bool
  attempts : Nat
  abortPending : Bool
  lastRetry : Option Status
  result : Option Result
  deriving DecidableEq, Repr

/-- A table slot: its generation of `w` bits, which wraps, and its entry, absent while the slot is FREE (R2, R88,
R103, R117). -/
structure Slot (w : Nat) (α : Type) where
  gen : BitVec w
  entry : Option α
  deriving DecidableEq, Repr

/-! ## Leases (05_leases.md) -/

inductive LeaseState where
  | waiting
  | granted
  | ended
  deriving DecidableEq, Repr

inductive EndReason where
  | expired
  | revoked
  deriving DecidableEq, Repr

/-- The report pending field of a lease entry (R97). -/
inductive LeaseReport where
  | none
  | granted
  | ended
  deriving DecidableEq, Repr

/-- A lease entry (R88). -/
structure Lease where
  owner : PortIx
  bus : BusIx
  low : Addr
  high : Addr
  duration : Half
  state : LeaseState
  claimTime : Clock
  grantTime : Option Clock
  expiryTime : Option Clock
  endReason : Option EndReason
  endTime : Option Clock
  report : LeaseReport
  deriving DecidableEq, Repr

/-! ## Groups (06_staged_groups_and_trigger_lines.md) -/

inductive GroupState where
  | collecting
  | armed
  deriving DecidableEq, Repr

/-- The edge of a binding (R103). -/
inductive Edge where
  | rising
  | falling
  | both
  deriving DecidableEq, Repr

/-- What caused a fire (R112). -/
inductive FireSource where
  | request
  | line (l : TriggerLine)
  deriving DecidableEq, Repr

structure Binding where
  line : TriggerLine
  edge : Edge
  deriving DecidableEq, Repr

/-- The pending fire report (R112). -/
structure FireReport where
  queued : Half
  endedOff : Half
  fires : Half
  source : FireSource
  fireTime : Clock
  fireCount : Half
  deriving DecidableEq, Repr

/-- A group entry (R103). The staged list holds record slots, in staging order. -/
structure GroupEntry where
  owner : PortIx
  state : GroupState
  staged : List (Fin 64)
  binding : Option Binding
  fireCount : Half
  ignored : Half
  report : Option FireReport
  deriving DecidableEq, Repr

/-! ## Watches (07_watches.md) -/

inductive WatchState where
  | running
  | suspended
  | removing
  deriving DecidableEq, Repr

/-- Where a watch's one read stands (R117). -/
inductive ReadField where
  | none
  | queued
  | active
  deriving DecidableEq, Repr

/-- A pending value report (R123). -/
structure ValueReport where
  value : List Byte
  time : Clock
  coalesced : Half
  deriving DecidableEq, Repr

/-- A pending suspension report (R124). -/
structure SuspensionReport where
  status : Status
  suspensions : Half
  deriving DecidableEq, Repr

/-- A watch entry (R117). `suspensionFirst` says that the pending suspension report became pending before the
pending value report (R128). -/
structure Watch where
  owner : Option PortIx
  bus : BusIx
  addr : Addr
  pointer : List Byte
  readLen : Nat
  mask : List Byte
  period : Half
  state : WatchState
  nextPeriod : Option Clock
  read : ReadField
  lastReported : Option (List Byte)
  failures : Nat
  lastFailure : Option Status
  skipped : Half
  valueReport : Option ValueReport
  suspensionReport : Option SuspensionReport
  suspensionFirst : Bool
  deriving DecidableEq, Repr

/-! ## Buses (02, 03, 04, 08 and 11) -/

/-- Rate classes 1, 2 and 3 (R45). -/
inductive RateClass where
  | c1
  | c2
  | c3
  deriving DecidableEq, Repr

/-- The seven configuration values of a bus (R174). -/
structure BusConfig where
  enabled : Bool
  rate : RateClass
  stretch : Byte
  spacing : Byte
  aging : Half
  own : Option Addr
  fill : Byte
  deriving DecidableEq, Repr

/-- The line states (R50). -/
inductive LineState where
  | off
  | unknown
  | free
  | busy
  | stuck
  deriving DecidableEq, Repr

inductive RecoveryStep where
  | waitClock
  | pulsing
  | stopping
  deriving DecidableEq, Repr

inductive FaultReason where
  | clockHeld
  | dataHeld
  deriving DecidableEq, Repr

/-- What recovery holds (R80). -/
structure Recovery where
  step : RecoveryStep
  pulses : Nat
  fromFault : Bool
  deriving DecidableEq, Repr

/-- The item of an attempt: a record or a watch, by slot (R60). -/
inductive Item where
  | record (slot : Fin 64)
  | watch (slot : Fin 12)
  deriving DecidableEq, Repr

/-- Why the engine is issuing a stop (R65, R66). -/
inductive StopCause where
  | naturalEnd
  | addressNack
  | dataNack
  | aborted
  deriving DecidableEq, Repr

/-- What follows a byte boundary (R65, R66). -/
inductive Boundary where
  | nextByte
  | repeatedStart
  | stop (why : StopCause)
  deriving DecidableEq, Repr

/-- Where the attempt stands on the wire: in a byte, in the acknowledge bit the engine drives after a read byte
(R64, with what follows it), in a repeated start, or in a stop (R65, R66, R72). -/
inductive Phase where
  | inByte
  | readAck (nack : Bool) (follow : Boundary)
  | repeatedStart
  | stop (why : StopCause)
  deriving DecidableEq, Repr

/-- The working state of an attempt (R60), with the rate class it keeps (R175), its place on the wire, and whether
a disable of the bus has reached it (R58). -/
structure Attempt where
  item : Item
  segments : List Segment
  rate : RateClass
  segIndex : Nat
  byteIndex : Nat
  anyAcked : Bool
  abortPending : Bool
  written : Nat
  readBytes : List Byte
  phase : Phase
  underDisable : Bool
  deriving DecidableEq, Repr

/-- The engine states (R55). RESERVED says whether the bus-free wait runs (R35); ACTIVE holds its attempt, or none
during an address tail (R74). -/
inductive Engine where
  | disabled
  | idle
  | reserved (waiting : Bool)
  | active (attempt : Option Attempt)
  | target
  | recovery (r : Recovery)
  | fault
  deriving DecidableEq, Repr

/-- An item of a bus queue (R26): a record (the queue holds no copy of it), or a watch read with its own class,
entry time and stopped age. -/
inductive QItem where
  | record (slot : Fin 64)
  | watchRead (slot : Fin 12) (cls : Cls) (entry : Clock) (ageStopped : Bool)
  deriving DecidableEq, Repr

inductive InState where
  | empty
  | filling
  | complete
  deriving DecidableEq, Repr

/-- An inbound slot (R134). -/
structure InSlot where
  state : InState
  data : List Byte
  overflow : Bool
  followedByRead : Bool
  completionTime : Option Clock
  deriving DecidableEq, Repr

/-- A read in progress: its counts so far, the byte being sent, and whether the master's NACK has ended the sending
(R131, R137). -/
structure ReadProgress where
  fromBuffer : Nat
  fillBytes : Nat
  sending : Option Byte
  released : Bool
  deriving DecidableEq, Repr

/-- The read tally (R138). -/
structure Tally where
  reads : Half
  fromBuffer : Half
  fillBytes : Half
  lastEnd : Clock
  remaining : Nat
  deriving DecidableEq, Repr

/-- A target unit (R131), less the own address and fill byte, which are configuration. -/
structure Target where
  owner : Option PortIx
  slots : Vector InSlot 4
  outbound : List Byte
  deferred : Option (List Byte)
  reading : Option ReadProgress
  tally : Option Tally
  discard : Bool
  deriving DecidableEq, Repr

/-- The thirteen counters of a bus (R180). -/
structure BusCounters where
  completedOk : Half
  failedFinal : Half
  arbitrationLosses : Half
  addressNacks : Half
  dataNacks : Half
  stretchTimeouts : Half
  busErrors : Half
  recoveries : Half
  faults : Half
  targetWrites : Half
  targetReads : Half
  targetRefusals : Half
  underruns : Half
  deriving DecidableEq, Repr

/-- One bus. `following` says that the engine follows a foreign address byte (R133; log 16). -/
structure Bus where
  config : BusConfig
  line : LineState
  engine : Engine
  following : Bool
  faultReason : Option FaultReason
  queue : List QItem
  target : Target
  counters : BusCounters
  deriving DecidableEq, Repr

/-! ## Sessions and reports (09_sessions_notices_and_the_outbox.md) -/

inductive SessionState where
  | closed
  | opened
  | closing
  deriving DecidableEq, Repr

/-- The sources of reports of one session (R152). -/
inductive Source where
  | record (slot : Fin 64)
  | lease (slot : Fin 16)
  | group (slot : Fin 8)
  | watch (slot : Fin 12)
  | inbound (b : BusIx) (slot : Fin 4)
  | tally (b : BusIx)
  | busEvent (b : BusIx)
  deriving DecidableEq, Repr

/-- Why a bus recovered (R82, R85). -/
inductive RecoveredReason where
  | pulsed
  | released
  deriving DecidableEq, Repr

/-- The bus events (R153). -/
inductive BusEventKind where
  | fault (reason : FaultReason)
  | recovered (reason : RecoveredReason)
  | disabled
  deriving DecidableEq, Repr

/-- A pending bus event in its slot (R153). -/
structure BusEvent where
  kind : BusEventKind
  time : Clock
  missed : Half
  deriving DecidableEq, Repr

/-- The content of a notice, as its source held it at admission (R155, section 12.5). -/
inductive Report where
  | result (tag : Byte) (r : Result) (attempts : Nat) (lastRetry : Option Status)
  | leaseGranted (id : Byte) (b : BusIx) (low high : Addr) (grant expiry : Clock)
  | leaseEnded (id : Byte) (b : BusIx) (low high : Addr) (reason : Option EndReason) (endTime : Clock)
    (grant : Option Clock)
  | groupFired (id : Byte) (fire : FireReport)
  | watchValue (id : Byte) (b : BusIx) (addr : Addr) (v : ValueReport) (skipped : Half)
  | watchSuspended (id : Byte) (b : BusIx) (addr : Addr) (v : SuspensionReport) (skipped : Half)
  | targetWrite (b : BusIx) (slot : Fin 4) (content : InSlot)
  | targetRead (b : BusIx) (tally : Tally)
  | busEvent (b : BusIx) (e : BusEvent)
  deriving DecidableEq, Repr

/-- An outbox entry (R155). `sent` is its mark: SENT when true, UNSENT when false. -/
structure OutboxEntry where
  seq : Byte
  report : Report
  sent : Bool
  everSent : Bool
  deriving DecidableEq, Repr

/-- A session unit (R145, R146, R153 to R160). -/
structure Session where
  state : SessionState
  window : Nat
  maskBusEvent : Bool
  maskTargetRead : Bool
  interval : Half
  nextSeq : Byte
  outbox : List OutboxEntry
  admission : List Source
  busEvents : Vector (Option BusEvent) 4
  timer : Option Clock
  deriving DecidableEq, Repr

/-! ## Host ports (10_host_link_framing.md) -/

inductive RxState where
  | hunt
  | inFrame
  | escape
  deriving DecidableEq, Repr

/-- A receiver (R167). -/
structure Receiver where
  state : RxState
  buffer : List Byte
  deriving DecidableEq, Repr

/-- A frame's content less its check (R165). -/
structure Message where
  kind : Byte
  seq : Byte
  body : List Byte
  deriving DecidableEq, Repr

/-- What a reply cache holds (R169). -/
structure Cached where
  kind : Byte
  seq : Byte
  reply : Message
  deriving DecidableEq, Repr

/-- The six counters of a port (R172). -/
structure PortCounters where
  good : Half
  bad : Half
  duplicates : Half
  overruns : Half
  breaks : Half
  strayAcks : Half
  deriving DecidableEq, Repr

/-- A host port. `tx` is the frame on the transmit line (R171, R172). -/
structure Port where
  rx : Receiver
  cache : Option Cached
  replies : List Message
  tx : Option Message
  counters : PortCounters
  deriving DecidableEq, Repr

/-- The sampled levels of T0 and T1, true for high (R109). -/
structure Levels where
  t0 : Bool
  t1 : Bool
  deriving DecidableEq, Repr

/-! ## The whole state -/

/-- The block's state. `freeIndex` and `pending` are the model's own: the index of the next free value (log 12) and
the commands that wait, first in, first out (log 1). -/
structure State where
  clock : Clock
  rateHigh : Bool
  ports : Vector Port 3
  sessions : Vector Session 3
  records : Vector (Slot 2 Record) 64
  leases : Vector (Slot 4 Lease) 16
  waiting : Vector (List (Fin 16)) 4
  groups : Vector (Slot 5 GroupEntry) 8
  watches : Vector (Slot 4 Watch) 12
  levels : Levels
  buses : Vector Bus 4
  freeIndex : Nat
  pending : List Instr
  deriving DecidableEq, Repr

/-! ## After power-on reset -/

/-- A FREE slot of generation 0 (R2, R88, R103, R117). -/
def freeSlot (w : Nat) (α : Type) : Slot w α := { gen := 0, entry := none }

def PortCounters.zero : PortCounters :=
  { good := 0, bad := 0, duplicates := 0, overruns := 0, breaks := 0, strayAcks := 0 }

def BusCounters.zero : BusCounters :=
  { completedOk := 0, failedFinal := 0, arbitrationLosses := 0, addressNacks := 0, dataNacks := 0,
    stretchTimeouts := 0, busErrors := 0, recoveries := 0, faults := 0, targetWrites := 0,
    targetReads := 0, targetRefusals := 0, underruns := 0 }

/-- A port after power-on reset (R172). -/
def Port.reset : Port :=
  { rx := { state := .hunt, buffer := [] }, cache := none, replies := [], tx := none,
    counters := PortCounters.zero }

/-- A session after power-on reset: CLOSED (R145). The window, mask, interval and next sequence are a
DESIGN CHOICE (log 11). -/
def Session.reset : Session :=
  { state := .closed, window := 0, maskBusEvent := false, maskTargetRead := false, interval := 0,
    nextSeq := 0, outbox := [], admission := [], busEvents := Vector.replicate 4 none, timer := none }

/-- The power-on defaults of a bus's configuration (R174). -/
def BusConfig.reset : BusConfig :=
  { enabled := false, rate := .c1, stretch := 25, spacing := 2, aging := 500, own := none, fill := 0xFF }

/-- An EMPTY inbound slot (R134). The manual gives its data and flags no value; those here show as byte count 0 and flags 0
in QUERY TARGET: a DESIGN CHOICE (log 38). -/
def InSlot.empty : InSlot :=
  { state := .empty, data := [], overflow := false, followedByRead := false, completionTime := none }

/-- A target unit after power-on reset (R131). -/
def Target.reset : Target :=
  { owner := none, slots := Vector.replicate 4 InSlot.empty, outbound := [], deferred := none,
    reading := none, tally := none, discard := false }

/-- A bus after power-on reset (R43, R50, R55, R87, R131, R174, R179). -/
def Bus.reset : Bus :=
  { config := BusConfig.reset, line := .off, engine := .disabled, following := false,
    faultReason := none, queue := [], target := Target.reset, counters := BusCounters.zero }

/-- The block after a power-on reset that reads these levels on RATESEL, T0 and T1 (R1, R2, R24, R43, R88, R103, R109,
R117, R145, R163, R172, R174). -/
def State.powerOn (rateHigh t0 t1 : Bool) : State :=
  { clock := 0, rateHigh := rateHigh,
    ports := Vector.replicate 3 Port.reset,
    sessions := Vector.replicate 3 Session.reset,
    records := Vector.replicate 64 (freeSlot 2 Record),
    leases := Vector.replicate 16 (freeSlot 4 Lease),
    waiting := Vector.replicate 4 [],
    groups := Vector.replicate 8 (freeSlot 5 GroupEntry),
    watches := Vector.replicate 12 (freeSlot 4 Watch),
    levels := { t0 := t0, t1 := t1 },
    buses := Vector.replicate 4 Bus.reset,
    freeIndex := 0, pending := [] }

/-- The machine right after reset. The three pin levels are a DESIGN CHOICE (log 10). -/
def State.reset : State := State.powerOn false false false

end Sys2Proof.Machine
end

