-- ==== Sys2Proof/Machine/Ops.lean ====
section
/-! DEFINITION. The named operations over the state: clock comparison, saturating counts, reading and writing each
table, ids, and the byte forms of message fields. -/

namespace Sys2Proof.Machine

/-! ## The millisecond clock (R1) -/

/-- `t` "has been reached" when the clock is equal to or later than it (R1). -/
def reached (clock t : Clock) : Bool := decide ((clock - t).toNat < 2 ^ 31)

/-- An item's age, which stops at its largest value (R1). `stopped` remembers that it has stopped there. -/
def ageOf (clock entry : Clock) (stopped : Bool) : Nat :=
  if stopped then Config.maxAge else min (clock - entry).toNat Config.maxAge

/-- `t` plus a duration, on the wrapping clock. -/
def addTime (t : Clock) (d : Half) : Clock := t + d.setWidth 32

/-! ## Saturating counts (00_scope.md, Conventions; R179) -/

/-- A 16-bit count increased by one, saturating at 65,535. -/
def satInc (c : Half) : Half := if c = 0xFFFF#16 then c else c + 1

/-- A number as a 16-bit count, saturating at 65,535. -/
def satOf (n : Nat) : Half := BitVec.ofNat 16 (min n 65535)

/-- The sum of two 16-bit counts, saturating at 65,535. -/
def satAdd (a b : Half) : Half := satOf (a.toNat + b.toNat)

/-! ## Byte forms of fields, most significant byte first (00_scope.md, Conventions; section 12.2) -/

/-- A 16-bit field. -/
def be16 (x : Half) : List Byte := [(x >>> 8).setWidth 8, x.setWidth 8]

/-- A 32-bit field. -/
def be32 (x : Clock) : List Byte :=
  [(x >>> 24).setWidth 8, (x >>> 16).setWidth 8, (x >>> 8).setWidth 8, x.setWidth 8]

/-- A 16-bit field from its two bytes. -/
def half (hi lo : Byte) : Half := hi ++ lo

/-- An optional clock value: 5 bytes (section 12.2). -/
def optClock : Option Clock → List Byte
  | none => [0, 0, 0, 0, 0]
  | some t => 1 :: be32 t

/-- A number below 256 as a byte. -/
def byteOf (n : Nat) : Byte := BitVec.ofNat 8 n

/-- A count of a list's bytes, then the bytes. -/
def counted (bytes : List Byte) : List Byte := byteOf bytes.length :: bytes

/-- A yes/no field (section 12.2). -/
def flagByte (x : Bool) : Byte := if x then 1 else 0

/-- A target address of a message, when it lies from 0x08 to 0x77. -/
def addrOf (x : Byte) : Option Addr :=
  if 0x08 ≤ x.toNat ∧ x.toNat ≤ 0x77 then some (x.setWidth 7) else none

/-- A target address as a byte. -/
def addrByte (a : Addr) : Byte := a.setWidth 8

/-- A bus number of a message, when it is at most 3. -/
def busOf (x : Byte) : Option BusIx := if h : x.toNat < 4 then some ⟨x.toNat, h⟩ else none

/-! ## Reading and writing the state -/

namespace State

/-- Bus `b`. -/
def bus (s : State) (b : BusIx) : Bus := s.buses[b]

/-- Replace bus `b`. -/
def setBus (s : State) (b : BusIx) (x : Bus) : State := { s with buses := s.buses.set b x }

/-- Apply `f` to bus `b`. -/
def modBus (s : State) (b : BusIx) (f : Bus → Bus) : State := s.setBus b (f (s.bus b))

/-- Port `p`. -/
def port (s : State) (p : PortIx) : Port := s.ports[p]

/-- Apply `f` to port `p`. -/
def modPort (s : State) (p : PortIx) (f : Port → Port) : State :=
  { s with ports := s.ports.set p (f (s.port p)) }

/-- Session `p`. -/
def session (s : State) (p : PortIx) : Session := s.sessions[p]

/-- Apply `f` to session `p`. -/
def modSession (s : State) (p : PortIx) (f : Session → Session) : State :=
  { s with sessions := s.sessions.set p (f (s.session p)) }

/-- The record in slot `i`, if the slot is not FREE. -/
def record (s : State) (i : Fin 64) : Option Record := s.records[i].entry

/-- Put a record into slot `i`; its generation stays. -/
def putRecord (s : State) (i : Fin 64) (r : Record) : State :=
  { s with records := s.records.set i { gen := s.records[i].gen, entry := some r } }

/-- Apply `f` to the record of slot `i`, if there is one. -/
def modRecord (s : State) (i : Fin 64) (f : Record → Record) : State :=
  match s.record i with
  | none => s
  | some r => s.putRecord i (f r)

/-- Free record slot `i`: its generation advances (R2). -/
def freeRecord (s : State) (i : Fin 64) : State :=
  { s with records := s.records.set i { gen := s.records[i].gen + 1, entry := none } }

/-- The lease entry in slot `i`. -/
def lease (s : State) (i : Fin 16) : Option Lease := s.leases[i].entry

/-- Put a lease entry into slot `i`; its generation stays. -/
def putLease (s : State) (i : Fin 16) (e : Lease) : State :=
  { s with leases := s.leases.set i { gen := s.leases[i].gen, entry := some e } }

/-- Free lease slot `i`: its generation advances (R88). -/
def freeLease (s : State) (i : Fin 16) : State :=
  { s with leases := s.leases.set i { gen := s.leases[i].gen + 1, entry := none } }

/-- The waiting order of bus `b` (R88). -/
def waitingOrder (s : State) (b : BusIx) : List (Fin 16) := s.waiting[b]

/-- Replace the waiting order of bus `b`. -/
def setWaiting (s : State) (b : BusIx) (w : List (Fin 16)) : State :=
  { s with waiting := s.waiting.set b w }

/-- The group entry in slot `i`. -/
def group (s : State) (i : Fin 8) : Option GroupEntry := s.groups[i].entry

/-- Put a group entry into slot `i`; its generation stays. -/
def putGroup (s : State) (i : Fin 8) (g : GroupEntry) : State :=
  { s with groups := s.groups.set i { gen := s.groups[i].gen, entry := some g } }

/-- Free group slot `i`: its generation advances (R103). -/
def freeGroup (s : State) (i : Fin 8) : State :=
  { s with groups := s.groups.set i { gen := s.groups[i].gen + 1, entry := none } }

/-- The watch entry in slot `i`. -/
def watch (s : State) (i : Fin 12) : Option Watch := s.watches[i].entry

/-- Put a watch entry into slot `i`; its generation stays. -/
def putWatch (s : State) (i : Fin 12) (w : Watch) : State :=
  { s with watches := s.watches.set i { gen := s.watches[i].gen, entry := some w } }

/-- Apply `f` to the watch of slot `i`, if there is one. -/
def modWatch (s : State) (i : Fin 12) (f : Watch → Watch) : State :=
  match s.watch i with
  | none => s
  | some w => s.putWatch i (f w)

/-- Free watch slot `i`: its generation advances (R117). -/
def freeWatch (s : State) (i : Fin 12) : State :=
  { s with watches := s.watches.set i { gen := s.watches[i].gen + 1, entry := none } }

/-- Change one counter of bus `b`. -/
def countBus (s : State) (b : BusIx) (f : BusCounters → BusCounters) : State :=
  s.modBus b fun x => { x with counters := f x.counters }

/-- Change one counter of port `p`. -/
def countPort (s : State) (p : PortIx) (f : PortCounters → PortCounters) : State :=
  s.modPort p fun x => { x with counters := f x.counters }

/-- Set the engine of bus `b`. -/
def setEngine (s : State) (b : BusIx) (e : Engine) : State := s.modBus b fun x => { x with engine := e }

/-- Set the line state of bus `b`. -/
def setLine (s : State) (b : BusIx) (l : LineState) : State := s.modBus b fun x => { x with line := l }

/-- Set whether the engine of bus `b` follows an address byte. -/
def setFollowing (s : State) (b : BusIx) (f : Bool) : State := s.modBus b fun x => { x with following := f }

/-- Set the queue of bus `b`. -/
def setQueue (s : State) (b : BusIx) (q : List QItem) : State := s.modBus b fun x => { x with queue := q }

/-- Apply `f` to the target unit of bus `b`. -/
def modTarget (s : State) (b : BusIx) (f : Target → Target) : State :=
  s.modBus b fun x => { x with target := f x.target }

end State

/-! ## Slots and ids -/

/-- The lowest-numbered FREE slot of a table (R4, R90, R104, R118). -/
def lowestFree {w n : Nat} {α : Type} (t : Vector (Slot w α) n) : Option (Fin n) :=
  (List.finRange n).find? fun i => t[i].entry.isNone

/-- The tag of record slot `i`: slot plus 64 times its generation (R2). -/
def State.tagOf (s : State) (i : Fin 64) : Byte := byteOf (i.val + 64 * s.records[i].gen.toNat)

/-- The id of lease slot `i` (R88). -/
def State.leaseId (s : State) (i : Fin 16) : Byte := byteOf (i.val + 16 * s.leases[i].gen.toNat)

/-- The id of group slot `i` (R103). -/
def State.groupId (s : State) (i : Fin 8) : Byte := byteOf (i.val + 8 * s.groups[i].gen.toNat)

/-- The id of watch slot `i` (R117). -/
def State.watchId (s : State) (i : Fin 12) : Byte := byteOf (i.val + 16 * s.watches[i].gen.toNat)

/-- Resolve a tag: the slot and its live record, or none for a FREE slot or a stale generation (R3). -/
def State.findRecord (s : State) (tag : Byte) : Option (Fin 64 × Record) :=
  let i : Fin 64 := ⟨tag.toNat % 64, Nat.mod_lt _ (by decide)⟩
  if s.records[i].gen.toNat = tag.toNat / 64 then (s.record i).map fun r => (i, r) else none

/-- Resolve a lease id (R92). -/
def State.findLease (s : State) (id : Byte) : Option (Fin 16 × Lease) :=
  let i : Fin 16 := ⟨id.toNat % 16, Nat.mod_lt _ (by decide)⟩
  if s.leases[i].gen.toNat = id.toNat / 16 then (s.lease i).map fun e => (i, e) else none

/-- Resolve a group id (R105). -/
def State.findGroup (s : State) (id : Byte) : Option (Fin 8 × GroupEntry) :=
  let i : Fin 8 := ⟨id.toNat % 8, Nat.mod_lt _ (by decide)⟩
  if s.groups[i].gen.toNat = id.toNat / 8 then (s.group i).map fun g => (i, g) else none

/-- Resolve a watch id; a slot part of 12 or more names no slot (R117, R119). -/
def State.findWatch (s : State) (id : Byte) : Option (Fin 12 × Watch) :=
  if h : id.toNat % 16 < 12 then
    let i : Fin 12 := ⟨id.toNat % 16, h⟩
    if s.watches[i].gen.toNat = id.toNat / 16 then (s.watch i).map fun w => (i, w) else none
  else none

/-- How many records of port `p`'s session are not FREE: its window use (R10). -/
def State.windowUse (s : State) (p : PortIx) : Nat :=
  (s.records.toList.filter fun c => c.entry.any fun r => decide (r.owner = p)).length

/-- How many records of port `p`'s session are ACTIVE (R148). -/
def State.activeCount (s : State) (p : PortIx) : Nat :=
  (s.records.toList.filter fun c =>
    c.entry.any fun r => decide (r.owner = p) && decide (r.state = .active)).length

/-- The session of port `p` is OPEN (R145). -/
def State.isOpen (s : State) (p : PortIx) : Bool := decide ((s.session p).state = .opened)

/-- The session of port `p` is the primary session (R147). -/
def State.isPrimary (s : State) (p : PortIx) : Bool := decide (p = 0) && s.isOpen p

/-- The bus is enabled (R174). -/
def State.enabled (s : State) (b : BusIx) : Bool := (s.bus b).config.enabled

/-- The address and direction of a segment (R6). -/
def Segment.addr : Segment → Addr
  | .write a _ => a
  | .read a _ => a

/-- The direction of a segment (R6). -/
def Segment.dir : Segment → Direction
  | .write _ _ => .write
  | .read _ _ => .read

/-- The byte count of a segment (R6). -/
def Segment.count : Segment → Nat
  | .write _ d => d.length
  | .read _ n => n

/-- The data bytes a segment sends (R6): those of a WRITE. -/
def Segment.data : Segment → List Byte
  | .write _ d => d
  | .read _ _ => []

/-- The address byte of a segment: seven address bits, then the direction bit, 0 for write and 1 for read (R47). -/
def Segment.addressByte (g : Segment) : Byte :=
  g.addr ++ match g.dir with
    | .write => 0#1
    | .read => 1#1

/-- The segment in progress. -/
def Attempt.segment (a : Attempt) : Option Segment := a.segments[a.segIndex - 1]?

/-- The byte the engine sends as master (R47, R62, R63): the segment's address byte at byte index 0, then the data bytes of
a WRITE; none while it takes in a read byte, drives an acknowledge bit or makes a repeated start or a stop. -/
def Attempt.sending (a : Attempt) : Option Byte :=
  match a.phase with
  | .inByte => a.segment.bind fun g => if a.byteIndex = 0 then some g.addressByte else g.data[a.byteIndex - 1]?
  | .readAck .. | .repeatedStart | .stop _ => none

/-- Bit `k` of a byte in the order the wire carries it, most significant first (R47). -/
def sentBit (x : Byte) (k : Fin 8) : Bool := x.getMsbD k.val

/-- The segments of a watch read (R26, R121). -/
def Watch.segments (w : Watch) : List Segment :=
  if w.pointer = [] then [.read w.addr w.readLen] else [.write w.addr w.pointer, .read w.addr w.readLen]

end Sys2Proof.Machine
end

