-- ==== Sys2Proof/Machine/Admission.lean ====
section
/-! DEFINITION. The admission path of reports: sources, the outbox and the admission list (R152 to R156), and the fan-out of
bus events (R153). -/

namespace Sys2Proof.Machine

/-- The report a watch entry admits first (R128), with the admission-time skipped periods. -/
def watchReport (id : Byte) (w : Watch) : Option Report :=
  match w.valueReport, w.suspensionReport with
  | none, none => none
  | some v, none => some (.watchValue id w.bus w.addr v w.skipped)
  | none, some u => some (.watchSuspended id w.bus w.addr u w.skipped)
  | some v, some u =>
    if w.suspensionFirst then some (.watchSuspended id w.bus w.addr u w.skipped)
    else some (.watchValue id w.bus w.addr v w.skipped)

/-- The report of a lease entry (R97). -/
def leaseReport (id : Byte) (e : Lease) : Option Report :=
  match e.report with
  | .none => none
  | .granted => some (.leaseGranted id e.bus e.low e.high (e.grantTime.getD 0) (e.expiryTime.getD 0))
  | .ended => some (.leaseEnded id e.bus e.low e.high e.endReason (e.endTime.getD 0) e.grantTime)

/-- The report that source `src` of port `p`'s session holds and would have admitted first, if it holds one (R152). -/
def State.reportOf (s : State) (p : PortIx) : Source → Option Report
  | .record i => (s.record i).bind fun r => r.result.map fun x => .result (s.tagOf i) x r.attempts r.lastRetry
  | .lease i => (s.lease i).bind fun e => leaseReport (s.leaseId i) e
  | .group i => (s.group i).bind fun g => g.report.map fun f => .groupFired (s.groupId i) f
  | .watch i => (s.watch i).bind fun w => watchReport (s.watchId i) w
  | .inbound b k =>
    let c := (s.bus b).target.slots[k]
    if c.state = .complete then some (.targetWrite b k c) else none
  | .tally b => (s.bus b).target.tally.map fun t => .targetRead b t
  | .busEvent b => ((s.session p).busEvents[b]).map fun e => .busEvent b e

/-- A watch entry after its first report is admitted (R128, R155). -/
def watchAdmitted (w : Watch) : Watch :=
  match w.valueReport, w.suspensionReport with
  | some v, none => { w with valueReport := none, lastReported := some v.value }
  | some v, some _ =>
    if w.suspensionFirst then { w with suspensionReport := none, suspensionFirst := false }
    else { w with valueReport := none, lastReported := some v.value }
  | none, _ => { w with suspensionReport := none, suspensionFirst := false }

/-- Release a source at admission of its first report (R155). -/
def State.releaseSource (s : State) (p : PortIx) : Source → State
  | .record i => s.freeRecord i
  | .lease i =>
    match s.lease i with
    | none => s
    | some e => if e.report = .ended then s.freeLease i else s.putLease i { e with report := .none }
  | .group i =>
    match s.group i with
    | none => s
    | some g => s.putGroup i { g with report := none }
  | .watch i => s.modWatch i watchAdmitted
  | .inbound b k => s.modTarget b fun t => { t with slots := t.slots.set k InSlot.empty }
  | .tally b => s.modTarget b fun t => { t with tally := none }
  | .busEvent b => s.modSession p fun x => { x with busEvents := x.busEvents.set b none }

/-- Put a report into a new outbox entry with the session's next notice sequence (R155). -/
def Session.push (x : Session) (r : Report) : Session :=
  { x with
    nextSeq := x.nextSeq + 1
    outbox := x.outbox ++ [{ seq := x.nextSeq, report := r, sent := false, everSent := false }] }

/-- Admission of the first report of a source (R155). -/
def State.admitOne (s : State) (p : PortIx) (src : Source) : State :=
  match s.reportOf p src with
  | none => s
  | some r => (s.modSession p fun x => x.push r).releaseSource p src

/-- The outbox has room (R154). -/
def Session.hasRoom (x : Session) : Bool := decide (x.outbox.length < Config.outboxRoom)

/-- A report has become pending at a source (R154): nothing for a source already in the list, else admission if the
outbox has room, else the tail of the admission list. -/
def State.offer (s : State) (p : PortIx) (src : Source) : State :=
  if src ∈ (s.session p).admission then s
  else if (s.session p).hasRoom then s.admitOne p src
  else s.modSession p fun x => { x with admission := x.admission ++ [src] }

/-- A source leaves a session's path without admission (R152). -/
def State.dropSource (s : State) (p : PortIx) (src : Source) : State :=
  s.modSession p fun x => { x with admission := x.admission.filter fun y => decide (y ≠ src) }

/-- Admit one report of the head of the admission list; a source with none left leaves the list (R156). -/
def State.admitHead (s : State) (p : PortIx) : State :=
  match (s.session p).admission with
  | [] => s
  | src :: rest =>
    let s' := s.admitOne p src
    if (s'.reportOf p src).isSome then s' else s'.modSession p fun x => { x with admission := rest }

/-- At most `n` rounds of admission from the head of the list, until the outbox is full or the list is empty (R156). -/
def State.admitRounds (n : Nat) (s : State) (p : PortIx) : State :=
  match n with
  | 0 => s
  | n + 1 =>
    if (s.session p).hasRoom && !(s.session p).admission.isEmpty then State.admitRounds n (s.admitHead p) p
    else s

/-- Admit from the head of the list until the outbox is full or the list is empty (R156). Each round fills a place of the
outbox or takes a source off the list, so this many rounds are enough. -/
def State.admitFromList (s : State) (p : PortIx) : State :=
  s.admitRounds (Config.outboxRoom + (s.session p).admission.length) p

/-! ## Bus events (R153) -/

/-- Offer a bus event to the session of port `p`. -/
def State.offerBusEventTo (s : State) (b : BusIx) (kind : BusEventKind) (p : PortIx) : State :=
  if s.isOpen p && (s.session p).maskBusEvent then
    let e : BusEvent :=
      match (s.session p).busEvents[b] with
      | none => { kind := kind, time := s.clock, missed := 0 }
      | some old => { kind := kind, time := s.clock, missed := satInc old.missed }
    (s.modSession p fun x => { x with busEvents := x.busEvents.set b (some e) }).offer p (.busEvent b)
  else s

/-- Offer a bus event to every session (R153). -/
def State.offerBusEvent (s : State) (b : BusIx) (kind : BusEventKind) : State :=
  ((s.offerBusEventTo b kind 0).offerBusEventTo b kind 1).offerBusEventTo b kind 2

end Sys2Proof.Machine
end

