-- ==== Sys2Proof/Machine/Flags.lean ====
section
/-! DEFINITION. The codes of enumerated fields (section 12.2), and what the engine state says of the lines (R45). -/

namespace Sys2Proof.Machine

/-! ## Reply statuses (section 12.2) -/

/-- The reply status codes. -/
inductive ReplyStatus where
  | ok
  | pending
  | queued
  | deferred
  | malformed
  | unknownKind
  | badBus
  | badAddress
  | badLength
  | badField
  | busOff
  | unknownId
  | wrongOwner
  | wrongState
  | tooLate
  | conflict
  | inUse
  | windowFull
  | noSlot
  | noRoom
  | denied
  | notOpen
  | alreadyOpen
  | busy
  deriving DecidableEq, Repr

/-- The code of a reply status. -/
def statusByte : ReplyStatus → Byte
  | .ok => 0x00
  | .pending => 0x01
  | .queued => 0x02
  | .deferred => 0x03
  | .malformed => 0x10
  | .unknownKind => 0x11
  | .badBus => 0x12
  | .badAddress => 0x13
  | .badLength => 0x14
  | .badField => 0x15
  | .busOff => 0x16
  | .unknownId => 0x20
  | .wrongOwner => 0x21
  | .wrongState => 0x22
  | .tooLate => 0x23
  | .conflict => 0x24
  | .inUse => 0x25
  | .windowFull => 0x30
  | .noSlot => 0x31
  | .noRoom => 0x32
  | .denied => 0x40
  | .notOpen => 0x41
  | .alreadyOpen => 0x42
  | .busy => 0x43

/-! ## Enumerated fields -/

/-- Result status codes. -/
def resultCode : Status → Byte
  | .ok => 0x00
  | .nackAddress => 0x01
  | .nackData => 0x02
  | .lost => 0x03
  | .lostPartial => 0x04
  | .stretchTimeout => 0x05
  | .busError => 0x06
  | .expired => 0x07
  | .cancelled => 0x08
  | .aborted => 0x09
  | .busOff => 0x0A

/-- An optional status: 0xFF when absent. -/
def optStatusCode : Option Status → Byte
  | none => 0xFF
  | some x => resultCode x

/-- An optional owner session: 0xFF when absent. -/
def optOwnerCode : Option PortIx → Byte
  | none => 0xFF
  | some p => byteOf p.val

/-- An own address: 0xFF for none. -/
def ownCode : Option Addr → Byte
  | none => 0xFF
  | some a => addrByte a

def classCode : Cls → Byte
  | .urgent => 0
  | .normal => 1
  | .bulk => 2

def classOf (x : Byte) : Option Cls :=
  if x = 0 then some .urgent else if x = 1 then some .normal else if x = 2 then some .bulk else none

def dirCode : Direction → Byte
  | .write => 0
  | .read => 1

def recStateCode : RecState → Byte
  | .staged => 1
  | .queued => 2
  | .active => 3
  | .done => 4

def engineCode : Engine → Byte
  | .disabled => 0
  | .idle => 1
  | .reserved _ => 2
  | .active _ => 3
  | .target => 4
  | .recovery _ => 5
  | .fault => 6

def lineCode : LineState → Byte
  | .off => 0
  | .unknown => 1
  | .free => 2
  | .busy => 3
  | .stuck => 4

def stepCode : RecoveryStep → Byte
  | .waitClock => 1
  | .pulsing => 2
  | .stopping => 3

def faultCode : Option FaultReason → Byte
  | none => 0
  | some .clockHeld => 1
  | some .dataHeld => 2

def rateCode : RateClass → Byte
  | .c1 => 1
  | .c2 => 2
  | .c3 => 3

def rateOf (x : Byte) : Option RateClass :=
  if x = 1 then some .c1 else if x = 2 then some .c2 else if x = 3 then some .c3 else none

def leaseStateCode : LeaseState → Byte
  | .waiting => 1
  | .granted => 2
  | .ended => 3

def endReasonCode : Option EndReason → Byte
  | none => 0
  | some .expired => 1
  | some .revoked => 2

def leaseReportCode : LeaseReport → Byte
  | .none => 0
  | .granted => 1
  | .ended => 2

def groupStateCode : GroupState → Byte
  | .collecting => 1
  | .armed => 2

def lineNumberCode : TriggerLine → Byte
  | .t0 => 1
  | .t1 => 2

def edgeCode : Edge → Byte
  | .rising => 0
  | .falling => 1
  | .both => 2

def edgeOf (x : Byte) : Option Edge :=
  if x = 0 then some .rising else if x = 1 then some .falling else if x = 2 then some .both else none

def sourceCode : FireSource → Byte
  | .request => 0
  | .line .t0 => 1
  | .line .t1 => 2

def watchStateCode : WatchState → Byte
  | .running => 1
  | .suspended => 2
  | .removing => 3

def readFieldCode : ReadField → Byte
  | .none => 0
  | .queued => 1
  | .active => 2

def inStateCode : InState → Byte
  | .empty => 0
  | .filling => 1
  | .complete => 2

/-- Slot flags: 0 neither, 1 overflow, 2 followed-by-read, 3 both. -/
def slotFlags (c : InSlot) : Byte :=
  byteOf ((if c.overflow then 1 else 0) + (if c.followedByRead then 2 else 0))

/-- Notice mask: 0 none, 1 BUS_EVENT, 2 TARGET_READ, 3 both. -/
def maskCode (busEvent targetRead : Bool) : Byte :=
  byteOf ((if busEvent then 1 else 0) + (if targetRead then 2 else 0))

/-- Bus event kind and reason. -/
def busEventCode : BusEventKind → List Byte
  | .fault .clockHeld => [1, 1]
  | .fault .dataHeld => [1, 2]
  | .recovered .pulsed => [2, 3]
  | .recovered .released => [2, 4]
  | .disabled => [3, 0]

/-! ## The lines (R45) -/

/-- What the 3400 may drive on a bus (R45). -/
inductive Drive where
  /-- Both lines released. -/
  | released
  /-- DAT for acknowledge bits and read bytes, as target. -/
  | asTarget
  /-- CLK and DAT as master, at a rate class, sending a byte or none (R47). -/
  | asMaster (rate : RateClass) (byte : Option Byte)
  /-- The clock pulses and the stop of recovery. -/
  | asRecovery (rate : RateClass)
  deriving DecidableEq, Repr

/-- What the engine state lets the 3400 drive (R45); during an address tail the lines are released (R73, R74). -/
def Bus.drive (x : Bus) : Drive :=
  match x.engine with
  | .disabled | .idle | .reserved _ | .fault | .active none => .released
  | .active (some a) => .asMaster a.rate a.sending
  | .target => .asTarget
  | .recovery _ => .asRecovery x.config.rate

/-- A write transfer is in progress: a slot is FILLING (R134). -/
def Target.filling (t : Target) : Option (Fin 4) :=
  (List.finRange 4).find? fun k => decide (t.slots[k].state = .filling)

/-- The lowest EMPTY inbound slot (R134). -/
def Target.lowestEmpty (t : Target) : Option (Fin 4) :=
  (List.finRange 4).find? fun k => decide (t.slots[k].state = .empty)

/-- A foreign transfer to the own address is in progress (R135, R137). -/
def Target.inTransfer (t : Target) : Bool := t.filling.isSome || t.reading.isSome

end Sys2Proof.Machine
end

