-- ==== Sys2Proof/Machine/Framing.lean ====
section
/-! DEFINITION. Frames (10_host_link_framing.md, 10.2 and 10.3): the check, stuffing, the form of a frame on the line and the
receiver. -/

namespace Sys2Proof.Machine

/-! ## The check (R166) -/

/-- One data bit enters the check register. -/
def crcBit (reg : BitVec 16) (bit : Bool) : BitVec 16 :=
  if reg.msb = bit then reg <<< 1 else (reg <<< 1) ^^^ 0x1021#16

/-- One byte enters the check register, most significant bit first. -/
def crcByte (reg : BitVec 16) (x : Byte) : BitVec 16 :=
  [7, 6, 5, 4, 3, 2, 1, 0].foldl (fun r i => crcBit r (x.getLsbD i)) reg

/-- The check of a sequence of bytes (R166). -/
def crc (bytes : List Byte) : BitVec 16 := bytes.foldl crcByte 0xFFFF#16

/-! ## Frames on the line (R165) -/

/-- The delimiter. -/
def delimiter : Byte := 0xC5

/-- The escape. -/
def escape : Byte := 0xCA

/-- A content byte as it is sent on the line. -/
def stuff (x : Byte) : List Byte :=
  if x = delimiter then [escape, 0xD5] else if x = escape then [escape, 0xDA] else [x]

/-- The kind, sequence and body of a message: what the check covers. -/
def Message.covered (m : Message) : List Byte := m.kind :: m.seq :: m.body

/-- The unstuffed content of a message's frame, check included. -/
def Message.content (m : Message) : List Byte := m.covered ++ be16 (crc m.covered)

/-- The characters of a message's frame on the line. -/
def Message.wire (m : Message) : List Byte := delimiter :: (m.content.flatMap stuff ++ [delimiter])

/-- The message a frame's content carries, when its length and its check are right (R166, R168). -/
def messageOf (content : List Byte) : Option Message :=
  match content with
  | kind :: seq :: rest =>
    let body := rest.take (rest.length - 2)
    if 4 ≤ content.length ∧ rest.drop (rest.length - 2) = be16 (crc (kind :: seq :: body)) then
      some { kind := kind, seq := seq, body := body }
    else none
  | _ => none

/-! ## The receiver (R167) -/

/-- What an input to a receiver brings about. -/
inductive RxEvent where
  /-- No frame ends and none is discarded. -/
  | quiet
  /-- A bad frame. -/
  | bad
  /-- A frame of 4 to 100 content bytes ends; its check is not yet tested. -/
  | ended (content : List Byte)
  deriving DecidableEq, Repr

/-- A content byte reaches the assembly buffer (R167). -/
def Receiver.append (r : Receiver) (x : Byte) : Receiver × RxEvent :=
  if r.buffer.length < Config.maxContent then ({ state := .inFrame, buffer := r.buffer ++ [x] }, .quiet)
  else ({ state := .hunt, buffer := [] }, .bad)

/-- A delimiter reaches a receiver that is IN_FRAME (R167). -/
def Receiver.close (r : Receiver) : Receiver × RxEvent :=
  ({ state := .inFrame, buffer := [] },
    if r.buffer.length = 0 then .quiet else if r.buffer.length < 4 then .bad else .ended r.buffer)

/-- One input of the table of R167. -/
def Receiver.take (r : Receiver) (input : LineInput) : Receiver × RxEvent :=
  match r.state, input with
  | .hunt, .char x => if x = delimiter then ({ state := .inFrame, buffer := [] }, .quiet) else (r, .quiet)
  | .hunt, .framingError => (r, .quiet)
  | .inFrame, .char x =>
    if x = delimiter then r.close
    else if x = escape then ({ r with state := .escape }, .quiet)
    else r.append x
  | .escape, .char x =>
    if x = delimiter then ({ state := .inFrame, buffer := [] }, .bad) else r.append (x ^^^ 0x10)
  | .inFrame, .framingError => ({ state := .hunt, buffer := [] }, .bad)
  | .escape, .framingError => ({ state := .hunt, buffer := [] }, .bad)

/-- What a receiver brings about as it takes a run of characters: its state after them, and the frames that ended and the
bad frames, in order. -/
def Receiver.feed (r : Receiver) : List Byte → Receiver × List RxEvent
  | [] => (r, [])
  | x :: rest =>
    let y := r.take (.char x)
    let z := y.1.feed rest
    (z.1, if y.2 = .quiet then z.2 else y.2 :: z.2)

end Sys2Proof.Machine
end

