-- ==== Sys2Proof/Machine/Notices.lean ====
section
/-! DEFINITION. Notices on the wire (section 12.5, R184) and the port transmitters (R157, R171). -/

namespace Sys2Proof.Machine

/-- The notice kind of a report (section 12.1). -/
def noticeKind : Report → Byte
  | .result .. => 0x81
  | .leaseGranted .. => 0x82
  | .leaseEnded .. => 0x83
  | .groupFired .. => 0x84
  | .watchValue .. => 0x85
  | .watchSuspended .. => 0x86
  | .targetWrite .. => 0x87
  | .targetRead .. => 0x88
  | .busEvent .. => 0x89

/-- The notice body of a report (section 12.5, R184). -/
def noticeBody : Report → List Byte
  | .result tag r attempts lastRetry =>
    [tag, resultCode r.status, byteOf (r.failing.getD 0), byteOf r.bytesCompleted, byteOf attempts,
      optStatusCode lastRetry] ++ be32 r.completionTime ++ counted r.readData
  | .leaseGranted id b low high grant expiry =>
    [id, byteOf b.val, addrByte low, addrByte high] ++ be32 grant ++ be32 expiry
  | .leaseEnded id b low high reason endTime grant =>
    [id, byteOf b.val, addrByte low, addrByte high, endReasonCode reason] ++ be32 endTime ++ optClock grant
  | .groupFired id f =>
    [id] ++ be16 f.queued ++ be16 f.endedOff ++ be16 f.fires ++ [sourceCode f.source] ++ be32 f.fireTime ++
      be16 f.fireCount
  | .watchValue id b addr v skipped =>
    [id, byteOf b.val, addrByte addr] ++ counted v.value ++ be32 v.time ++ be16 v.coalesced ++ be16 skipped
  | .watchSuspended id b addr u skipped =>
    [id, byteOf b.val, addrByte addr, resultCode u.status] ++ be16 u.suspensions ++ be16 skipped
  | .targetWrite b slot c =>
    [byteOf b.val, byteOf slot.val, byteOf c.data.length, flagByte c.overflow, flagByte c.followedByRead] ++
      be32 (c.completionTime.getD 0) ++ c.data
  | .targetRead b t =>
    [byteOf b.val] ++ be16 t.reads ++ be16 t.fromBuffer ++ be16 t.fillBytes ++ be32 t.lastEnd ++
      [byteOf t.remaining]
  | .busEvent b e => [byteOf b.val] ++ busEventCode e.kind ++ be32 e.time ++ be16 e.missed

/-- The notice frame of an outbox entry (R184). -/
def OutboxEntry.notice (e : OutboxEntry) : Message :=
  { kind := noticeKind e.report, seq := e.seq, body := noticeBody e.report }

/-! ## The transmitter (R157, R160, R171) -/

/-- The oldest UNSENT entry of an outbox, and the outbox with that entry SENT and ever sent (R157). -/
def takeUnsent : List OutboxEntry → Option (OutboxEntry × List OutboxEntry)
  | [] => none
  | e :: rest =>
    if e.sent then (takeUnsent rest).map fun x => (x.1, e :: x.2)
    else some (e, { e with sent := true, everSent := true } :: rest)

/-- The retransmit timer when the transmitter takes an entry: a stopped one starts (R160). -/
def timerAfterTake (x : Session) (clock : Clock) : Option Clock :=
  if x.timer.isNone ∧ x.interval ≠ 0 then some (addTime clock x.interval) else x.timer

/-- The transmitter of port `p` chooses its next frame: the oldest reply, else the oldest UNSENT notice, else none
(R171). -/
def State.chooseFrame (s : State) (p : PortIx) : State :=
  match (s.port p).replies with
  | m :: rest => s.modPort p fun x => { x with replies := rest, tx := some m }
  | [] =>
    match takeUnsent (s.session p).outbox with
    | none => s
    | some (e, outbox) =>
      (s.modSession p fun x => { x with outbox := outbox, timer := timerAfterTake x s.clock }).modPort p fun x =>
        { x with tx := some e.notice }

/-- An idle transmitter chooses at once (R171). -/
def State.kick (s : State) (p : PortIx) : State := if (s.port p).tx.isNone then s.chooseFrame p else s

/-- The end of an event: each idle transmitter chooses (R171; log 21). -/
def State.settle (s : State) : State := ((s.kick 0).kick 1).kick 2

/-- A frame ends on HTX (R171): none is on the line until the transmitter chooses. -/
def State.frameSent (s : State) (p : PortIx) : State := s.modPort p fun x => { x with tx := none }

end Sys2Proof.Machine
end

