-- ==== Sys2Proof/Machine/Operands.lean ====
section
/-! DEFINITION. Reading request bodies field by field (R182, section 12.3). A parser answers none where the body's length or
layout is not the one its table gives: MALFORMED. -/

namespace Sys2Proof.Machine

/-- A segment descriptor as a SUBMIT body declares it, before any check of its values (section 12.3). -/
structure RawSegment where
  addr : Byte
  dir : Direction
  count : Nat
  data : List Byte
  deriving DecidableEq, Repr

/-- Read `n` segment descriptors; none when the bytes do not fit or a direction is neither 0 nor 1 (R182). -/
def readSegments : Nat → List Byte → Option (List RawSegment)
  | 0, [] => some []
  | 0, _ :: _ => none
  | n + 1, a :: d :: c :: rest =>
    if d = 1 then (readSegments n rest).map ({ addr := a, dir := .read, count := c.toNat, data := [] } :: ·)
    else if d = 0 then
      if rest.length < c.toNat then none
      else (readSegments n (rest.drop c.toNat)).map
        ({ addr := a, dir := .write, count := c.toNat, data := rest.take c.toNat } :: ·)
    else none
  | _ + 1, _ => none

/-- The fields of a SUBMIT body (section 12.3). -/
structure SubmitBody where
  bus : Byte
  cls : Byte
  noReplay : Byte
  retryNack : Byte
  budget : Byte
  groupFlag : Byte
  groupId : Byte
  deadline : Half
  segments : List RawSegment
  deriving DecidableEq, Repr

def parseSubmit : List Byte → Option SubmitBody
  | b :: c :: nr :: rn :: bu :: gf :: gi :: dh :: dl :: n :: rest =>
    (readSegments n.toNat rest).map fun segs =>
      { bus := b, cls := c, noReplay := nr, retryNack := rn, budget := bu, groupFlag := gf, groupId := gi,
        deadline := half dh dl, segments := segs }
  | _ => none

/-- OPEN: window, notice mask, retransmit interval. -/
def parseOpen : List Byte → Option (Byte × Byte × Half)
  | [w, m, h, l] => some (w, m, half h l)
  | _ => none

/-- A body of exactly one byte: a tag, an id, a bus or a notice sequence. -/
def parseByte : List Byte → Option Byte
  | [x] => some x
  | _ => none

/-- CLAIM: bus, low, high, duration, wait flag. -/
structure ClaimBody where
  bus : Byte
  low : Byte
  high : Byte
  duration : Half
  wait : Byte
  deriving DecidableEq, Repr

def parseClaim : List Byte → Option ClaimBody
  | [b, lo, hi, dh, dl, w] => some { bus := b, low := lo, high := hi, duration := half dh dl, wait := w }
  | _ => none

/-- RENEW: id, duration. -/
def parseRenew : List Byte → Option (Byte × Half)
  | [i, h, l] => some (i, half h l)
  | _ => none

/-- GROUP_BIND: id, line, edge. -/
def parseBind : List Byte → Option (Byte × Byte × Byte)
  | [i, l, e] => some (i, l, e)
  | _ => none

/-- WATCH_ADD: bus, address, pointer count, read length, period, pointer bytes, mask bytes. -/
structure WatchBody where
  bus : Byte
  addr : Byte
  pointer : List Byte
  mask : List Byte
  period : Half
  deriving DecidableEq, Repr

def parseWatchAdd : List Byte → Option WatchBody
  | b :: a :: p :: r :: ph :: pl :: rest =>
    if rest.length = p.toNat + r.toNat then
      some { bus := b, addr := a, pointer := rest.take p.toNat, mask := rest.drop p.toNat, period := half ph pl }
    else none
  | _ => none

/-- TARGET_OWN: bus, on/off. -/
def parseOwn : List Byte → Option (Byte × Byte)
  | [b, x] => some (b, x)
  | _ => none

/-- TARGET_LOAD: bus, mode, byte count, bytes. -/
def parseLoad : List Byte → Option (Byte × Byte × List Byte)
  | b :: m :: k :: rest => if rest.length = k.toNat then some (b, m, rest) else none
  | _ => none

/-- BUS_CONFIGURE: its nine bytes. -/
structure ConfigBody where
  bus : Byte
  enable : Byte
  rate : Byte
  stretch : Byte
  spacing : Byte
  aging : Half
  own : Byte
  fill : Byte
  deriving DecidableEq, Repr

def parseConfigure : List Byte → Option ConfigBody
  | [b, e, r, st, sp, ah, al, o, f] =>
    some { bus := b, enable := e, rate := r, stretch := st, spacing := sp, aging := half ah al, own := o, fill := f }
  | _ => none

end Sys2Proof.Machine
end

