-- ==== Sys2Proof/Machine/Queue.lean ====
section
/-! DEFINITION. Bus queues and scheduling (02_bus_queues_and_scheduling.md): order, eligibility, joining, leaving, aging and
the reservation. -/

namespace Sys2Proof.Machine

/-! ## Items (R26) -/

/-- The rank of a class in queue order (R27). -/
def Cls.rank : Cls → Nat
  | .urgent => 0
  | .normal => 1
  | .bulk => 2

namespace State

/-- The present class of an item (R26). -/
def itemClass (s : State) : QItem → Cls
  | .record i => (s.record i).elim .bulk (·.cls)
  | .watchRead _ c _ _ => c

/-- The age of an item (R1, R27). -/
def itemAge (s : State) : QItem → Nat
  | .record i => (s.record i).elim 0 fun r => r.entryTime.elim 0 fun t => ageOf s.clock t r.ageStopped
  | .watchRead _ _ t stopped => ageOf s.clock t stopped

/-- The owner session of an item (R26). -/
def itemOwner (s : State) : QItem → Option PortIx
  | .record i => (s.record i).map (·.owner)
  | .watchRead w _ _ _ => (s.watch w).bind (·.owner)

/-- The addresses of an item (R26). -/
def itemAddrs (s : State) : QItem → List Addr
  | .record i => (s.record i).elim [] fun r => r.segments.map Segment.addr
  | .watchRead w _ _ _ => (s.watch w).elim [] fun x => [x.addr]

/-- The not-before time of an item (R26). -/
def itemNotBefore (s : State) : QItem → Option Clock
  | .record i => (s.record i).bind (·.notBefore)
  | .watchRead .. => none

end State

/-! ## Order (R27, R28) -/

/-- Whether queued item `y` stands before a joining item `new` (R28): a higher class, or the same class and an entry
time earlier than or equal to its own, compared through ages (R27). -/
def State.standsBefore (s : State) (y new : QItem) : Bool :=
  decide ((s.itemClass y).rank < (s.itemClass new).rank) ||
    (decide (s.itemClass y = s.itemClass new) && decide (s.itemAge new ≤ s.itemAge y))

/-- Place a joining item (R28). -/
def State.insertItem (s : State) (new : QItem) : List QItem → List QItem
  | [] => [new]
  | y :: ys => if s.standsBefore y new then y :: State.insertItem s new ys else new :: y :: ys

/-- The item of record `i`. -/
def QItem.isRecord (i : Fin 64) : QItem → Bool
  | .record j => decide (j = i)
  | .watchRead .. => false

/-- The read item of watch `w`. -/
def QItem.isWatch (w : Fin 12) : QItem → Bool
  | .record _ => false
  | .watchRead v _ _ _ => decide (v = w)

/-! ## Eligibility (R30) -/

/-- The eligibility values of R44. -/
inductive Eligibility where
  | eligible
  | spaced
  | leased
  deriving DecidableEq, Repr

/-- An address lies within the range of a lease (R30). -/
def Lease.covers (e : Lease) (a : Addr) : Bool := decide (e.low.toNat ≤ a.toNat ∧ a.toNat ≤ e.high.toNat)

/-- A lease entry keeps back an item of `owner` with these addresses on bus `b` (R30 condition 2). -/
def Lease.keepsBack (e : Lease) (b : BusIx) (owner : Option PortIx) (addrs : List Addr) : Bool :=
  decide (e.state = .granted) && decide (e.bus = b) && decide (owner ≠ some e.owner) && addrs.any e.covers

/-- Some GRANTED lease of another session covers an address of the item (R30 condition 2). -/
def State.leasedAway (s : State) (b : BusIx) (it : QItem) : Bool :=
  s.leases.toList.any fun c => c.entry.any fun e => e.keepsBack b (s.itemOwner it) (s.itemAddrs it)

/-- The clock has reached the item's not-before time before now (R31): once reached, it no longer blocks. -/
def State.itemSpacingOver (s : State) : QItem → Bool
  | .record i => (s.record i).any (·.spacingOver)
  | .watchRead .. => false

/-- The item's not-before time lies in the future (R30 condition 1 fails). -/
def State.spaced (s : State) (it : QItem) : Bool :=
  match s.itemNotBefore it with
  | none => false
  | some t => !(s.itemSpacingOver it || reached s.clock t)

/-- The eligibility of an item at this moment (R30, R44). -/
def State.eligibility (s : State) (b : BusIx) (it : QItem) : Eligibility :=
  if s.spaced it then .spaced else if s.leasedAway b it then .leased else .eligible

/-- An item may start (R30). -/
def State.isEligible (s : State) (b : BusIx) (it : QItem) : Bool := decide (s.eligibility b it = .eligible)

/-! ## Reservation (R36 to R38) -/

/-- R36, tested on a wake event (R37): an IDLE engine with an eligible item reserves, and begins the bus-free wait
if the monitor is FREE. -/
def State.wake (s : State) (b : BusIx) : State :=
  if (s.bus b).engine = .idle && (s.bus b).queue.any (s.isEligible b) then
    s.setEngine b (.reserved (decide ((s.bus b).line = .free)))
  else s

/-- The monitor reports FREE: a RESERVED engine begins the bus-free wait (R38). -/
def State.reportFree (s : State) (b : BusIx) : State :=
  match (s.bus b).engine with
  | .reserved _ => s.setEngine b (.reserved true)
  | _ => s

/-- The monitor leaves FREE: a running bus-free wait is abandoned (R39). -/
def State.abandonWait (s : State) (b : BusIx) : State :=
  match (s.bus b).engine with
  | .reserved _ => s.setEngine b (.reserved false)
  | _ => s

/-! ## Joining, leaving and aging (R28, R29, R32, R33) -/

/-- An item joins its bus queue (R28), which is no wake event by itself for an engine that is not IDLE. -/
def State.enqueue (s : State) (b : BusIx) (it : QItem) : State := s.setQueue b (s.insertItem it (s.bus b).queue)

/-- An item joins its bus queue: a wake event (R28, R37). -/
def State.join (s : State) (b : BusIx) (it : QItem) : State := (s.enqueue b it).wake b

/-- A record leaves its bus queue (R29). -/
def State.dequeueRecord (s : State) (b : BusIx) (i : Fin 64) : State :=
  s.setQueue b ((s.bus b).queue.filter fun x => !x.isRecord i)

/-- A watch read leaves its bus queue (R29). -/
def State.dequeueWatch (s : State) (b : BusIx) (w : Fin 12) : State :=
  s.setQueue b ((s.bus b).queue.filter fun x => !x.isWatch w)

/-- The bus's aging limit is on and this age reaches it (R32). -/
def agedOut (limit : Half) (age : Nat) : Bool := decide (limit ≠ 0 ∧ limit.toNat ≤ age)

/-- Promotion of one BULK item to NORMAL: it leaves the BULK items and joins the NORMAL ones, keeping its entry
time (R32, R33). -/
def State.promote (s : State) (b : BusIx) (it : QItem) : State :=
  let s' := s.setQueue b ((s.bus b).queue.filter fun x => decide (x ≠ it))
  match it with
  | .record i => (s'.modRecord i fun r => { r with cls := .normal }).enqueue b (.record i)
  | .watchRead w _ t stopped => s'.enqueue b (.watchRead w .normal t stopped)

/-- The BULK items of a bus whose age reaches its aging limit, in queue order (R32). -/
def State.dueForPromotion (s : State) (b : BusIx) : List QItem :=
  (s.bus b).queue.filter fun it =>
    decide (s.itemClass it = .bulk) && agedOut (s.bus b).config.aging (s.itemAge it)

/-- Promote every BULK item whose age reaches the limit, in queue order (R32, R33). -/
def State.promoteDue (s : State) (b : BusIx) : State :=
  (s.dueForPromotion b).foldl (fun acc it => acc.promote b it) s

end Sys2Proof.Machine
end

