-- ==== Sys2Proof/Machine/Transactions.lean ====
section
/-! DEFINITION. Transactions (01_transactions.md): the end of a record, the retry decision (R75 to R77), SUBMIT and CANCEL. -/

namespace Sys2Proof.Machine

/-! ## The end of a record -/

/-- A record enters DONE with a result, its not-before time removed (R8, R15), and its RESULT is on its owner's
admission path (R21). -/
def State.finishRecord (s : State) (i : Fin 64) (status : Status) (failing : Option Nat) (bytes : Nat)
    (data : List Byte) : State :=
  match s.record i with
  | none => s
  | some r =>
    (s.putRecord i
      { r with
        state := .done
        notBefore := none
        spacingOver := false
        result := some { status := status, failing := failing, bytesCompleted := bytes, completionTime := s.clock,
                         readData := data } }).offer r.owner (.record i)

/-- A record ends with a status that no attempt produced (R15). -/
def State.finishWithoutAttempt (s : State) (i : Fin 64) (status : Status) : State :=
  s.finishRecord i status none 0 []

/-- A CLOSING session becomes CLOSED when no record of it is ACTIVE (R149). -/
def State.closeIfDone (s : State) (p : PortIx) : State :=
  if (s.session p).state = .closing ∧ s.activeCount p = 0 then s.modSession p fun x => { x with state := .closed }
  else s

/-! ## Attempt outcomes (R14, R19, R70, R75, R76) -/

/-- How an attempt ended. -/
inductive AttemptEnd where
  | ok
  | nackAddress
  | nackData
  | lost
  | stretchTimeout
  | busError
  /-- Stopped at a byte boundary by an abort (R19 case 5). -/
  | stoppedByAbort
  deriving DecidableEq, Repr

/-- The status of a record stopped under abort: ABORTED on an enabled bus, BUS_OFF on a disabled one (R19). -/
def State.abortStatus (s : State) (b : BusIx) : Status := if s.enabled b then .aborted else .busOff

/-- A record enters DONE from ACTIVE with the outcome of attempt `a`; a status other than OK moves the failed final
counter (R15, R180). -/
def State.finishAttempted (s : State) (i : Fin 64) (b : BusIx) (a : Attempt) (status : Status) : State :=
  let s' := if status = .ok then s else s.countBus b fun c => { c with failedFinal := satInc c.failedFinal }
  s'.finishRecord i status (if status = .ok then none else some a.segIndex) (a.written + a.readBytes.length)
    a.readBytes

/-- A record goes back to its queue for a retry (R77): its not-before time is set, its entry and deadline times are
kept, a BULK record whose age reaches the limit joins as NORMAL (R33), and one whose deadline time is reached ends
EXPIRED instead (R17). -/
def State.retryRecord (s : State) (i : Fin 64) (why : Status) : State :=
  match s.record i with
  | none => s
  | some r =>
    let b := r.bus
    let age := r.entryTime.elim 0 fun t => ageOf s.clock t r.ageStopped
    let r' : Record :=
      { r with
        state := .queued
        notBefore := some (addTime s.clock ((s.bus b).config.spacing.setWidth 16))
        spacingOver := false
        lastRetry := some why
        cls := if r.cls = .bulk ∧ agedOut (s.bus b).config.aging age then .normal else r.cls }
    if r.deadlineTime.any (reached s.clock) then (s.putRecord i r').finishWithoutAttempt i .expired
    else (s.putRecord i r').enqueue b (.record i)

/-- The record's side of an attempt's end: R19, and R75 and R76 for the retryable outcomes. -/
def State.recordOutcome (s : State) (i : Fin 64) (a : Attempt) (e : AttemptEnd) : State :=
  match s.record i with
  | none => s
  | some r =>
    if !s.isOpen r.owner then (s.freeRecord i).closeIfDone r.owner
    else
      match e with
      | .ok => s.finishAttempted i r.bus a .ok
      | .nackData => s.finishAttempted i r.bus a .nackData
      | .stretchTimeout => s.finishAttempted i r.bus a .stretchTimeout
      | .busError => s.finishAttempted i r.bus a .busError
      | .stoppedByAbort => s.finishAttempted i r.bus a (s.abortStatus r.bus)
      | .lost =>
        if r.noReplay && a.anyAcked then s.finishAttempted i r.bus a .lostPartial
        else if r.abortPending then s.finishAttempted i r.bus a (s.abortStatus r.bus)
        else if r.attempts ≤ r.budget then s.retryRecord i .lost
        else s.finishAttempted i r.bus a .lost
      | .nackAddress =>
        if !r.retryNack then s.finishAttempted i r.bus a .nackAddress
        else if r.abortPending then s.finishAttempted i r.bus a (s.abortStatus r.bus)
        else if r.attempts ≤ r.budget then s.retryRecord i .nackAddress
        else s.finishAttempted i r.bus a .nackAddress

/-! ## Abort pending (R18, R22, R58, R69) -/

/-- An abort cause reaches the attempt of bus `b`: the attempt's flag, and that of the record it runs (R5, R60). -/
def State.abortAttempt (s : State) (b : BusIx) : State :=
  match (s.bus b).engine with
  | .active (some a) =>
    let s' := s.setEngine b (.active (some { a with abortPending := true }))
    match a.item with
    | .record i => s'.modRecord i fun r => { r with abortPending := true }
    | .watch _ => s'
  | _ => s

/-- An abort cause reaches ACTIVE record `i` (R18, R22): its own flag, and its attempt's. -/
def State.abortRecord (s : State) (i : Fin 64) : State :=
  match s.record i with
  | none => s
  | some r =>
    let s' := s.putRecord i { r with abortPending := true }
    match (s'.bus r.bus).engine with
    | .active (some a) =>
      if a.item = .record i then s'.setEngine r.bus (.active (some { a with abortPending := true })) else s'
    | _ => s'

/-! ## SUBMIT (R11 to R13) -/

/-- A reply: the status byte and the fields after it (R183). -/
abbrev Reply := List Byte

/-- A reply of a status alone. -/
def answer (x : ReplyStatus) : Reply := [statusByte x]

/-- A declared segment as a record keeps it. -/
def RawSegment.toSegment (x : RawSegment) : Segment :=
  match x.dir with
  | .write => .write (x.addr.setWidth 7) x.data
  | .read => .read (x.addr.setWidth 7) x.count

/-- Check 4 of R11 for one address: it lies from 0x08 to 0x77 and is not the bus's own address (R118 check 4 alike). -/
def addressAllowed (own : Option Addr) (x : Byte) : Bool :=
  match addrOf x with
  | none => false
  | some a => decide (own ≠ some a)

/-- Check 5 of R11: the segment counts and lengths (R6). -/
def lengthsAllowed (segs : List RawSegment) : Bool :=
  decide (1 ≤ segs.length ∧ segs.length ≤ 6) &&
  segs.all (fun x => decide (x.count ≤ 64) && (decide (x.dir = .write) || decide (1 ≤ x.count))) &&
  decide ((segs.map RawSegment.count).sum ≤ 64)

/-- Check 6 of R11: the class, the retry budget and the flags. -/
def submitFieldsAllowed (x : SubmitBody) : Bool :=
  (classOf x.cls).isSome && decide (x.budget.toNat ≤ 7) &&
  decide (x.noReplay.toNat ≤ 1 ∧ x.retryNack.toNat ≤ 1 ∧ x.groupFlag.toNat ≤ 1)

/-- Check 7 of R11 (R105): the group a SUBMIT names, or the refusal. -/
def State.submitGroup (s : State) (p : PortIx) (x : SubmitBody) : Except ReplyStatus (Option (Fin 8 × GroupEntry)) :=
  if x.groupFlag = 1 then
    match s.findGroup x.groupId with
    | none => .error .unknownId
    | some (g, e) =>
      if e.owner ≠ p then .error .wrongOwner
      else if e.state ≠ .collecting then .error .wrongState
      else .ok (some (g, e))
  else .ok none

/-- The record a SUBMIT creates (R5): QUEUED with its times, or STAGED with none. -/
def newRecord (p : PortIx) (b : BusIx) (x : SubmitBody) (clock : Clock) (staged : Bool) : Record :=
  let deadline : Option Half := if x.deadline = 0 then none else some x.deadline
  let cls := (classOf x.cls).getD .normal
  { owner := p, bus := b, cls := cls, origCls := cls, noReplay := decide (x.noReplay = 1),
    retryNack := decide (x.retryNack = 1), budget := x.budget.toNat,
    group := if staged then some x.groupId else none,
    deadline := deadline, segments := x.segments.map RawSegment.toSegment,
    state := if staged then .staged else .queued,
    entryTime := if staged then none else some clock, ageStopped := false,
    deadlineTime := if staged then none else deadline.map (addTime clock),
    notBefore := none, spacingOver := false, attempts := 0, abortPending := false, lastRetry := none, result := none }

/-- An accepted SUBMIT into slot `i` (R12, R13). -/
def State.acceptSubmit (s : State) (p : PortIx) (b : BusIx) (x : SubmitBody) (g : Option (Fin 8 × GroupEntry))
    (i : Fin 64) : State :=
  match g with
  | none => (s.putRecord i (newRecord p b x s.clock false)).join b (.record i)
  | some (k, e) =>
    (s.putRecord i (newRecord p b x s.clock true)).putGroup k { e with staged := e.staged ++ [i] }

/-- Checks 2 to 9 of R11, in order, and acceptance. -/
def State.submitFields (s : State) (p : PortIx) (x : SubmitBody) : State × Reply :=
  match busOf x.bus with
  | none => (s, answer .badBus)
  | some b =>
    if x.groupFlag = 0 && !s.enabled b then (s, answer .busOff)
    else if !x.segments.all (fun g => addressAllowed (s.bus b).config.own g.addr) then (s, answer .badAddress)
    else if !lengthsAllowed x.segments then (s, answer .badLength)
    else if !submitFieldsAllowed x then (s, answer .badField)
    else
      match s.submitGroup p x with
      | .error e => (s, answer e)
      | .ok g =>
        if (s.session p).window ≤ s.windowUse p then (s, answer .windowFull)
        else
          match lowestFree s.records with
          | none => (s, answer .noSlot)
          | some i => (s.acceptSubmit p b x g i, [statusByte .ok, s.tagOf i])

/-- SUBMIT (R11). -/
def State.submitRequest (s : State) (p : PortIx) (body : List Byte) : State × Reply :=
  match parseSubmit body with
  | none => (s, answer .malformed)
  | some x => s.submitFields p x

/-! ## CANCEL (R18) -/

/-- A record leaves its group's staged list, wherever that is (R106). -/
def State.unstage (s : State) (i : Fin 64) : State :=
  { s with groups := s.groups.map fun c =>
      { c with entry := c.entry.map fun g => { g with staged := g.staged.filter fun j => decide (j ≠ i) } } }

/-- CANCEL (R18). -/
def State.cancelRequest (s : State) (p : PortIx) (body : List Byte) : State × Reply :=
  match parseByte body with
  | none => (s, answer .malformed)
  | some tag =>
    match s.findRecord tag with
    | none => (s, answer .unknownId)
    | some (i, r) =>
      if r.owner ≠ p then (s, answer .wrongOwner)
      else
        match r.state with
        | .staged => ((s.unstage i).finishWithoutAttempt i .cancelled, answer .ok)
        | .queued => ((s.dequeueRecord r.bus i).finishWithoutAttempt i .cancelled, answer .ok)
        | .active => (s.abortRecord i, answer .pending)
        | .done => (s, answer .tooLate)

/-! ## Times reached -/

/-- DEADLINE_EXPIRY (R17): a QUEUED record whose deadline time is reached leaves its queue and ends EXPIRED. On any
other record the deadline has no effect. -/
def State.deadlineReached (s : State) (i : Fin 64) : State :=
  match s.record i with
  | none => s
  | some r =>
    if r.state = .queued ∧ r.deadlineTime.any (reached s.clock) then
      (s.dequeueRecord r.bus i).finishWithoutAttempt i .expired
    else s

/-- NOT_BEFORE_REACHED (R31, R34): a wake event for the bus of a QUEUED record whose not-before time is reached. -/
def State.spacingReached (s : State) (i : Fin 64) : State :=
  match s.record i with
  | none => s
  | some r =>
    if r.state = .queued ∧ r.notBefore.any (fun t => r.spacingOver || reached s.clock t) then s.wake r.bus else s

end Sys2Proof.Machine
end

