-- ==== Sys2Proof/Machine/Target.lean ====
section
/-! DEFINITION. Target service (08_target_service.md): the target unit's owner, inbound slots, outbound buffer and read tally.
The engine's part is in Machine/Engine.lean. -/

namespace Sys2Proof.Machine

/-! ## The end of a transfer (R135 to R138, R140, R142) -/

/-- Change one inbound slot. -/
def State.setInSlot (s : State) (b : BusIx) (k : Fin 4) (c : InSlot) : State :=
  s.modTarget b fun t => { t with slots := t.slots.set k c }

/-- The write transfer in progress on bus `b`, if any, ends: its slot becomes COMPLETE and its TARGET_WRITE report
becomes pending, or EMPTY when the transfer carries the discard mark, which goes with it (R134 to R136, R141). -/
def State.completeWrite (s : State) (b : BusIx) (followedByRead : Bool) : State :=
  let t := (s.bus b).target
  match t.filling with
  | none => s
  | some k =>
    let s1 := s.countBus b fun c => { c with targetWrites := satInc c.targetWrites }
    if t.discard then
      (s1.setInSlot b k InSlot.empty).modTarget b fun x => { x with discard := false }
    else
      let s2 := s1.setInSlot b k
        { t.slots[k] with
          state := .complete
          followedByRead := followedByRead
          completionTime := some s.clock }
      match t.owner with
      | none => s2
      | some p => s2.offer p (.inbound b k)

/-- The tally after a read (R138). -/
def mergeTally (old : Option Tally) (r : ReadProgress) (clock : Clock) (remaining : Nat) : Tally :=
  match old with
  | none =>
    { reads := 1, fromBuffer := satOf r.fromBuffer, fillBytes := satOf r.fillBytes, lastEnd := clock,
      remaining := remaining }
  | some t =>
    { reads := satInc t.reads, fromBuffer := satOf (t.fromBuffer.toNat + r.fromBuffer),
      fillBytes := satOf (t.fillBytes.toNat + r.fillBytes), lastEnd := clock, remaining := remaining }

/-- The read in progress on bus `b`, if any, ends (R137): the target read counter, the deferred replacement (R140),
and, unless the transfer carries the discard mark, the owner's tally (R138). -/
def State.endRead (s : State) (b : BusIx) : State :=
  let t := (s.bus b).target
  match t.reading with
  | none => s
  | some r =>
    let outbound := t.deferred.getD t.outbound
    let s1 := (s.countBus b fun c => { c with targetReads := satInc c.targetReads }).modTarget b fun x =>
      { x with reading := none, deferred := none, outbound := outbound, discard := false }
    match t.owner with
    | none => s1
    | some p =>
      if t.discard || !(s.session p).maskTargetRead then s1
      else
        (s1.modTarget b fun x => { x with tally := some (mergeTally t.tally r s.clock outbound.length) }).offer p
          (.tally b)

/-- A transfer in progress is cut off (R142). -/
def State.cutOff (s : State) (b : BusIx) : State := (s.completeWrite b false).endRead b

/-! ## Being addressed (R133, R134) -/

/-- The acknowledge decision for the own address (R133): a write takes the lowest EMPTY slot of an owned unit, a read
begins on an owned unit, anything else is a refusal. -/
def State.judgeAddress (s : State) (b : BusIx) (dir : Direction) : State :=
  let t := (s.bus b).target
  let refused := s.countBus b fun c => { c with targetRefusals := satInc c.targetRefusals }
  match t.owner, dir with
  | none, _ => refused
  | some _, .write =>
    match t.lowestEmpty with
    | none => refused
    | some k => s.setInSlot b k { InSlot.empty with state := .filling }
  | some _, .read =>
    s.modTarget b fun x =>
      { x with reading := some { fromBuffer := 0, fillBytes := 0, sending := none, released := false } }

/-! ## Bytes (R135, R137) -/

/-- A data byte of the write transfer in progress (R135): stored while the slot holds fewer than 32, else overflow. -/
def State.storeByte (s : State) (b : BusIx) (x : Byte) : State :=
  match (s.bus b).target.filling with
  | none => s
  | some k =>
    let c := (s.bus b).target.slots[k]
    s.setInSlot b k
      (if c.data.length < Config.targetBytes then { c with data := c.data ++ [x] } else { c with overflow := true })

/-- The target unit takes the next byte of read `r` (R137): the oldest of the outbound buffer, or the fill byte, counted as
an underrun. -/
def State.takeByte (s : State) (b : BusIx) (r : ReadProgress) : State :=
  match (s.bus b).target.outbound with
  | x :: rest =>
    s.modTarget b fun y =>
      { y with outbound := rest, reading := some { r with fromBuffer := r.fromBuffer + 1, sending := some x } }
  | [] =>
    (s.countBus b fun c => { c with underruns := satInc c.underruns }).modTarget b fun y =>
      { y with reading := some { r with fillBytes := r.fillBytes + 1, sending := some (s.bus b).config.fill } }

/-- The acknowledge bit before a byte of the read in progress (R137): after an ACK the next byte is taken; after the
master's NACK the engine releases DAT and sends nothing more. The bit before the first byte is the 3400's own ACK. -/
def State.readAcknowledged (s : State) (b : BusIx) (ack : Bool) : State :=
  match (s.bus b).target.reading with
  | none => s
  | some r =>
    if r.released then s
    else if ack then s.takeByte b r
    else if r.sending.isNone then s
    else s.modTarget b fun y => { y with reading := some { r with sending := none, released := true } }

/-- The 3400 holds DAT low in clock `bit` of a byte of the transfer in progress: in the acknowledge bit of the own address or
of a byte of a write, up to the first byte that it NACKs (R135), and in each bit of a read byte that it sends as 0 (R137).
After an acknowledged read address the first byte is taken before its clocks begin, so only the acknowledge bit of the
address stands before it. -/
def Target.holdsLow (t : Target) (bit : Fin 9) : Bool :=
  match t.filling, t.reading with
  | some k, _ => decide (bit.val = 8) && !t.slots[k].overflow
  | none, some r =>
    match r.sending with
    | some x => if h : bit.val < 8 then !sentBit x ⟨bit.val, h⟩ else false
    | none => !r.released
  | none, none => false

/-! ## Ownership (R132, R141) -/

/-- The discard mark is set if a transfer is in progress (R141, R142, R151). -/
def Target.markDiscard (t : Target) : Target := if t.inTransfer then { t with discard := true } else t

/-- The unit's part of a loss of ownership (R141). -/
def Target.loseOwner (t : Target) : Target :=
  { t with
    owner := none
    slots := t.slots.map fun (c : InSlot) => if c.state = InState.complete then InSlot.empty else c
    outbound := []
    deferred := none
    tally := none }.markDiscard

/-- The sources of bus `b`'s target unit (R152). -/
def targetSource (b : BusIx) : Source → Bool
  | .inbound c _ => decide (c = b)
  | .tally c => decide (c = b)
  | _ => false

/-- Ownership of bus `b`'s target unit is lost by session `p` (R141). -/
def State.loseOwnership (s : State) (p : PortIx) (b : BusIx) : State :=
  (s.modTarget b Target.loseOwner).modSession p fun x =>
    { x with admission := x.admission.filter fun y => !targetSource b y }

/-- TARGET_OWN (R132). -/
def State.targetOwnRequest (s : State) (p : PortIx) (body : List Byte) : State × Reply :=
  match parseOwn body with
  | none => (s, answer .malformed)
  | some (x, on) =>
    match busOf x with
    | none => (s, answer .badBus)
    | some b =>
      if on = 1 then
        match (s.bus b).target.owner with
        | none => (s.modTarget b fun t => { t with owner := some p }, answer .ok)
        | some o => if o = p then (s, answer .ok) else (s, answer .inUse)
      else if on = 0 then
        if (s.bus b).target.owner = some p then (s.loseOwnership p b, answer .ok) else (s, answer .wrongOwner)
      else (s, answer .badField)

/-! ## TARGET_LOAD (R139) -/

/-- TARGET_LOAD REPLACE on an owned unit (R139). -/
def State.loadReplace (s : State) (b : BusIx) (bytes : List Byte) : State × Reply :=
  if (s.bus b).target.reading.isSome then
    (s.modTarget b fun t => { t with deferred := some bytes }, [statusByte .deferred, byteOf bytes.length])
  else (s.modTarget b fun t => { t with outbound := bytes }, [statusByte .ok, byteOf bytes.length])

/-- TARGET_LOAD APPEND on an owned unit (R139): it extends the deferred replacement when one is present, the live
buffer otherwise. -/
def State.loadAppend (s : State) (b : BusIx) (bytes : List Byte) : State × Reply :=
  match (s.bus b).target.deferred with
  | some d =>
    if Config.targetBytes < d.length + bytes.length then (s, answer .noRoom)
    else
      (s.modTarget b fun t => { t with deferred := some (d ++ bytes) },
        [statusByte .deferred, byteOf (d.length + bytes.length)])
  | none =>
    let o := (s.bus b).target.outbound
    if Config.targetBytes < o.length + bytes.length then (s, answer .noRoom)
    else
      (s.modTarget b fun t => { t with outbound := o ++ bytes }, [statusByte .ok, byteOf (o.length + bytes.length)])

/-- TARGET_LOAD (R139). -/
def State.targetLoadRequest (s : State) (p : PortIx) (body : List Byte) : State × Reply :=
  match parseLoad body with
  | none => (s, answer .malformed)
  | some (x, mode, bytes) =>
    match busOf x with
    | none => (s, answer .badBus)
    | some b =>
      if (s.bus b).target.owner ≠ some p then (s, answer .wrongOwner)
      else if 1 < mode.toNat then (s, answer .badField)
      else if Config.targetBytes < bytes.length then (s, answer .badLength)
      else if mode = 0 then s.loadReplace b bytes
      else s.loadAppend b bytes

end Sys2Proof.Machine
end

