-- ==== Sys2Proof/Machine/Watches.lean ====
section
/-! DEFINITION. Watches (07_watches.md). -/

namespace Sys2Proof.Machine

/-! ## WATCH_ADD (R118) -/

/-- The entry an accepted WATCH_ADD makes (R117, R118). -/
def newWatch (p : PortIx) (b : BusIx) (a : Addr) (x : WatchBody) (clock : Clock) : Watch :=
  { owner := some p, bus := b, addr := a, pointer := x.pointer, readLen := x.mask.length, mask := x.mask,
    period := x.period, state := .running, nextPeriod := some (addTime clock x.period), read := .none,
    lastReported := none, failures := 0, lastFailure := none, skipped := 0, valueReport := none,
    suspensionReport := none, suspensionFirst := false }

/-- WATCH_ADD, from check 2 of R118 on. The body's layout makes the mask as long as the read length. -/
def State.watchAddFields (s : State) (p : PortIx) (x : WatchBody) : State × Reply :=
  match busOf x.bus with
  | none => (s, answer .badBus)
  | some b =>
    if !s.enabled b then (s, answer .busOff)
    else if !addressAllowed (s.bus b).config.own x.addr then (s, answer .badAddress)
    else if 2 < x.pointer.length ∨ x.mask.length = 0 ∨ 4 < x.mask.length then (s, answer .badLength)
    else if x.period.toNat < 10 ∨ 60000 < x.period.toNat then (s, answer .badField)
    else
      match lowestFree s.watches with
      | none => (s, answer .noRoom)
      | some i =>
        (s.putWatch i (newWatch p b (x.addr.setWidth 7) x s.clock), [statusByte .ok, s.watchId i])

/-- WATCH_ADD (R118). -/
def State.watchAddRequest (s : State) (p : PortIx) (body : List Byte) : State × Reply :=
  match parseWatchAdd body with
  | none => (s, answer .malformed)
  | some x => s.watchAddFields p x

/-! ## Periods (R120) -/

/-- WATCH_PERIOD_EXPIRY (R120): a RUNNING watch whose next period time `t` is reached. The next one lies exactly one
period after `t`. -/
def State.periodExpired (s : State) (i : Fin 12) : State :=
  match s.watch i with
  | none => s
  | some w =>
    match w.nextPeriod with
    | none => s
    | some t =>
      if w.state ≠ .running ∨ !reached s.clock t then s
      else
        let next := { w with nextPeriod := some (addTime t w.period) }
        let skip := { next with skipped := satInc w.skipped }
        if !s.enabled w.bus then s.putWatch i skip
        else
          match w.read with
          | .active => s.putWatch i skip
          | .queued => (s.putWatch i { skip with read := .none }).dequeueWatch w.bus i
          | .none => (s.putWatch i { next with read := .queued }).join w.bus (.watchRead i .bulk t false)

/-! ## Outcomes (R122 to R124) -/

/-- Two values are equal under a mask (R123). -/
def equalUnder (mask x y : List Byte) : Bool :=
  decide (List.zipWith (· &&& ·) mask x = List.zipWith (· &&& ·) mask y)

/-- A successful read is compared with its reference, and a value report is made or coalesced (R123). -/
def compareValue (w : Watch) (value : List Byte) (clock : Clock) : Watch :=
  match w.valueReport with
  | some v =>
    if equalUnder w.mask v.value value then w
    else { w with valueReport := some { value := value, time := clock, coalesced := satInc v.coalesced } }
  | none =>
    if w.lastReported.any fun old => equalUnder w.mask old value then w
    else
      { w with
        valueReport := some { value := value, time := clock, coalesced := 0 }
        suspensionFirst := w.suspensionReport.isSome }

/-- A failed read (R124): the third in a row suspends the watch. -/
def failRead (w : Watch) (status : Status) : Watch :=
  let w' := { w with failures := w.failures + 1, lastFailure := some status }
  if w'.failures < 3 then w'
  else
    { w' with
      state := .suspended
      nextPeriod := none
      suspensionReport :=
        match w.suspensionReport with
        | none => some { status := status, suspensions := 1 }
        | some u => some { status := status, suspensions := satInc u.suspensions }
      suspensionFirst := if w.suspensionReport.isSome then w.suspensionFirst else w.valueReport.isNone }

/-- The status of a watch read that failed by itself (R117, last failure status). -/
def AttemptEnd.watchStatus : AttemptEnd → Status
  | .ok => .ok
  | .nackAddress => .nackAddress
  | .nackData => .nackData
  | .lost => .lost
  | .stretchTimeout => .stretchTimeout
  | .busError => .busError
  | .stoppedByAbort => .aborted

/-- A watch entry stands on its owner's path with whatever it holds (R128). -/
def State.offerWatch (s : State) (i : Fin 12) : State :=
  match s.watch i with
  | none => s
  | some w =>
    match w.owner with
    | none => s
    | some p => if w.valueReport.isSome || w.suspensionReport.isSome then s.offer p (.watch i) else s

/-- An outcome reaches the watch table (R121, R122). -/
def State.watchOutcome (s : State) (i : Fin 12) (a : Attempt) (e : AttemptEnd) : State :=
  match s.watch i with
  | none => s
  | some w =>
    let w0 := { w with read := .none }
    if w.state = .removing then s.freeWatch i
    else
      match e with
      | .stoppedByAbort => s.putWatch i w0
      | .ok => (s.putWatch i (compareValue { w0 with failures := 0 } a.readBytes s.clock)).offerWatch i
      | _ =>
        ((s.countBus w.bus fun c => { c with failedFinal := satInc c.failedFinal }).putWatch i
          (failRead w0 e.watchStatus)).offerWatch i

/-! ## WATCH_REMOVE and WATCH_RESUME (R119, R125, R126) -/

/-- A watch loses its pending reports and, by its owner, its place in the admission list (R126). -/
def State.discardWatchReports (s : State) (i : Fin 12) (w : Watch) : State :=
  let s' := s.putWatch i { w with valueReport := none, suspensionReport := none, suspensionFirst := false }
  match w.owner with
  | none => s'
  | some p => s'.dropSource p (.watch i)

/-- WATCH_REMOVE's effect on an entry that is not REMOVING (R126), and teardown's (R127): freed at once with read NONE
or QUEUED, else REMOVING with owner `owner`. -/
def State.removeWatch (s : State) (i : Fin 12) (w : Watch) (owner : Option PortIx) : State :=
  match w.read with
  | .active =>
    (s.discardWatchReports i w).modWatch i fun x =>
      { x with state := .removing, nextPeriod := none, owner := owner }
  | _ => ((s.discardWatchReports i w).dequeueWatch w.bus i).freeWatch i

/-- The checks WATCH_REMOVE and WATCH_RESUME share (R119). -/
def State.ownedWatch (s : State) (p : PortIx) (id : Byte) : Except ReplyStatus (Fin 12 × Watch) :=
  match s.findWatch id with
  | none => .error .unknownId
  | some (i, w) => if w.owner ≠ some p then .error .wrongOwner else .ok (i, w)

/-- WATCH_REMOVE (R126). -/
def State.watchRemoveRequest (s : State) (p : PortIx) (body : List Byte) : State × Reply :=
  match parseByte body with
  | none => (s, answer .malformed)
  | some id =>
    match s.ownedWatch p id with
    | .error e => (s, answer e)
    | .ok (i, w) =>
      if w.state = .removing then (s, answer .wrongState)
      else (s.removeWatch i w w.owner, [statusByte .ok, flagByte (decide (w.read = .active))])

/-- WATCH_RESUME (R125). -/
def State.watchResumeRequest (s : State) (p : PortIx) (body : List Byte) : State × Reply :=
  match parseByte body with
  | none => (s, answer .malformed)
  | some id =>
    match s.ownedWatch p id with
    | .error e => (s, answer e)
    | .ok (i, w) =>
      if w.state ≠ .suspended then (s, answer .wrongState)
      else
        (s.putWatch i
          { w with state := .running, failures := 0, nextPeriod := some (addTime s.clock w.period) }, answer .ok)

/-! ## Teardown (R127) -/

/-- Teardown of watch `i` if session `p` owns it (R127). -/
def State.tearWatch (s : State) (p : PortIx) (i : Fin 12) : State :=
  match s.watch i with
  | none => s
  | some w => if w.owner = some p then s.removeWatch i w none else s

/-- Teardown of the watches of session `p` (R127). -/
def State.tearWatches (s : State) (p : PortIx) : State :=
  (List.finRange 12).foldl (fun acc i => acc.tearWatch p i) s

end Sys2Proof.Machine
end

