-- ==== Sys2Proof/Machine/Engine.lean ====
section
/-! DEFINITION. The line monitor and the bus engine (03_line_monitor_and_bus_engine.md), arbitration, bus errors and recovery
(04_arbitration_retry_and_bus_recovery.md), and the engine's part of target service (R133, R142). -/

namespace Sys2Proof.Machine

/-! ## Entering an engine state -/

/-- The engine enters DISABLED: the monitor goes OFF in the same event, the fault reason is cleared and BUS_EVENT
DISABLED is offered (R54, R58, R87, R177). -/
def State.enterDisabled (s : State) (b : BusIx) : State :=
  (s.modBus b fun x =>
    { x with engine := .disabled, line := .off, following := false, faultReason := none }).offerBusEvent b .disabled

/-- The engine enters IDLE and applies R36 (R37, R56). -/
def State.enterIdle (s : State) (b : BusIx) : State := (s.setEngine b .idle).wake b

/-- The step that RECOVERY begins in, by what the lines show at entry with the 3400 off them: WAIT_CLOCK with CLK low; with CLK
high the wait ends at once, in PULSING with DAT low and in STOPPING with DAT high, on a bus that is not FREE (R80; log 28). -/
def stepAtEntry : Option Bool → RecoveryStep
  | none => .waitClock
  | some false => .pulsing
  | some true => .stopping

/-- The engine enters RECOVERY (R80). -/
def State.enterRecovery (s : State) (b : BusIx) (fromFault : Bool) (atEntry : Option Bool) : State :=
  (s.countBus b fun c => { c with recoveries := satInc c.recoveries }).modBus b fun x =>
    { x with
      engine := .recovery { step := stepAtEntry atEntry, pulses := 0, fromFault := fromFault }
      following := false }

/-- The attempt is over: the engine takes state `next`, or enters DISABLED on a disabled bus (R58). -/
def State.leaveAttempt (s : State) (b : BusIx) (next : State → State) : State :=
  if s.enabled b then next s else s.enterDisabled b

/-! ## The end of an attempt (R65 to R67, R70, R79) -/

/-- Hand the outcome of attempt `a` to its item's owner (R70). -/
def State.handOver (s : State) (a : Attempt) (e : AttemptEnd) : State :=
  match a.item with
  | .record i => s.recordOutcome i a e
  | .watch i => s.watchOutcome i a e

/-- The natural end and its stop, seen, move the completed OK counter, whatever the item's owner does with the outcome
(R180). -/
def State.countCompleted (s : State) (b : BusIx) (why : StopCause) : State :=
  if why = .naturalEnd then s.countBus b fun c => { c with completedOk := satInc c.completedOk } else s

/-- The outcome decided at the boundary that a stop follows (R65, R66). -/
def StopCause.outcome : StopCause → AttemptEnd
  | .naturalEnd => .ok
  | .addressNack => .nackAddress
  | .dataNack => .nackData
  | .aborted => .stoppedByAbort

/-- The engine's stop is seen (R65, R66): the outcome, then IDLE or, under a disable, DISABLED, or IDLE with the monitor
UNKNOWN for a bus enabled again (R58). The monitor is already FREE. -/
def State.endAtStop (s : State) (b : BusIx) (a : Attempt) (why : StopCause) : State :=
  ((s.countCompleted b why).handOver a why.outcome).leaveAttempt b fun t =>
    if a.underDisable then (t.setLine b .unknown).enterIdle b else t.enterIdle b

/-- An arbitration loss (R71 to R73): the counter, the outcome, then the address tail after a loss in an address byte,
else IDLE. A loss in the direction bit enters the tail too, and R74's comparison with the own address comes in the
ADDRESS_TAIL_DIRECTION_BIT that follows: R74 does not say whether it comes in the event of the loss (DESIGN CHOICE, log 40). -/
def State.lose (s : State) (b : BusIx) (a : Attempt) (e : AttemptEnd) (inAddress : Bool) : State :=
  ((s.countBus b fun c => { c with arbitrationLosses := satInc c.arbitrationLosses }).handOver a e).leaveAttempt b
    fun t => if inAddress then (t.setEngine b (.active none)).setFollowing b false else t.enterIdle b

/-- A bus error (R79). -/
def State.busError (s : State) (b : BusIx) (a : Attempt) : State :=
  ((s.countBus b fun c => { c with busErrors := satInc c.busErrors }).handOver a .busError).leaveAttempt b
    fun t => t.enterIdle b

/-- A stretch timeout, by the engine's episode, with CLK low, or by the monitor's STUCK (R57, R67). -/
def State.stretchEnd (s : State) (b : BusIx) (a : Attempt) (atEntry : Option Bool) : State :=
  ((s.countBus b fun c => { c with stretchTimeouts := satInc c.stretchTimeouts }).handOver a
    .stretchTimeout).leaveAttempt b fun t => t.enterRecovery b false atEntry

/-! ## The attempt on the wire (R60 to R65, R68) -/

/-- The phase once the acknowledge bit after a read byte is over. -/
def Phase.settled : Phase → Phase
  | .readAck _ .nextByte => .inByte
  | .readAck _ .repeatedStart => .repeatedStart
  | .readAck _ (.stop why) => .stop why
  | x => x

/-- The repeated start is made: the next segment's address byte begins (R65; log 8). -/
def Attempt.advance (a : Attempt) : Attempt :=
  { a with segIndex := a.segIndex + 1, byteIndex := 0, phase := .inByte }

/-- The attempt as it stands when an address byte's end is reported: after a repeated start, that segment's. -/
def Attempt.atAddress (a : Attempt) : Attempt :=
  if a.phase.settled = .repeatedStart then a.advance else { a with phase := a.phase.settled }

/-- What follows the byte boundary at a segment's end (R65, R68). -/
def Attempt.segmentEnd (a : Attempt) : Boundary :=
  if a.segments.length ≤ a.segIndex then .stop .naturalEnd
  else if a.abortPending then .stop .aborted
  else .repeatedStart

/-- What follows a byte boundary inside a segment (R68). -/
def Attempt.midSegment (a : Attempt) : Boundary := if a.abortPending then .stop .aborted else .nextByte

/-- The phase a boundary leads to. -/
def Boundary.phase : Boundary → Phase
  | .nextByte => .inByte
  | .repeatedStart => .repeatedStart
  | .stop why => .stop why

/-- The attempt as a start, a stop or a loss at a byte boundary meets it: past the acknowledge bit after a read byte. An
abort taken since that byte's eighth bit, when no stop was to follow, was taken in its acknowledge bit and stops the attempt
at this boundary (R68; log 36); one that was taken later, in the repeated start that follows, is met in that repeated start
instead (`Attempt.metAt`, `State.lostInCondition`). -/
def Attempt.atBoundary (a : Attempt) : Attempt :=
  match a.phase with
  | .readAck _ (.stop why) => { a with phase := .stop why }
  | .readAck _ follow => { a with phase := if a.abortPending then .stop .aborted else follow.phase }
  | .inByte | .repeatedStart | .stop _ => a

/-- An acknowledged address byte (R62): a probe is at its segment's end. -/
def Attempt.addressAcked (a : Attempt) (g : Segment) : Attempt :=
  let a' := { a with byteIndex := a.byteIndex + 1 }
  { a' with phase := (if g.count = 0 then a'.segmentEnd else a'.midSegment).phase }

/-- An acknowledged written byte (R63). -/
def Attempt.writtenAcked (a : Attempt) (g : Segment) : Attempt :=
  let a' := { a with byteIndex := a.byteIndex + 1, written := a.written + 1, anyAcked := true }
  { a' with phase := (if g.count ≤ a.byteIndex then a'.segmentEnd else a'.midSegment).phase }

/-- A received read byte (R64, R68): NACK on the segment's last byte or under abort, else ACK. -/
def Attempt.byteReceived (a : Attempt) (g : Segment) (x : Byte) : Attempt :=
  let last := decide (g.count ≤ a.byteIndex)
  let a' := { a with byteIndex := a.byteIndex + 1, readBytes := a.readBytes ++ [x] }
  { a' with phase := .readAck (last || a.abortPending) (if last then a'.segmentEnd else a'.midSegment) }

/-- ADDRESS_BYTE_ACKNOWLEDGE (R62). -/
def State.addressAck (s : State) (b : BusIx) (ack : Bool) : State :=
  match (s.bus b).engine with
  | .active (some a0) =>
    let a := a0.atAddress
    match a.phase, a.segment with
    | .inByte, some g =>
      if a.byteIndex ≠ 0 then s
      else if ack then s.setEngine b (.active (some (a.addressAcked g)))
      else
        (s.countBus b fun c => { c with addressNacks := satInc c.addressNacks }).setEngine b
          (.active (some { a with byteIndex := 1, phase := .stop .addressNack }))
    | _, _ => s
  | _ => s

/-- WRITE_BYTE_ACKNOWLEDGE (R63). -/
def State.writeAck (s : State) (b : BusIx) (ack : Bool) : State :=
  match (s.bus b).engine with
  | .active (some a) =>
    match a.phase, a.segment with
    | .inByte, some (.write addr data) =>
      if a.byteIndex = 0 then s
      else if ack then s.setEngine b (.active (some (a.writtenAcked (.write addr data))))
      else
        (s.countBus b fun c => { c with dataNacks := satInc c.dataNacks }).setEngine b
          (.active (some { a with byteIndex := a.byteIndex + 1, phase := .stop .dataNack }))
    | _, _ => s
  | _ => s

/-- READ_BYTE_RECEIVED (R64). -/
def State.readByte (s : State) (b : BusIx) (x : Byte) : State :=
  match (s.bus b).engine with
  | .active (some a) =>
    match a.phase.settled, a.segment with
    | .inByte, some (.read addr n) =>
      if a.byteIndex = 0 then s else s.setEngine b (.active (some (a.byteReceived (.read addr n) x)))
    | _, _ => s
  | _ => s

/-! ## Selection (R40, R41, R61) -/

/-- A fresh attempt (R60), at the bus's rate class (R175). -/
def freshAttempt (item : Item) (segments : List Segment) (rate : RateClass) : Attempt :=
  { item := item, segments := segments, rate := rate, segIndex := 1, byteIndex := 0, anyAcked := false,
    abortPending := false, written := 0, readBytes := [], phase := .inByte, underDisable := false }

/-- The engine issues a start for the selected item and enters ACTIVE; the monitor sees it and goes BUSY (R40, R61). -/
def State.startAttempt (s : State) (b : BusIx) (item : Item) (segments : List Segment) : State :=
  s.modBus b fun x =>
    { x with engine := .active (some (freshAttempt item segments x.config.rate)), line := .busy, following := false }

/-- The selected item leaves the queue and becomes the engine's attempt (R14, R40, R121). -/
def State.select (s : State) (b : BusIx) (it : QItem) : State :=
  match it with
  | .record i =>
    match s.record i with
    | none => s
    | some r =>
      ((s.dequeueRecord b i).putRecord i
        { r with state := .active, notBefore := none, spacingOver := false, attempts := r.attempts + 1 }).startAttempt b
        (.record i) r.segments
  | .watchRead w _ _ _ =>
    match s.watch w with
    | none => s
    | some x => ((s.dequeueWatch b w).putWatch w { x with read := .active }).startAttempt b (.watch w) x.segments

/-- BUS_FREE_WAIT_END (R40, R41): the first eligible item in queue order is selected, or the engine goes IDLE. -/
def State.waitEnd (s : State) (b : BusIx) : State :=
  match (s.bus b).engine with
  | .reserved true =>
    match (s.bus b).queue.find? (s.isEligible b) with
    | none => s.setEngine b .idle
    | some it => s.select b it
  | _ => s

/-! ## Recovery (R80 to R83) and FAULT (R85) -/

/-- Recovery ends in IDLE (R82): the event, the fault reason cleared, then R36. -/
def State.recoveryEnds (s : State) (b : BusIx) (r : Recovery) : State :=
  let s1 := (s.setEngine b .idle).modBus b fun x => { x with faultReason := none }
  let s2 :=
    if 0 < r.pulses then s1.offerBusEvent b (.recovered .pulsed)
    else if r.fromFault then s1.offerBusEvent b (.recovered .released)
    else s1
  s2.wake b

/-- Recovery ends in FAULT (R83). -/
def State.recoveryFault (s : State) (b : BusIx) (why : FaultReason) : State :=
  ((s.countBus b fun c => { c with faults := satInc c.faults }).modBus b fun x =>
    { x with engine := .fault, faultReason := some why }).offerBusEvent b (.fault why)

/-- A FAULT is left for IDLE (R85): the reason cleared, RECOVERED with reason RELEASED, then R36. -/
def State.leaveFault (s : State) (b : BusIx) : State :=
  (((s.setEngine b .idle).modBus b fun x => { x with faultReason := none }).offerBusEvent b
    (.recovered .released)).wake b

/-- RECOVERY_CLOCK_RISE (R80). -/
def State.recoveryRise (s : State) (b : BusIx) (datHigh : Bool) : State :=
  match (s.bus b).engine with
  | .recovery r =>
    if r.step ≠ .waitClock then s
    else if !datHigh then s.setEngine b (.recovery { r with step := .pulsing })
    else if (s.bus b).line = .free then s.recoveryEnds b r
    else s.setEngine b (.recovery { r with step := .stopping })
  | _ => s

/-- BUS_RECOVER on a FREE bus: both lines are high at entry, so that the wait ends at once, and recovery with it (R80). -/
def State.endIfQuiet (s : State) (b : BusIx) : State :=
  if (s.bus b).line = .free then s.recoveryRise b true else s

/-- RECOVERY_PULSE_END (R81). The pulses issued value moves here, when the pulse is over and DAT is read: the manual says
only that it moves with each pulse. DESIGN CHOICE (log 37). -/
def State.recoveryPulse (s : State) (b : BusIx) (datHigh : Bool) : State :=
  match (s.bus b).engine with
  | .recovery r =>
    if r.step ≠ .pulsing then s
    else if datHigh then s.setEngine b (.recovery { r with step := .stopping, pulses := r.pulses + 1 })
    else if 9 ≤ r.pulses + 1 then s.recoveryFault b .dataHeld
    else s.setEngine b (.recovery { r with pulses := r.pulses + 1 })
  | _ => s

/-- RECOVERY_CLOCK_TIMEOUT (R80, R81). -/
def State.recoveryTimeout (s : State) (b : BusIx) : State :=
  match (s.bus b).engine with
  | .recovery _ => s.recoveryFault b .clockHeld
  | _ => s

/-- RECOVERY_STOP_DATA_HELD (R81). -/
def State.recoveryStopHeld (s : State) (b : BusIx) : State :=
  match (s.bus b).engine with
  | .recovery r => if r.step = .stopping then s.recoveryFault b .dataHeld else s
  | _ => s

/-! ## Starts and stops (R51, R54, R72, R74, R78, R84, R142) -/

/-- What a start or stop in clock `bit` of the byte in progress is to an ACTIVE engine (R71, R78). -/
inductive Condition where
  /-- In a bit the engine drives as 1: an arbitration loss; in an address byte or not. -/
  | loss (inAddress : Bool)
  /-- In a bit the engine does not drive, or drives as ACK: a bus error. -/
  | busError
  /-- In a data or address bit the engine drives as 0: it cannot occur (R78). -/
  | impossible
  deriving DecidableEq, Repr

/-- R71 and R78, by the byte in progress: the engine drives the first eight bits of address bytes and written bytes, and
can lose those it sends as 1; and it drives the acknowledge bit after a read byte, which it can lose only when it is a
NACK: at the segment's end, or under abort (R68). -/
def Attempt.conditionAt (a : Attempt) (bit : Fin 9) : Condition :=
  match a.phase with
  | .readAck nack _ => if bit.val = 8 ∧ (nack || a.abortPending) then .loss false else .busError
  | .inByte | .repeatedStart | .stop _ =>
    if h : bit.val < 8 then
      match a.sending with
      | none => .busError
      | some x => if sentBit x ⟨bit.val, h⟩ then .loss (decide (a.byteIndex = 0)) else .impossible
    else .busError

/-- The attempt's phase as a start or stop at `place` meets it: the acknowledge bit after a read byte is still in
progress only when the condition falls in bit 8, and an abort stops the attempt at the boundary after that bit unless the
repeated start has begun (R68; log 36). -/
def Attempt.metAt (a : Attempt) (place : Place) : Attempt :=
  match place with
  | .inByte bit => if bit.val = 8 then a else { a with phase := a.phase.settled }
  | .boundary => a.atBoundary
  | .inRepeatedStart => { a with phase := a.phase.settled }

/-- A foreign start reaches an ACTIVE attempt (R51, R71, R72, R78). Between bytes no start can appear (R78; log 2). In a
repeated start it is a loss decided by R75, whatever abort is pending (R68, R72). -/
def State.startInAttempt (s : State) (b : BusIx) (a0 : Attempt) (place : Place) : State :=
  let a := a0.metAt place
  let t := (s.setLine b .busy).setFollowing b true
  match a.phase, place with
  | .repeatedStart, _ => t.lose b a .lost false
  | .stop why, _ => t.lose b a why.outcome false
  | _, .boundary | _, .inRepeatedStart => s
  | _, .inByte bit =>
    match a.conditionAt bit with
    | .loss inAddress => t.lose b a .lost inAddress
    | .busError => t.busError b a
    | .impossible => s

/-- A stop reaches an ACTIVE attempt (R51, R65, R66, R71, R72, R78): in the stop phase it is the engine's own. Between
bytes no stop can appear (R78; log 2). -/
def State.stopInAttempt (s : State) (b : BusIx) (a0 : Attempt) (place : Place) : State :=
  let a := a0.metAt place
  let t := s.setLine b .free
  match a.phase, place with
  | .stop why, _ => t.endAtStop b a why
  | .repeatedStart, _ => t.lose b a .lost false
  | _, .boundary | _, .inRepeatedStart => s
  | _, .inByte bit =>
    match a.conditionAt bit with
    | .loss _ => t.lose b a .lost false
    | .busError => t.busError b a
    | .impossible => s

/-- The place is in the middle of a byte. -/
def isMid : Place → Bool
  | .boundary | .inRepeatedStart => false
  | .inByte _ => true

/-- A condition in the middle of a byte of a transfer to the own address counts as a bus error (R142). -/
def State.countCutOff (s : State) (b : BusIx) (place : Place) : State :=
  if isMid place && (s.bus b).target.inTransfer && !(s.bus b).following then
    s.countBus b fun c => { c with busErrors := satInc c.busErrors }
  else s

/-- A start or stop in a bit that the 3400 holds low in a transfer to the own address: it cannot arise (R142), and has no
effect (log 2). -/
def State.heldLow (s : State) (b : BusIx) (place : Place) : Bool :=
  match place with
  | .inByte bit => !(s.bus b).following && (s.bus b).target.holdsLow bit
  | .boundary | .inRepeatedStart => false

/-- A start reaches a TARGET engine: a repeated start ends a read (R137) and leaves a write to the next direction bit
(R135); in the middle of a byte of a transfer it cuts the transfer off (R142). The next address byte is followed. -/
def State.startInTarget (s : State) (b : BusIx) (place : Place) : State :=
  let s1 := s.countCutOff b place
  let s2 := if isMid place && !(s.bus b).following then s1.cutOff b else s1.endRead b
  s2.setFollowing b true

/-- A stop reaches a TARGET engine (R133, R135, R137): the transfer in progress ends, and the engine goes IDLE, leaving
FAULT if it came from there (R85). The monitor is already FREE. -/
def State.stopInTarget (s : State) (b : BusIx) (place : Place) : State :=
  let s1 := (s.countCutOff b place).cutOff b
  if (s.bus b).faultReason.isSome then s1.leaveFault b else s1.enterIdle b

/-- START_SEEN (R51): the monitor goes BUSY, and the engine hears of it. A start of the 3400's own is a repeated start
made (R65), or the start of the attempt, which BUS_FREE_WAIT_END has taken already (log 7). -/
def State.startSeen (s : State) (b : BusIx) (maker : Maker) (place : Place) : State :=
  match maker, (s.bus b).engine with
  | _, .disabled => s
  | .broker, .active (some a) =>
    if a.phase.settled = .repeatedStart then (s.setLine b .busy).setEngine b (.active (some a.advance)) else s
  | .broker, _ => s
  | .foreign, .active (some a) => s.startInAttempt b a place
  | .foreign, .active none => ((s.setLine b .busy).setFollowing b true).enterIdle b
  | .foreign, .idle => (s.setLine b .busy).setFollowing b true
  | .foreign, .fault => (s.setLine b .busy).setFollowing b true
  | .foreign, .reserved _ => ((s.setLine b .busy).setFollowing b true).abandonWait b
  | .foreign, .target => if s.heldLow b place then s else (s.setLine b .busy).startInTarget b place
  | .foreign, .recovery r => ((s.setLine b .busy).setFollowing b true).recoveryEnds b r

/-- STOP_SEEN (R51): the monitor goes FREE, and the engine hears of it. -/
def State.stopSeen (s : State) (b : BusIx) (place : Place) : State :=
  match (s.bus b).engine with
  | .disabled => s
  | .active (some a) => s.stopInAttempt b a place
  | .active none => (s.setLine b .free).enterIdle b
  | .idle => (s.setLine b .free).setFollowing b false
  | .fault => (s.setLine b .free).setFollowing b false
  | .reserved _ => ((s.setLine b .free).setFollowing b false).reportFree b
  | .target =>
    if s.heldLow b place then s else ((s.setLine b .free).stopInTarget b place).setFollowing b false
  | .recovery r => (s.setLine b .free).recoveryEnds b r

/-- CLK_LOW_ON_FREE_BUS (R53): on a FREE bus alone. -/
def State.clkLow (s : State) (b : BusIx) : State :=
  if (s.bus b).line = .free then
    ((s.setLine b .busy).countBus b fun c => { c with busErrors := satInc c.busErrors }).abandonWait b
  else s

/-- IDLE_DETECT (R52): in every line state except OFF. It ends a recovery (R84) and a FAULT (R85). It cannot arise while
the engine clocks an attempt (log 2); in an address tail and in TARGET it moves the monitor alone (log 19). -/
def State.idleSeen (s : State) (b : BusIx) : State :=
  if (s.bus b).line = .off then s
  else
    let s' := s.setLine b .free
    match (s.bus b).engine with
    | .reserved _ => (s'.setFollowing b false).reportFree b
    | .recovery r => s'.recoveryEnds b r
    | .fault => (s'.setFollowing b false).leaveFault b
    | .idle => s'.setFollowing b false
    | .active (some _) => s
    | .active none | .target | .disabled => s'

/-- The monitor's STUCK report reaches the engine (R57, R74), which lets go of both lines. -/
def State.stuckReport (s : State) (b : BusIx) (atEntry : Option Bool) : State :=
  match (s.bus b).engine with
  | .idle | .reserved _ | .active none => s.enterRecovery b false atEntry
  | .active (some a) => s.stretchEnd b a atEntry
  | .target => (s.cutOff b).enterRecovery b false atEntry
  | .disabled | .recovery _ | .fault => s

/-- STUCK_DETECTED (R51): from UNKNOWN and BUSY alone. -/
def State.stuckSeen (s : State) (b : BusIx) (atEntry : Option Bool) : State :=
  match (s.bus b).line with
  | .unknown | .busy => (s.setLine b .stuck).stuckReport b atEntry
  | .off | .free | .stuck => s

/-- STRETCH_TIMEOUT (R67): an episode of an ACTIVE engine with an attempt. -/
def State.stretched (s : State) (b : BusIx) : State :=
  match (s.bus b).engine with
  | .active (some a) => s.stretchEnd b a none
  | _ => s

/-! ## Arbitration losses (R71, R72, R74) -/

/-- The attempt as a loss in `bit` meets it, or none where that bit cannot be lost: it is not the engine's, or it is sent
as 0 (R71). -/
def Attempt.lossMet (a : Attempt) (bit : LossBit) : Option Attempt :=
  match bit with
  | .addressByte k =>
    let a' := a.atAddress
    if a'.byteIndex = 0 ∧ a'.sending.any (sentBit · k) then some a' else none
  | .writtenByte k => if a.byteIndex ≠ 0 ∧ a.sending.any (sentBit · k) then some a else none
  | .readNack =>
    match a.phase with
    | .readAck nack _ => if nack || a.abortPending then some a else none
    | .inByte | .repeatedStart | .stop _ => none

/-- A loss in this bit is a loss in an address byte (R73). -/
def inAddressByte : LossBit → Bool
  | .addressByte _ => true
  | .writtenByte _ | .readNack => false

/-- ARBITRATION_LOSS (R71, R73). -/
def State.arbitrationLost (s : State) (b : BusIx) (bit : LossBit) : State :=
  match (s.bus b).engine with
  | .active (some a0) =>
    match a0.lossMet bit with
    | none => s
    | some a => s.lose b a .lost (inAddressByte bit)
  | _ => s

/-- LOSS_IN_REPEATED_START_OR_STOP (R72). A loss in a repeated start is decided by R75, whatever abort is pending; the
operand tells the two conditions apart after a read byte, where the state does not (R68; log 36). -/
def State.lostInCondition (s : State) (b : BusIx) (inRepeatedStart : Bool) : State :=
  match (s.bus b).engine with
  | .active (some a0) =>
    let a := a0.metAt (if inRepeatedStart then .inRepeatedStart else .boundary)
    match a.phase with
    | .repeatedStart => s.lose b a .lost false
    | .stop why => s.lose b a why.outcome false
    | _ => s
  | _ => s

/-- ADDRESS_TAIL_DIRECTION_BIT (R74): TARGET on the own address, IDLE otherwise. -/
def State.tailEnds (s : State) (b : BusIx) (addr : Addr) (dir : Direction) : State :=
  match (s.bus b).engine with
  | .active none =>
    if (s.bus b).config.own = some addr then (s.setEngine b .target).judgeAddress b dir else s.enterIdle b
  | _ => s

/-! ## Foreign address bytes and target bytes (R133, R135, R137) -/

/-- The engine follows foreign address bytes in this state (R133). -/
def Engine.follows : Engine → Bool
  | .idle | .reserved _ | .fault | .target => true
  | _ => false

/-- The direction bit of a foreign address byte is taken (R133, R135). A write transfer that a repeated start left open
completes in this event; the own address then takes the engine into TARGET and is judged. -/
def State.foreignAddress (s : State) (b : BusIx) (addr : Addr) (dir : Direction) : State :=
  let x := s.bus b
  if !(x.following && x.engine.follows) then s
  else
    let own := decide (x.config.own = some addr)
    let s1 := (s.setFollowing b false).completeWrite b (own && decide (dir = .read))
    if own then (s1.setEngine b .target).judgeAddress b dir else s1

/-- FOREIGN_OWN_ADDRESS (R133): the own address, if one is set. -/
def State.foreignOwn (s : State) (b : BusIx) (dir : Direction) : State :=
  match (s.bus b).config.own with
  | none => s
  | some a => s.foreignAddress b a dir

/-- FOREIGN_ADDRESS_OTHER (R133, R135): an address byte that names an address other than the own address. -/
def State.foreignOther (s : State) (b : BusIx) (addr : Addr) (dir : Direction) : State :=
  if (s.bus b).config.own = some addr then s else s.foreignAddress b addr dir

/-- TARGET_WRITE_BYTE (R135). -/
def State.targetByte (s : State) (b : BusIx) (x : Byte) : State :=
  if (s.bus b).engine = .target && !(s.bus b).following then s.storeByte b x else s

/-- TARGET_READ_BYTE_TAKEN (R137). -/
def State.targetTake (s : State) (b : BusIx) (ack : Bool) : State :=
  if (s.bus b).engine = .target then s.readAcknowledged b ack else s

end Sys2Proof.Machine
end

