-- ==== Sys2Proof/Machine/Buses.lean ====
section
/-! DEFINITION. Bus configuration (11_bus_configuration_status_and_counters.md): BUS_CONFIGURE, enabling and disabling a bus;
and BUS_RECOVER (R86). -/

namespace Sys2Proof.Machine

/-! ## Disable (R177) and enable (R176) -/

/-- One item of a disabled bus's queue (R23, R43, R127): a record ends BUS_OFF, a watch read is discarded. -/
def State.dropItem (s : State) : QItem → State
  | .record i => s.finishWithoutAttempt i .busOff
  | .watchRead w _ _ _ => s.modWatch w fun x => { x with read := .none }

/-- The queue of a disabled bus is emptied, in queue order (R43, R177). -/
def State.clearQueue (s : State) (b : BusIx) : State :=
  ((s.bus b).queue.foldl (fun acc it => acc.dropItem it) (s.setQueue b []))

/-- The engine's part of a disable (R58): a transfer is cut off, an attempt finishes under abort, anything else enters
DISABLED at once. -/
def State.disableEngine (s : State) (b : BusIx) : State :=
  match (s.bus b).engine with
  | .disabled => s
  | .active (some _) =>
    (s.abortAttempt b).modBus b fun x =>
      match x.engine with
      | .active (some a) => { x with engine := .active (some { a with underDisable := true }) }
      | _ => x
  | .target => (s.cutOff b).enterDisabled b
  | .idle | .reserved _ | .active none | .recovery _ | .fault => s.enterDisabled b

/-- Set a bus's configuration. -/
def State.modConfig (s : State) (b : BusIx) (f : BusConfig → BusConfig) : State :=
  s.modBus b fun x => { x with config := f x.config }

/-- A disable of an enabled bus (R177). -/
def State.disableBus (s : State) (b : BusIx) : State :=
  ((s.modConfig b fun c => { c with enabled := false }).clearQueue b).disableEngine b

/-- An enable of a disabled bus (R59, R176): a DISABLED engine goes IDLE and its monitor UNKNOWN; an engine still
finishing an attempt stays ACTIVE. -/
def State.enableBus (s : State) (b : BusIx) : State :=
  let s' := s.modConfig b fun c => { c with enabled := true }
  match (s.bus b).engine with
  | .disabled => (s'.setLine b .unknown).enterIdle b
  | _ => s'

/-! ## BUS_CONFIGURE (R174, R175) -/

/-- The configuration a BUS_CONFIGURE body asks for, when its values pass checks 4 and 5 of R174, or the refusal. -/
def configOf (x : ConfigBody) : Except ReplyStatus BusConfig :=
  if x.own ≠ 0xFF ∧ (addrOf x.own).isNone then .error .badAddress
  else
    match rateOf x.rate with
    | none => .error .badField
    | some rate =>
      if 1 < x.enable.toNat ∨ x.stretch = 0 ∨ (1 ≤ x.aging.toNat ∧ x.aging.toNat ≤ 9) ∨ 10000 < x.aging.toNat then
        .error .badField
      else
        .ok { enabled := decide (x.enable = 1), rate := rate, stretch := x.stretch, spacing := x.spacing,
              aging := x.aging, own := addrOf x.own, fill := x.fill }

/-- The values other than the enable apply (R175); a changed aging limit promotes at once (R33). -/
def State.applyValues (s : State) (b : BusIx) (c : BusConfig) : State :=
  let old := (s.bus b).config
  let s' := s.modConfig b fun x => { c with enabled := x.enabled }
  if c.aging ≠ old.aging then s'.promoteDue b else s'

/-- An accepted BUS_CONFIGURE (R175): a disable comes before the values, an enable after them. -/
def State.applyConfig (s : State) (b : BusIx) (c : BusConfig) : State :=
  if s.enabled b then
    if c.enabled then s.applyValues b c else (s.disableBus b).applyValues b c
  else
    if c.enabled then (s.applyValues b c).enableBus b else s.applyValues b c

/-- The nine bytes of a bus's configuration (section 12.3), as it stands. -/
def configBytes (b : BusIx) (c : BusConfig) : List Byte :=
  [byteOf b.val, flagByte c.enabled, rateCode c.rate, c.stretch, c.spacing] ++ be16 c.aging ++ [ownCode c.own, c.fill]

/-- BUS_CONFIGURE (R174). -/
def State.busConfigureRequest (s : State) (p : PortIx) (body : List Byte) : State × Reply :=
  match parseConfigure body with
  | none => (s, answer .malformed)
  | some x =>
    if !s.isPrimary p then (s, answer .denied)
    else
      match busOf x.bus with
      | none => (s, answer .badBus)
      | some b =>
        match configOf x with
        | .error e => (s, answer e)
        | .ok c =>
          let old := (s.bus b).config
          if old.enabled ∧ c.enabled ∧ (c.rate ≠ old.rate ∨ c.own ≠ old.own) then (s, answer .wrongState)
          else
            let s' := s.applyConfig b c
            (s', statusByte .ok :: configBytes b (s'.bus b).config ++
              [engineCode (s'.bus b).engine, lineCode (s'.bus b).line])

/-! ## BUS_RECOVER (R86) -/

/-- BUS_RECOVER (R86). -/
def State.busRecoverRequest (s : State) (body : List Byte) : State × Reply :=
  match parseByte body with
  | none => (s, answer .malformed)
  | some x =>
    match busOf x with
    | none => (s, answer .badBus)
    | some b =>
      if !s.enabled b then (s, answer .busOff)
      else
        match (s.bus b).engine with
        | .idle | .reserved _ => ((s.enterRecovery b false none).endIfQuiet b, answer .ok)
        | .fault => ((s.enterRecovery b true none).endIfQuiet b, answer .ok)
        | .active _ | .target | .recovery _ | .disabled => (s, answer .wrongState)

/-- The engine performs recovery. -/
def Engine.recovering : Engine → Bool
  | .recovery _ => true
  | .disabled | .idle | .reserved _ | .active _ | .target | .fault => false

/-- The end of a BUS_RECOVER that was taken at state `before`: on the bus that has entered RECOVERY, CLK high at entry, with
DAT at level `dat`, ends the wait for the clock at once (R80). -/
def State.clockAtEntry (s before : State) (body : RecoverBody) : State :=
  match body.atEntry, (parseByte body.bytes).bind busOf with
  | some dat, some b => if (before.bus b).engine.recovering then s else s.recoveryRise b dat
  | _, _ => s

end Sys2Proof.Machine
end

