-- ==== Sys2Proof/Machine/Groups.lean ====
section
/-! DEFINITION. Staged groups and trigger lines (06_staged_groups_and_trigger_lines.md). -/

namespace Sys2Proof.Machine

/-! ## Requests (R104 to R108) -/

/-- GROUP_CREATE (R104). -/
def State.groupCreateRequest (s : State) (p : PortIx) (body : List Byte) : State × Reply :=
  if body ≠ [] then (s, answer .malformed)
  else
    match lowestFree s.groups with
    | none => (s, answer .noRoom)
    | some i =>
      (s.putGroup i
        { owner := p, state := .collecting, staged := [], binding := none, fireCount := 0, ignored := 0,
          report := none }, [statusByte .ok, s.groupId i])

/-- The checks a group request shares (R105): the id, then the owner. -/
def State.ownedGroup (s : State) (p : PortIx) (id : Byte) : Except ReplyStatus (Fin 8 × GroupEntry) :=
  match s.findGroup id with
  | none => .error .unknownId
  | some (i, g) => if g.owner ≠ p then .error .wrongOwner else .ok (i, g)

/-- GROUP_ARM (R107). -/
def State.groupArmRequest (s : State) (p : PortIx) (body : List Byte) : State × Reply :=
  match parseByte body with
  | none => (s, answer .malformed)
  | some id =>
    match s.ownedGroup p id with
    | .error e => (s, answer e)
    | .ok (i, g) =>
      match g.state with
      | .armed => (s, answer .wrongState)
      | .collecting => (s.putGroup i { g with state := .armed }, answer .ok)

/-- The group a trigger line is bound to: the entry whose binding names it (R103). -/
def State.boundGroup (s : State) (l : TriggerLine) : Option (Fin 8) :=
  (List.finRange 8).find? fun i => (s.group i).any fun g => g.binding.any fun x => decide (x.line = l)

/-- The sampled level of a trigger line (R109). -/
def State.level (s : State) : TriggerLine → Bool
  | .t0 => s.levels.t0
  | .t1 => s.levels.t1

/-- GROUP_BIND with a line named (R108). -/
def State.bindLine (s : State) (i : Fin 8) (g : GroupEntry) (l : TriggerLine) (edge : Byte) : State × Reply :=
  match edgeOf edge with
  | none => (s, answer .badField)
  | some e =>
    if (s.boundGroup l).any fun j => decide (j ≠ i) then (s, answer .inUse)
    else (s.putGroup i { g with binding := some { line := l, edge := e } }, answer .ok)

/-- GROUP_BIND (R108). -/
def State.groupBindRequest (s : State) (p : PortIx) (body : List Byte) : State × Reply :=
  match parseBind body with
  | none => (s, answer .malformed)
  | some (id, line, edge) =>
    match s.ownedGroup p id with
    | .error e => (s, answer e)
    | .ok (i, g) =>
      if line = 0 then (s.putGroup i { g with binding := none }, answer .ok)
      else if line = 1 then s.bindLine i g .t0 edge
      else if line = 2 then s.bindLine i g .t1 edge
      else (s, answer .badField)

/-! ## Fire (R110 to R112) -/

/-- One staged record at a fire (R110): QUEUED with its times on an enabled bus, DONE with BUS_OFF on a disabled one. -/
def State.fireRecord (s : State) (i : Fin 64) : State :=
  match s.record i with
  | none => s
  | some r =>
    if s.enabled r.bus then
      (s.putRecord i
        { r with
          state := .queued
          entryTime := some s.clock
          deadlineTime := r.deadline.map (addTime s.clock) }).join r.bus (.record i)
    else s.finishWithoutAttempt i .busOff

/-- How many of these records' buses are enabled: the records a fire queues (R110, R111). -/
def State.firedCount (s : State) (staged : List (Fin 64)) : Nat :=
  (staged.filter fun i => (s.record i).any fun r => s.enabled r.bus).length

/-- The fire report after a fire (R112). -/
def mergeFire (old : Option FireReport) (queued endedOff : Nat) (source : FireSource) (time : Clock)
    (fireCount : Half) : FireReport :=
  match old with
  | none =>
    { queued := satOf queued, endedOff := satOf endedOff, fires := 1, source := source, fireTime := time,
      fireCount := fireCount }
  | some f =>
    { queued := satAdd f.queued (satOf queued), endedOff := satAdd f.endedOff (satOf endedOff),
      fires := satInc f.fires, source := source, fireTime := time, fireCount := fireCount }

/-- A fire of entry `i` (R110): its records in staging order, then the entry COLLECTING and empty, its fire count, and
its GROUP_FIRED report. -/
def State.fire (s : State) (i : Fin 8) (g : GroupEntry) (source : FireSource) : State :=
  let queued := s.firedCount g.staged
  let s1 := g.staged.foldl (fun acc j => acc.fireRecord j) s
  let count := satInc g.fireCount
  let s2 := s1.putGroup i
    { g with
      state := .collecting
      staged := []
      fireCount := count
      report := some (mergeFire g.report queued (g.staged.length - queued) source s.clock count) }
  s2.offer g.owner (.group i)

/-- GROUP_FIRE (R111). -/
def State.groupFireRequest (s : State) (p : PortIx) (body : List Byte) : State × Reply :=
  match parseByte body with
  | none => (s, answer .malformed)
  | some id =>
    match s.ownedGroup p id with
    | .error e => (s, answer e)
    | .ok (i, g) =>
      let queued := s.firedCount g.staged
      (s.fire i g .request, [statusByte .ok, byteOf queued, byteOf (g.staged.length - queued)])

/-- A binding's edge selects this level change (R109). -/
def Edge.selects : Edge → Bool → Bool
  | .rising, up => up
  | .falling, up => !up
  | .both, _ => true

/-- A sampled edge of a line reaches the group table (R109). -/
def State.edge (s : State) (l : TriggerLine) (rising : Bool) : State :=
  match s.boundGroup l with
  | none => s
  | some i =>
    match s.group i with
    | none => s
    | some g =>
      if g.binding.any fun x => x.edge.selects rising then
        match g.state with
        | .armed => s.fire i g (.line l)
        | .collecting => s.putGroup i { g with ignored := satInc g.ignored }
      else s

/-- Store a trigger line's sampled level (R109). -/
def State.setLevel (s : State) (l : TriggerLine) (high : Bool) : State :=
  match l with
  | .t0 => { s with levels := { s.levels with t0 := high } }
  | .t1 => { s with levels := { s.levels with t1 := high } }

/-- TRIGGER_EDGE: a sample at the level the line already has is no edge (R109). -/
def State.sampleLine (s : State) (l : TriggerLine) (rising : Bool) : State :=
  if s.level l = rising then s else (s.setLevel l rising).edge l rising

/-! ## Deleting (R113) and teardown (R115) -/

/-- GROUP_DELETE (R113). -/
def State.deleteGroup (s : State) (i : Fin 8) (g : GroupEntry) : State :=
  let s1 := s.putGroup i { g with staged := [] }
  let s2 := g.staged.foldl (fun acc j => acc.finishWithoutAttempt j .cancelled) s1
  (s2.dropSource g.owner (.group i)).freeGroup i

/-- GROUP_DELETE (R113). -/
def State.groupDeleteRequest (s : State) (p : PortIx) (body : List Byte) : State × Reply :=
  match parseByte body with
  | none => (s, answer .malformed)
  | some id =>
    match s.ownedGroup p id with
    | .error e => (s, answer e)
    | .ok (i, g) =>
      (s.deleteGroup i g,
        statusByte .ok :: byteOf g.staged.length :: be16 (g.report.elim 0 FireReport.fires))

/-- Teardown deletes every group entry of session `p` (R115). -/
def State.freeGroupsOf (s : State) (p : PortIx) : State :=
  { s with groups := s.groups.map fun c =>
      match c.entry with
      | none => c
      | some g => if g.owner = p then { gen := c.gen + 1, entry := none } else c }

end Sys2Proof.Machine
end

