-- ==== Sys2Proof/Machine/Leases.lean ====
section
/-! DEFINITION. Leases (05_leases.md): CLAIM, re-examination, RENEW, RELEASE, REVOKE and expiry. -/

namespace Sys2Proof.Machine

/-- Two address ranges overlap (R90). -/
def rangesOverlap (low1 high1 low2 high2 : Addr) : Bool :=
  decide (low1.toNat ≤ high2.toNat ∧ low2.toNat ≤ high1.toNat)

/-- A claim of `p` for a range on bus `b` conflicts with entry `e` (R90): another session's GRANTED or WAITING entry
on the same bus whose range overlaps. -/
def Lease.conflicts (e : Lease) (p : PortIx) (b : BusIx) (low high : Addr) : Bool :=
  decide (e.owner ≠ p) && decide (e.bus = b) && decide (e.state ≠ .ended) && rangesOverlap low high e.low e.high

/-- The claim conflicts (R90). -/
def State.claimConflicts (s : State) (p : PortIx) (b : BusIx) (low high : Addr) : Bool :=
  s.leases.toList.any fun c => c.entry.any fun e => e.conflicts p b low high

/-- Grant entry `e`: grant time now, expiry time now plus its duration (R90, R91). -/
def Lease.grantAt (e : Lease) (clock : Clock) : Lease :=
  { e with state := .granted, grantTime := some clock, expiryTime := some (addTime clock e.duration) }

/-- A walk's test of WAITING entry `e` (R91): its range overlaps a GRANTED entry of another session on the bus, or an
entry of another session that stands earlier in the order and is still WAITING. -/
def State.walkBlocked (s : State) (e : Lease) (kept : List (Fin 16)) : Bool :=
  (s.leases.toList.any fun c => c.entry.any fun g =>
    decide (g.state = .granted) && g.conflicts e.owner e.bus e.low e.high) ||
  kept.any fun k => (s.lease k).any fun g => g.conflicts e.owner e.bus e.low e.high

/-- One grant of a walk: the entry becomes GRANTED and its LEASE_GRANTED report becomes pending (R91, R97). -/
def State.grantWaiting (s : State) (i : Fin 16) (e : Lease) : State :=
  (s.putLease i { e.grantAt s.clock with report := .granted }).offer e.owner (.lease i)

/-- The walk of a waiting order from its head (R91). `kept` holds the entries that stay WAITING, in order. -/
def State.walkWaiting (s : State) (b : BusIx) (kept : List (Fin 16)) : List (Fin 16) → State
  | [] => s.setWaiting b kept
  | i :: rest =>
    match s.lease i with
    | none => State.walkWaiting s b kept rest
    | some e =>
      if s.walkBlocked e kept then State.walkWaiting s b (kept ++ [i]) rest
      else State.walkWaiting (s.grantWaiting i e) b kept rest

/-- Re-examination of a bus (R91). -/
def State.reexamine (s : State) (b : BusIx) : State := s.walkWaiting b [] (s.waitingOrder b)

/-- An entry leaves its bus's waiting order (R88). -/
def State.leaveWaiting (s : State) (b : BusIx) (i : Fin 16) : State :=
  s.setWaiting b ((s.waitingOrder b).filter fun j => decide (j ≠ i))

/-- What follows when an entry of bus `b` has left GRANTED or WAITING: re-examination, and the wake event of R37 when
it had been GRANTED (R31, R91, R99). -/
def State.afterLeaseLeft (s : State) (b : BusIx) (wasGranted : Bool) : State :=
  let s' := s.reexamine b
  if wasGranted then s'.wake b else s'

/-! ## CLAIM (R89, R90) -/

/-- An accepted CLAIM into slot `i` (R90). -/
def State.acceptClaim (s : State) (p : PortIx) (b : BusIx) (low high : Addr) (duration : Half) (conflict : Bool)
    (i : Fin 16) : State :=
  let e : Lease :=
    { owner := p, bus := b, low := low, high := high, duration := duration, state := .waiting,
      claimTime := s.clock, grantTime := none, expiryTime := none, endReason := none, endTime := none,
      report := .none }
  if conflict then (s.putLease i e).setWaiting b (s.waitingOrder b ++ [i])
  else s.putLease i (e.grantAt s.clock)

/-- CLAIM, from check 2 of R89 on. -/
def State.claimFields (s : State) (p : PortIx) (x : ClaimBody) : State × Reply :=
  match busOf x.bus with
  | none => (s, answer .badBus)
  | some b =>
    if !s.enabled b then (s, answer .busOff)
    else
      match addrOf x.low, addrOf x.high with
      | some low, some high =>
        if high.toNat < low.toNat ∨ x.duration = 0 ∨ 1 < x.wait.toNat then (s, answer .badField)
        else
          let conflict := s.claimConflicts p b low high
          if conflict && decide (x.wait = 0) then (s, answer .conflict)
          else
            match lowestFree s.leases with
            | none => (s, answer .noRoom)
            | some i =>
              (s.acceptClaim p b low high x.duration conflict i,
                [statusByte (if conflict then .queued else .ok), s.leaseId i])
      | _, _ => (s, answer .badAddress)

/-- CLAIM (R89). -/
def State.claimRequest (s : State) (p : PortIx) (body : List Byte) : State × Reply :=
  match parseClaim body with
  | none => (s, answer .malformed)
  | some x => s.claimFields p x

/-! ## RENEW, RELEASE and REVOKE (R92 to R95) -/

/-- RENEW (R93). -/
def State.renewRequest (s : State) (p : PortIx) (body : List Byte) : State × Reply :=
  match parseRenew body with
  | none => (s, answer .malformed)
  | some (id, d) =>
    match s.findLease id with
    | none => (s, answer .unknownId)
    | some (i, e) =>
      if e.owner ≠ p then (s, answer .wrongOwner)
      else if d = 0 then (s, answer .badField)
      else
        match e.state with
        | .waiting => (s, answer .wrongState)
        | .ended => (s, answer .tooLate)
        | .granted =>
          let t := addTime s.clock d
          (s.putLease i { e with duration := d, expiryTime := some t }, statusByte .ok :: be32 t)

/-- RELEASE (R94). -/
def State.releaseRequest (s : State) (p : PortIx) (body : List Byte) : State × Reply :=
  match parseByte body with
  | none => (s, answer .malformed)
  | some id =>
    match s.findLease id with
    | none => (s, answer .unknownId)
    | some (i, e) =>
      if e.owner ≠ p then (s, answer .wrongOwner)
      else if e.state = .ended then (s, answer .tooLate)
      else
        ((((s.freeLease i).leaveWaiting e.bus i).dropSource p (.lease i)).afterLeaseLeft e.bus
            (decide (e.state = .granted)), answer .ok)

/-- An entry becomes ENDED (R95, R96): its expiry time goes, its LEASE_ENDED report becomes pending, and what R91 and
R31 give follows. -/
def State.endLease (s : State) (i : Fin 16) (e : Lease) (why : EndReason) : State :=
  (((s.putLease i
      { e with state := .ended, expiryTime := none, endReason := some why, endTime := some s.clock, report := .ended }
    ).leaveWaiting e.bus i).offer e.owner (.lease i)).afterLeaseLeft e.bus (decide (e.state = .granted))

/-- REVOKE (R95). -/
def State.revokeRequest (s : State) (p : PortIx) (body : List Byte) : State × Reply :=
  match parseByte body with
  | none => (s, answer .malformed)
  | some id =>
    if !s.isPrimary p then (s, answer .denied)
    else
      match s.findLease id with
      | none => (s, answer .unknownId)
      | some (i, e) =>
        if e.state = .ended then (s, answer .tooLate) else (s.endLease i e .revoked, answer .ok)

/-- LEASE_EXPIRY (R96): a GRANTED entry whose expiry time is reached. -/
def State.leaseExpired (s : State) (i : Fin 16) : State :=
  match s.lease i with
  | none => s
  | some e => if e.state = .granted ∧ e.expiryTime.any (reached s.clock) then s.endLease i e .expired else s

/-! ## Teardown (R101) -/

/-- Free every lease entry of session `p`, whatever its state (R101). -/
def State.freeLeasesOf (s : State) (p : PortIx) : State :=
  { s with
    leases := s.leases.map fun c =>
      match c.entry with
      | none => c
      | some e => if e.owner = p then { gen := c.gen + 1, entry := none } else c
    waiting := s.waiting.map fun w => w.filter fun i => (s.lease i).all fun e => decide (e.owner ≠ p) }

/-- Session `p` has an entry in one of these states on bus `b`. -/
def State.holdsLease (s : State) (p : PortIx) (b : BusIx) (states : List LeaseState) : Bool :=
  s.leases.toList.any fun c =>
    c.entry.any fun e => decide (e.owner = p) && decide (e.bus = b) && decide (e.state ∈ states)

/-- The re-examination of bus `b` after session `p` has lost its leases; `before` is the state before that (R101). -/
def State.reexamineAfter (before : State) (p : PortIx) (s : State) (b : BusIx) : State :=
  if before.holdsLease p b [.granted, .waiting] then s.reexamine b else s

/-- The wake event of bus `b` after session `p` has lost a GRANTED lease there (R31, R37). -/
def State.wakeAfter (before : State) (p : PortIx) (s : State) (b : BusIx) : State :=
  if before.holdsLease p b [.granted] then s.wake b else s

end Sys2Proof.Machine
end

