-- ==== Sys2Proof/Machine/Sessions.lean ====
section
/-! DEFINITION. Sessions (09_sessions_notices_and_the_outbox.md): OPEN, CLOSE, teardown, broker reset, acknowledgement,
rewind and the retransmit timer. -/

namespace Sys2Proof.Machine

/-! ## OPEN (R146) -/

/-- The session an accepted OPEN makes (R146). -/
def openedSession (window mask : Byte) (interval : Half) : Session :=
  { state := .opened, window := window.toNat, maskBusEvent := mask.getLsbD 0, maskTargetRead := mask.getLsbD 1,
    interval := interval, nextSeq := 0, outbox := [], admission := [], busEvents := Vector.replicate 4 none,
    timer := none }

/-- The values an OPEN may carry (R146). -/
def openFieldsAllowed (window mask : Byte) (interval : Half) : Bool :=
  decide (1 ≤ window.toNat ∧ window.toNat ≤ 32) && decide (mask.toNat ≤ 3) &&
  decide (interval = 0 ∨ (50 ≤ interval.toNat ∧ interval.toNat ≤ 5000))

/-- OPEN (R146), whose own order has MALFORMED before the session state (R182; log 22). -/
def State.openRequest (s : State) (p : PortIx) (body : List Byte) : State × Reply :=
  match parseOpen body with
  | none => (s, answer .malformed)
  | some (window, mask, interval) =>
    match (s.session p).state with
    | .opened => (s, answer .alreadyOpen)
    | .closing => (s, answer .busy)
    | .closed =>
      if openFieldsAllowed window mask interval then
        (s.modSession p fun _ => openedSession window mask interval,
          [statusByte .ok, byteOf p.val, flagByte (decide (p = 0))])
      else (s, answer .badField)

/-! ## Teardown (R148) -/

/-- Teardown of one record of session `p` (R22): ACTIVE, abort pending; else freed silently. Its place in a staged list
or a queue goes with it. -/
def State.tearRecord (s : State) (p : PortIx) (i : Fin 64) : State :=
  match s.record i with
  | none => s
  | some r =>
    if r.owner ≠ p then s
    else
      match r.state with
      | .active => s.abortRecord i
      | .staged => (s.unstage i).freeRecord i
      | .queued => (s.dequeueRecord r.bus i).freeRecord i
      | .done => s.freeRecord i

/-- Teardown of every record of session `p` (R22). -/
def State.tearRecords (s : State) (p : PortIx) : State :=
  (List.finRange 64).foldl (fun acc i => acc.tearRecord p i) s

/-- Every bus whose target unit session `p` owns loses it (R141, R148). -/
def State.tearTargets (s : State) (p : PortIx) : State :=
  (List.finRange 4).foldl
    (fun acc b => if (acc.bus b).target.owner = some p then acc.loseOwnership p b else acc) s

/-- The session unit's own part (R148): outbox, admission list, bus-event slots and timer, and the state CLOSING or
CLOSED. -/
def State.tearSession (s : State) (p : PortIx) : State :=
  let closing := decide (0 < s.activeCount p)
  s.modSession p fun x =>
    { x with
      state := if closing then .closing else .closed
      outbox := []
      admission := []
      busEvents := Vector.replicate 4 none
      timer := none }

/-- Everything teardown takes from session `p`, before any other session is given a grant (R148). -/
def State.tearOwned (s : State) (p : PortIx) : State :=
  (((((s.tearRecords p).freeLeasesOf p).tearWatches p).freeGroupsOf p).tearTargets p).tearSession p

/-- Teardown by CLOSE or a break (R148): then each bus concerned is re-examined once, in bus order (R101), and the wake
events of the leases that left GRANTED follow (R37, R99). -/
def State.teardown (s : State) (p : PortIx) : State :=
  let s1 := s.tearOwned p
  let s2 := (List.finRange 4).foldl (fun acc b => State.reexamineAfter s p acc b) s1
  (List.finRange 4).foldl (fun acc b => State.wakeAfter s p acc b) s2

/-- CLOSE (R148). -/
def State.closeRequest (s : State) (p : PortIx) (body : List Byte) : State × Reply :=
  if body ≠ [] then (s, answer .malformed)
  else
    let s' := s.teardown p
    (s', [statusByte .ok, byteOf (s'.activeCount p)])

/-! ## Broker reset (R151) -/

/-- Every counter of every bus and port becomes 0 (R151, R179). -/
def State.clearCounters (s : State) : State :=
  { s with
    buses := s.buses.map fun x => { x with counters := BusCounters.zero }
    ports := s.ports.map fun x => { x with counters := PortCounters.zero } }

/-- Each ACTIVE attempt has abort pending set, and a transfer in progress takes the discard mark (R59, R69, R142,
R151). -/
def State.abortEverywhere (s : State) : State :=
  (List.finRange 4).foldl (fun acc b => (acc.abortAttempt b).modTarget b Target.markDiscard) s

/-- Tear a session down if it is OPEN, with no grant to follow (R101, R151). -/
def State.tearIfOpen (s : State) (p : PortIx) : State := if s.isOpen p then s.tearOwned p else s

/-- The broker reset itself (R151). -/
def State.brokerReset (s : State) : State :=
  ((((s.tearIfOpen 0).tearIfOpen 1).tearIfOpen 2).abortEverywhere).clearCounters

/-- RESET_BROKER (R147, R151). The reply carries how many records, of all sessions, are still ACTIVE. The reply queue
and cache are not touched by the reset, so that its reply is placed there all the same. -/
def State.resetBrokerRequest (s : State) (p : PortIx) (body : List Byte) : State × Reply :=
  if body ≠ [] then (s, answer .malformed)
  else if !s.isPrimary p then (s, answer .denied)
  else
    let s' := s.brokerReset
    (s', [statusByte .ok, byteOf (s'.activeCount 0 + s'.activeCount 1 + s'.activeCount 2)])

/-! ## Acknowledgement, rewind and the retransmit timer (R157 to R160) -/

/-- The outbox after an acknowledgement of `n`, if it names an entry that was ever sent (R158): that entry and every
older one are gone. -/
def ackOutbox (n : Byte) : List OutboxEntry → Option (List OutboxEntry)
  | [] => none
  | e :: rest => if e.seq = n then (if e.everSent then some rest else none) else ackOutbox n rest

/-- The retransmit timer after entries have left the outbox (R160). -/
def timerAfterAck (x : Session) (clock : Clock) : Option Clock :=
  if x.interval ≠ 0 ∧ x.outbox.any (·.sent) then some (addTime clock x.interval) else none

/-- A NOTICE_ACK that names `n`, in an OPEN session (R158); none when it is stray. -/
def State.ackNotices (s : State) (p : PortIx) (n : Byte) : Option State :=
  (ackOutbox n (s.session p).outbox).map fun rest =>
    (s.modSession p fun x =>
      { x with outbox := rest, timer := timerAfterAck { x with outbox := rest } s.clock }).admitFromList p

/-- NOTICE_ACK (R145, R158, R182): without effect, it counts as a stray ack. -/
def State.noticeAck (s : State) (p : PortIx) (body : List Byte) : State :=
  let acked := if s.isOpen p then (parseByte body).bind (s.ackNotices p) else none
  acked.getD (s.countPort p fun c => { c with strayAcks := satInc c.strayAcks })

/-- Every outbox entry becomes UNSENT (R159, R160). -/
def Session.rewind (x : Session) : Session :=
  { x with outbox := x.outbox.map fun e => { e with sent := false }, timer := none }

/-- NOTICE_REWIND (R159). -/
def State.rewindRequest (s : State) (p : PortIx) (body : List Byte) : State × Reply :=
  if body ≠ [] then (s, answer .malformed)
  else (s.modSession p Session.rewind, [statusByte .ok, byteOf (s.session p).outbox.length])

/-- RETRANSMIT_TIMER_EXPIRY (R160): on a running timer whose expiry time is reached. -/
def State.timerExpired (s : State) (p : PortIx) : State :=
  if (s.session p).timer.any (reached s.clock) then s.modSession p Session.rewind else s

/-! ## The clock (R1) -/

/-- An item whose age reaches its largest value at this clock value stops ageing (R1; log 9). -/
def stopsAt (clock entry : Clock) (stopped : Bool) : Bool :=
  stopped || decide ((clock - entry).toNat = Config.maxAge)

/-- A record as the clock comes to `t`: its age may stop (R1), and its not-before time may be reached (R31). -/
def Record.at (r : Record) (t : Clock) : Record :=
  { r with
    ageStopped := r.entryTime.elim r.ageStopped fun e => stopsAt t e r.ageStopped
    spacingOver := r.spacingOver || r.notBefore.any (reached t) }

/-- CLOCK_TICK (R1). -/
def State.tick (s : State) : State :=
  let t := s.clock + 1
  { s with
    clock := t
    records := s.records.map fun c => { c with entry := c.entry.map fun r => r.at t }
    buses := s.buses.map fun x =>
      { x with queue := x.queue.map fun
          | .record i => .record i
          | .watchRead w c e stopped => .watchRead w c e (stopsAt t e stopped) } }

end Sys2Proof.Machine
end

