-- ==== Sys2Proof/Machine/Query.lean ====
section
/-! DEFINITION. QUERY (R178, R183): the contents of section 12.4 and the paging. A byte that section 12.2 gives no value to
is `free k`, the free value at place `k` (log 12). -/

namespace Sys2Proof.Machine

/-! ## Pages (R178, R183) -/

/-- The bytes left for entries once a reply's `head` bytes are placed (R165, R183). -/
def pageRoom (head : Nat) : Nat := Config.maxBody - head

/-- The entries carried: from the first, while they fit whole (R183). -/
def carried : Nat → List (Nat × List Byte) → List (Nat × List Byte)
  | _, [] => []
  | room, (i, x) :: rest => if x.length ≤ room then (i, x) :: carried (room - x.length) rest else []

/-- The next index: end when every remaining entry is carried, else the index after the last one carried (R183). -/
def nextIndex (entries page : List (Nat × List Byte)) : Byte :=
  if page.length = entries.length then 0xFF else byteOf ((page.getLast?.elim 0 Prod.fst) + 1)

/-- The bytes of a page's entries. -/
def pageBytes (page : List (Nat × List Byte)) : List Byte := page.flatMap Prod.snd

/-- The entries of a table from a starting slot, in slot order. -/
def entriesFrom {n : Nat} (start : Nat) (f : Fin n → Option (List Byte)) : List (Nat × List Byte) :=
  (List.finRange n).filterMap fun i => if start ≤ i.val then (f i).map fun x => (i.val, x) else none

/-- A list of bytes padded with zeros to `n` bytes. Section 12.4 states it for value bytes ("Unused value bytes are 0"); for the
unused pointer and mask bytes of a watch it is the model's DESIGN CHOICE (log 12). -/
def padTo (n : Nat) (bytes : List Byte) : List Byte := bytes ++ List.replicate (n - bytes.length) 0

/-- `n` free bytes from place `k` on. -/
def freeBytes (free : Nat → Byte) (k n : Nat) : List Byte := (List.range n).map fun j => free (k + j)

/-! ## Contents -/

/-- SESSION (R162). -/
def State.sessionContent (s : State) (p : PortIx) : List Byte :=
  let x := s.session p
  [byteOf p.val, flagByte (s.isPrimary p), byteOf x.window, byteOf (s.windowUse p),
    maskCode x.maskBusEvent x.maskTargetRead] ++ be16 x.interval ++
  [byteOf x.outbox.length, byteOf (x.outbox.filter fun e => !e.sent).length,
    (x.outbox.head?.elim 0 (·.seq)), (x.outbox.getLast?.elim 0 (·.seq)), x.nextSeq, byteOf x.admission.length,
    flagByte x.timer.isSome] ++ be32 (x.timer.getD 0) ++
  x.busEvents.toList.flatMap fun e => flagByte e.isSome :: be16 (e.elim 0 (·.missed))

/-- The current item of a bus: its kind and its tag or id (R44). -/
def State.currentItem (s : State) (b : BusIx) (free : Nat → Byte) : List Byte :=
  match (s.bus b).engine with
  | .active (some a) =>
    match a.item with
    | .record i => [1, s.tagOf i]
    | .watch w => [2, s.watchId w]
  | _ => [0, free 0]

/-- The recovery values of a bus (R80). -/
def Engine.recoveryBytes (free : Nat → Byte) : Engine → List Byte
  | .recovery r => [stepCode r.step, byteOf r.pulses, flagByte r.fromFault]
  | _ => [0, free 1, free 2]

/-- BUS (R44, R55, R80). -/
def State.busContent (s : State) (b : BusIx) (free : Nat → Byte) : List Byte :=
  let x := s.bus b
  [byteOf b.val, flagByte x.config.enabled, engineCode x.engine, flagByte (decide (x.engine = .reserved true)),
    lineCode x.line, byteOf x.queue.length] ++ s.currentItem b free ++ x.engine.recoveryBytes free ++
  [faultCode x.faultReason]

/-- The code of an eligibility (section 12.2). -/
def eligibilityCode : Eligibility → Byte
  | .eligible => 0
  | .spaced => 1
  | .leased => 2

/-- One item of a QUEUE page (R44). -/
def State.itemBytes (s : State) (b : BusIx) (it : QItem) : List Byte :=
  (match it with
    | .record i => [1, s.tagOf i]
    | .watchRead w _ _ _ => [2, s.watchId w]) ++
  [classCode (s.itemClass it), recStateCode .queued, eligibilityCode (s.eligibility b it)]

/-- QUEUE (R44, R183). -/
def State.queueContent (s : State) (b : BusIx) (start : Byte) : List Byte :=
  let q := (s.bus b).queue
  let entries := ((q.mapIdx fun k it => (k, s.itemBytes b it)).drop start.toNat)
  let page := carried (pageRoom 5) entries
  [byteOf b.val, byteOf q.length, nextIndex entries page] ++ pageBytes page

/-- The result part of a TRANSACTION reply. -/
def resultBytes (free : Nat → Byte) : Option Result → List Byte
  | none => [0xFF, 0] ++ freeBytes free 0 5
  | some r => [resultCode r.status, byteOf (r.failing.getD 0), byteOf r.bytesCompleted] ++ be32 r.completionTime

/-- One segment descriptor. -/
def Segment.bytes (g : Segment) : List Byte := [addrByte g.addr, dirCode g.dir, byteOf g.count]

/-- TRANSACTION (R25). An absent group is 0, an absent deadline 0, as a SUBMIT gives them. -/
def recordContent (tag : Byte) (r : Record) (free : Nat → Byte) : List Byte :=
  [tag, byteOf r.owner.val, byteOf r.bus.val, classCode r.cls, classCode r.origCls, flagByte r.noReplay,
    flagByte r.retryNack, byteOf r.budget, flagByte r.group.isSome, r.group.getD 0] ++ be16 (r.deadline.getD 0) ++
  [recStateCode r.state] ++ optClock r.entryTime ++ optClock r.deadlineTime ++ optClock r.notBefore ++
  [byteOf r.attempts, flagByte r.abortPending, optStatusCode r.lastRetry, byteOf r.segments.length] ++
  r.segments.flatMap Segment.bytes ++ resultBytes free r.result

/-- One entry of a LEASES page (R102). -/
def State.leaseBytes (s : State) (i : Fin 16) (e : Lease) : List Byte :=
  [s.leaseId i, byteOf e.owner.val, byteOf e.bus.val, addrByte e.low, addrByte e.high] ++ be16 e.duration ++
  [leaseStateCode e.state] ++ be32 e.claimTime ++ optClock e.grantTime ++ optClock e.expiryTime ++
  [endReasonCode e.endReason, leaseReportCode e.report,
    if e.state = .waiting then byteOf ((s.waitingOrder e.bus).idxOf i) else 0xFF]

/-- LEASES (R102, R183). -/
def State.leasesContent (s : State) (start : Byte) : List Byte :=
  let entries := entriesFrom start.toNat fun i => (s.lease i).map (s.leaseBytes i)
  let page := carried (pageRoom 3) entries
  nextIndex entries page :: pageBytes page

/-- The binding of a group entry: line and edge. -/
def bindingBytes (free : Byte) : Option Binding → List Byte
  | none => [0, free]
  | some x => [lineNumberCode x.line, edgeCode x.edge]

/-- The pending fire report of a group entry. -/
def fireBytes (free : Nat → Byte) : Option FireReport → List Byte
  | none => 0 :: freeBytes free 1 13
  | some f =>
    [1] ++ be16 f.queued ++ be16 f.endedOff ++ be16 f.fires ++ [sourceCode f.source] ++ be32 f.fireTime ++
      be16 f.fireCount

/-- One entry of a GROUPS page (R116). -/
def State.groupBytes (s : State) (free : Nat → Byte) (i : Fin 8) (g : GroupEntry) : List Byte :=
  [s.groupId i, byteOf g.owner.val, groupStateCode g.state] ++ bindingBytes (free (16 * i.val)) g.binding ++
  be16 g.fireCount ++ be16 g.ignored ++ fireBytes (fun k => free (16 * i.val + k)) g.report ++
  counted (g.staged.map s.tagOf)

/-- The line block's part for one trigger line (R116): the sampled level, as 1 for high and 0 for low (section 12.2 gives a line
level no coding: DESIGN CHOICE, log 39), the bound flag and the bound id. -/
def State.lineBytes (s : State) (free : Byte) (l : TriggerLine) : List Byte :=
  flagByte (s.level l) ::
    match s.boundGroup l with
    | none => [0, free]
    | some i => [1, s.groupId i]

/-- GROUPS (R116, R183). -/
def State.groupsContent (s : State) (start : Byte) (free : Nat → Byte) : List Byte :=
  let entries := entriesFrom start.toNat fun i => (s.group i).map (s.groupBytes free i)
  let page := carried (pageRoom 3) entries
  if page.length = entries.length ∧ (pageBytes page).length + 6 ≤ pageRoom 3 then
    0xFF :: pageBytes page ++ s.lineBytes (free 128) .t0 ++ s.lineBytes (free 129) .t1
  else byteOf ((page.getLast?.elim 0 Prod.fst) + 1) :: pageBytes page

/-- The pending value report of a watch entry. -/
def valueBytes (free : Nat → Byte) : Option ValueReport → List Byte
  | none => [0] ++ padTo 4 [] ++ freeBytes free 0 6
  | some v => [1] ++ padTo 4 v.value ++ be32 v.time ++ be16 v.coalesced

/-- The pending suspension report of a watch entry. -/
def suspensionBytes (free : Nat → Byte) : Option SuspensionReport → List Byte
  | none => [0, optStatusCode none] ++ freeBytes free 6 2
  | some u => [1, resultCode u.status] ++ be16 u.suspensions

/-- One entry of a WATCHES page (R130). Its unused pointer and mask bytes, which the manual gives no value to, are 0: a DESIGN
CHOICE (log 12). -/
def State.watchBytes (s : State) (free : Nat → Byte) (i : Fin 12) (w : Watch) : List Byte :=
  [s.watchId i, optOwnerCode w.owner, byteOf w.bus.val, addrByte w.addr, byteOf w.pointer.length] ++
  padTo 2 w.pointer ++ [byteOf w.readLen] ++ padTo 4 w.mask ++ be16 w.period ++ [watchStateCode w.state] ++
  optClock w.nextPeriod ++ [readFieldCode w.read, flagByte w.lastReported.isSome] ++
  padTo 4 (w.lastReported.getD []) ++ [byteOf w.failures, optStatusCode w.lastFailure] ++ be16 w.skipped ++
  valueBytes (fun k => free (8 * i.val + k)) w.valueReport ++
  suspensionBytes (fun k => free (8 * i.val + k)) w.suspensionReport

/-- WATCHES (R130, R183). -/
def State.watchesContent (s : State) (start : Byte) (free : Nat → Byte) : List Byte :=
  let entries := entriesFrom start.toNat fun i => (s.watch i).map (s.watchBytes free i)
  let page := carried (pageRoom 3) entries
  nextIndex entries page :: pageBytes page

/-- The transfer in progress of a target unit (section 12.2). -/
def Target.transferCode (t : Target) : Byte :=
  if t.filling.isSome then (if t.discard then 2 else 1)
  else if t.reading.isSome then (if t.discard then 4 else 3)
  else 0

/-- The pending read tally. -/
def tallyBytes (free : Nat → Byte) : Option Tally → List Byte
  | none => [0, 0] ++ freeBytes free 0 9
  | some t => be16 t.reads ++ be16 t.fromBuffer ++ be16 t.fillBytes ++ be32 t.lastEnd ++ [byteOf t.remaining]

/-- The deferred replacement: its length, 0xFF when absent, and its bytes. -/
def deferredBytes : Option (List Byte) → List Byte
  | none => [0xFF]
  | some d => counted d

/-- TARGET (R144). An EMPTY slot shows byte count 0 and flags 0, which the manual does not say: a DESIGN CHOICE (log 38). -/
def State.targetContent (s : State) (b : BusIx) (free : Nat → Byte) : List Byte :=
  let x := s.bus b
  let t := x.target
  [byteOf b.val, ownCode x.config.own, x.config.fill, optOwnerCode t.owner] ++
  t.slots.toList.flatMap (fun c => [inStateCode c.state, byteOf c.data.length, slotFlags c]) ++
  [t.transferCode] ++ tallyBytes free t.tally ++ counted t.outbound ++ deferredBytes t.deferred

/-- The counters of a bus in the order of R180. -/
def BusCounters.bytes (c : BusCounters) : List Byte :=
  [c.completedOk, c.failedFinal, c.arbitrationLosses, c.addressNacks, c.dataNacks, c.stretchTimeouts, c.busErrors,
    c.recoveries, c.faults, c.targetWrites, c.targetReads, c.targetRefusals, c.underruns].flatMap be16

/-- The counters of a port in the order of R172. -/
def PortCounters.bytes (c : PortCounters) : List Byte :=
  [c.good, c.bad, c.duplicates, c.overruns, c.breaks, c.strayAcks].flatMap be16

/-! ## The request (R178, R181, R182) -/

/-- A QUERY reply of status OK: the subject again, then its content (R183). -/
def queryReply (subject : Byte) (content : List Byte) : Reply := statusByte .ok :: subject :: content

/-- The free values of a QUERY reply taken now. -/
def State.free (s : State) : Nat → Byte := Config.freeByte s.freeIndex

/-- The next reply reads other free values (log 12). -/
def State.spendFree (s : State) : State := { s with freeIndex := s.freeIndex + 1 }

/-- A bus subject with its bus byte. -/
def State.onBus (s : State) (x : Byte) (f : BusIx → State × Reply) : State × Reply :=
  match busOf x with
  | none => (s, answer .badBus)
  | some b => f b

/-- A port number of a message, when it is at most 2. -/
def portOf (x : Byte) : Option PortIx := if h : x.toNat < 3 then some ⟨x.toNat, h⟩ else none

/-- COUNTERS of a bus, with or without clearing (R180, R181). -/
def State.queryBusCounters (s : State) (b : BusIx) (clear : Bool) : State × Reply :=
  (if clear then s.countBus b fun _ => BusCounters.zero else s,
    queryReply 9 ([0, byteOf b.val] ++ (s.bus b).counters.bytes))

/-- COUNTERS of a port, with or without clearing (R172, R181). -/
def State.queryPortCounters (s : State) (n : PortIx) (clear : Bool) : State × Reply :=
  (if clear then s.countPort n fun _ => PortCounters.zero else s,
    queryReply 9 ([1, byteOf n.val] ++ (s.port n).counters.bytes))

/-- COUNTERS (R178, R181): DENIED, then BAD_FIELD, then BAD_BUS. -/
def State.queryCounters (s : State) (p : PortIx) (scope number clear : Byte) : State × Reply :=
  if clear = 1 && !s.isPrimary p then (s, answer .denied)
  else if 1 < scope.toNat ∨ 1 < clear.toNat then (s, answer .badField)
  else if scope = 0 then s.onBus number fun b => s.queryBusCounters b (decide (clear = 1))
  else
    match portOf number with
    | none => (s, answer .badField)
    | some n => s.queryPortCounters n (decide (clear = 1))

/-- TRANSACTION (R25, R178). -/
def State.queryTransaction (s : State) (tag : Byte) : State × Reply :=
  match s.findRecord tag with
  | none => (s, answer .unknownId)
  | some (_, r) => (s.spendFree, queryReply 4 (recordContent tag r s.free))

/-- The subjects with their parameters (R178): the body after the subject byte has the subject's length or is MALFORMED;
an unknown subject is BAD_FIELD (log 23). -/
def State.querySubject (s : State) (p : PortIx) (subject : Byte) (params : List Byte) : State × Reply :=
  match subject.toNat, params with
  | 1, [] => (s, queryReply 1 (s.sessionContent p))
  | 2, [x] => s.onBus x fun b => (s.spendFree, queryReply 2 (s.busContent b s.free))
  | 3, [x, start] => s.onBus x fun b => (s, queryReply 3 (s.queueContent b start))
  | 4, [tag] => s.queryTransaction tag
  | 5, [start] => (s, queryReply 5 (s.leasesContent start))
  | 6, [start] => (s.spendFree, queryReply 6 (s.groupsContent start s.free))
  | 7, [start] => (s.spendFree, queryReply 7 (s.watchesContent start s.free))
  | 8, [x] => s.onBus x fun b => (s.spendFree, queryReply 8 (s.targetContent b s.free))
  | 9, [scope, number, clear] => s.queryCounters p scope number clear
  | n, _ => (s, answer (if 1 ≤ n ∧ n ≤ 9 then .malformed else .badField))

/-- QUERY (R178). -/
def State.queryRequest (s : State) (p : PortIx) (body : List Byte) : State × Reply :=
  match body with
  | [] => (s, answer .malformed)
  | subject :: params => s.querySubject p subject params

end Sys2Proof.Machine
end

