-- ==== Sys2Proof/WellFormed.lean ====
section
/-! DEFINITION. Which commands can be sent: a frame's body has at most 96 bytes (R165), and the UNKNOWN_KIND row
carries a kind that is no request kind (R168, section 12.1). Bus, port, slot and bit numbers are bounded by
their types. The meanings are total all the same: an overlong frame is a bad frame (R167; log 3). -/

namespace Sys2Proof

/-- Kinds 0x01 to 0x18 are the request kinds (section 12.1). -/
def isRequestKind (kind : Byte) : Bool := decide (1 ≤ kind.toNat ∧ kind.toNat ≤ 0x18)

/-- A body fits a frame (R165). -/
def bodyFits (body : List Byte) : Bool := decide (body.length ≤ Config.maxBody)

/-- The well-formed commands. -/
def wellFormed : Instr → Bool
  | .openSession _ _ body | .closeSession _ _ body | .noticeAck _ _ body | .noticeRewind _ _ body
  | .submit _ _ body | .cancel _ _ body | .claim _ _ body | .renew _ _ body | .release _ _ body
  | .revoke _ _ body | .groupCreate _ _ body | .groupArm _ _ body | .groupFire _ _ body
  | .groupBind _ _ body | .groupDelete _ _ body | .watchAdd _ _ body | .watchRemove _ _ body
  | .watchResume _ _ body | .busConfigure _ _ body | .resetBroker _ _ body => bodyFits body
  | .busRecover _ _ body => bodyFits body.bytes
  | .duplicateRequest _ _ _ body | .requestOverrun _ _ _ body => bodyFits body
  | .querySession _ _ params | .queryBus _ _ params | .queryQueue _ _ params | .queryTransaction _ _ params
  | .queryLeases _ _ params | .queryGroups _ _ params | .queryWatches _ _ params | .queryTarget _ _ params
  | .queryCounters _ _ params => bodyFits (0 :: params)
  | .targetLoadReplace _ _ _ _ bytes | .targetLoadAppend _ _ _ _ bytes => bodyFits (0 :: 0 :: 0 :: bytes)
  | .unknownKind _ kind _ body => bodyFits body && !isRequestKind kind
  | .queryCountersClear .. | .targetOwnOn .. | .targetOwnOff .. | .powerOnReset .. | .clockTick | .badFrame ..
  | .lineBreak .. | .transmitFrameEnd .. | .retransmitTimerExpiry .. | .deadlineExpiry ..
  | .notBeforeReached .. | .agingPromotion .. | .leaseExpiry .. | .triggerEdge .. | .watchPeriodExpiry ..
  | .busFreeWaitEnd .. | .startSeen .. | .stopSeen .. | .clkLowOnFreeBus .. | .idleDetect ..
  | .stuckDetected .. | .stretchTimeout .. | .addressByteAcknowledge .. | .writeByteAcknowledge ..
  | .readByteReceived .. | .arbitrationLoss .. | .lossInRepeatedStartOrStop ..
  | .addressTailDirectionBit .. | .foreignOwnAddress .. | .targetWriteByte .. | .targetReadByteTaken ..
  | .recoveryClockRise .. | .recoveryPulseEnd .. | .recoveryClockTimeout .. | .recoveryStopDataHeld ..
  | .characterReceived .. | .foreignAddressOther .. => true

end Sys2Proof
end

