-- ==== Sys2Proof/Machine/Link.lean ====
section
/-! DEFINITION. Request handling at a host port (10_host_link_framing.md): R145's session states, R168's rows, the reply
cache and queue, line inputs and breaks. -/

namespace Sys2Proof.Machine

/-! ## Taking a request (R145, R182) -/

/-- A request of a known kind other than OPEN and NOTICE_ACK, in an OPEN session, goes to the rule of the block it
names (R145, section 12.1). -/
def State.serveOpen (s : State) (p : PortIx) (kind : Byte) (body : List Byte) : State × Reply :=
  match kind.toNat with
  | 0x02 => s.closeRequest p body
  | 0x03 => s.queryRequest p body
  | 0x05 => s.rewindRequest p body
  | 0x06 => s.submitRequest p body
  | 0x07 => s.cancelRequest p body
  | 0x08 => s.claimRequest p body
  | 0x09 => s.renewRequest p body
  | 0x0A => s.releaseRequest p body
  | 0x0B => s.revokeRequest p body
  | 0x0C => s.groupCreateRequest p body
  | 0x0D => s.groupArmRequest p body
  | 0x0E => s.groupFireRequest p body
  | 0x0F => s.groupBindRequest p body
  | 0x10 => s.groupDeleteRequest p body
  | 0x11 => s.watchAddRequest p body
  | 0x12 => s.watchRemoveRequest p body
  | 0x13 => s.watchResumeRequest p body
  | 0x14 => s.targetOwnRequest p body
  | 0x15 => s.targetLoadRequest p body
  | 0x16 => s.busConfigureRequest p body
  | 0x17 => s.busRecoverRequest body
  | 0x18 => s.resetBrokerRequest p body
  | _ => (s, answer .unknownKind)

/-- A request of a known kind other than NOTICE_ACK is taken by the session state (R145). -/
def State.serve (s : State) (p : PortIx) (kind : Byte) (body : List Byte) : State × Reply :=
  if kind = 0x01 then s.openRequest p body
  else if s.isOpen p then s.serveOpen p kind body
  else (s, answer .notOpen)

/-! ## Good frames (R168 to R170) -/

/-- A reply is appended to the reply queue (R170). -/
def State.appendReply (s : State) (p : PortIx) (m : Message) : State :=
  s.modPort p fun x => { x with replies := x.replies ++ [m] }

/-- A request taken by row 4 or 5 of R168: its reply is cached and queued (R169). -/
def State.respond (s : State) (p : PortIx) (kind seq : Byte) (m : Message) : State :=
  (s.modPort p fun x => { x with cache := some { kind := kind, seq := seq, reply := m } }).appendReply p m

/-- The cached reply of port `p`, if the kind and sequence equal those of the cache (R168 row 3). -/
def State.cachedReply (s : State) (p : PortIx) (kind seq : Byte) : Option Message :=
  match (s.port p).cache with
  | none => none
  | some c => if c.kind = kind ∧ c.seq = seq then some c.reply else none

/-- The reply to a request of unknown kind (section 12.1, R183). -/
def unknownReply (seq : Byte) : Message := { kind := 0x7F, seq := seq, body := answer .unknownKind }

/-- The reply to a request of known kind (section 12.1, R183). -/
def replyTo (kind seq : Byte) (r : Reply) : Message := { kind := kind + 0x40, seq := seq, body := r }

/-- Rows 2 to 5 of R168. -/
def State.takeRequest (s : State) (p : PortIx) (kind seq : Byte) (body : List Byte) : State :=
  if Config.replyRoom ≤ (s.port p).replies.length then
    s.countPort p fun c => { c with overruns := satInc c.overruns }
  else
    match s.cachedReply p kind seq with
    | some m => (s.countPort p fun c => { c with duplicates := satInc c.duplicates }).appendReply p m
    | none =>
      if isRequestKind kind then
        let x := s.serve p kind body
        x.1.respond p kind seq (replyTo kind seq x.2)
      else s.respond p kind seq (unknownReply seq)

/-- A good frame (R168): it is counted, then taken by the first row that applies. -/
def State.goodFrame (s : State) (p : PortIx) (m : Message) : State :=
  let s' := s.countPort p fun c => { c with good := satInc c.good }
  if m.kind = 0x04 then s'.noticeAck p m.body else s'.takeRequest p m.kind m.seq m.body

/-- A bad frame is counted and discarded (R167). -/
def State.badFrame (s : State) (p : PortIx) : State := s.countPort p fun c => { c with bad := satInc c.bad }

/-- A line input to the receiver of port `p` (R167). -/
def State.lineInput (s : State) (p : PortIx) (input : LineInput) : State :=
  let x := (s.port p).rx.take input
  let s' := s.modPort p fun y => { y with rx := x.1 }
  match x.2 with
  | .quiet => s'
  | .bad => s'.badFrame p
  | .ended content =>
    match messageOf content with
    | none => s'.badFrame p
    | some m => s'.goodFrame p m

/-- A request as a whole frame (log 3): it leaves the receiver as its closing delimiter does, IN_FRAME and empty. A
body that no frame holds makes an overlong frame, which is a bad one (R167). -/
def State.requestFrame (s : State) (p : PortIx) (kind seq : Byte) (body : List Byte) : State :=
  let s' := s.modPort p fun x => { x with rx := { state := .inFrame, buffer := [] } }
  if bodyFits body then s'.goodFrame p { kind := kind, seq := seq, body := body } else s'.badFrame p

/-! ## Breaks (R150, R164) -/

/-- A break on port `p`: counted; an OPEN session is torn down; the receiver, the reply cache and the reply queue are
emptied. The frame on the transmit line runs on. -/
def State.breakSeen (s : State) (p : PortIx) : State :=
  let s1 := s.countPort p fun c => { c with breaks := satInc c.breaks }
  let s2 := if s1.isOpen p then s1.teardown p else s1
  s2.modPort p fun x => { x with rx := { state := .hunt, buffer := [] }, cache := none, replies := [] }

end Sys2Proof.Machine
end

