-- ==== Sys2Proof/Machine/RequestCommands.lean ====
section
/-! DEFINITION. The meanings of the request rows: each is the good frame that carries the request (logs 3 and 4), taken by
R168 and R145 and the rule its docstring names. -/

namespace Sys2Proof.Machine

/-- What a command answers. -/
abbrev Answer := Host.Outcome State Fault Refusal

/-- An event taken to its end: its effect, then the choice of each idle transmitter (R171). -/
def event (s : State) : Answer := .next s.settle

/-- A request frame as an event (R168). -/
def State.request (s : State) (p : PortIx) (kind seq : Byte) (body : List Byte) : Answer :=
  event (s.requestFrame p kind seq body)

/-- OPEN (R146). -/
def execOpenSession (p : PortIx) (q : Byte) (body : List Byte) (s : State) : Answer :=
  s.request p 0x01 q body

/-- CLOSE (R148). -/
def execCloseSession (p : PortIx) (q : Byte) (body : List Byte) (s : State) : Answer :=
  s.request p 0x02 q body

/-- QUERY_SESSION (R162). -/
def execQuerySession (p : PortIx) (q : Byte) (params : List Byte) (s : State) : Answer :=
  s.request p 0x03 q (1 :: params)

/-- QUERY_BUS (R44). -/
def execQueryBus (p : PortIx) (q : Byte) (params : List Byte) (s : State) : Answer :=
  s.request p 0x03 q (2 :: params)

/-- QUERY_QUEUE (R44). -/
def execQueryQueue (p : PortIx) (q : Byte) (params : List Byte) (s : State) : Answer :=
  s.request p 0x03 q (3 :: params)

/-- QUERY_TRANSACTION (R25). -/
def execQueryTransaction (p : PortIx) (q : Byte) (params : List Byte) (s : State) : Answer :=
  s.request p 0x03 q (4 :: params)

/-- QUERY_LEASES (R102). -/
def execQueryLeases (p : PortIx) (q : Byte) (params : List Byte) (s : State) : Answer :=
  s.request p 0x03 q (5 :: params)

/-- QUERY_GROUPS (R116). -/
def execQueryGroups (p : PortIx) (q : Byte) (params : List Byte) (s : State) : Answer :=
  s.request p 0x03 q (6 :: params)

/-- QUERY_WATCHES (R130). -/
def execQueryWatches (p : PortIx) (q : Byte) (params : List Byte) (s : State) : Answer :=
  s.request p 0x03 q (7 :: params)

/-- QUERY_TARGET (R144). -/
def execQueryTarget (p : PortIx) (q : Byte) (params : List Byte) (s : State) : Answer :=
  s.request p 0x03 q (8 :: params)

/-- QUERY_COUNTERS (R180). -/
def execQueryCounters (p : PortIx) (q : Byte) (params : List Byte) (s : State) : Answer :=
  s.request p 0x03 q (9 :: params)

/-- QUERY_COUNTERS_CLEAR (R181). -/
def execQueryCountersClear (p : PortIx) (q scope number : Byte) (s : State) : Answer :=
  s.request p 0x03 q [9, scope, number, 1]

/-- NOTICE_ACK (R158). -/
def execNoticeAck (p : PortIx) (q : Byte) (body : List Byte) (s : State) : Answer :=
  s.request p 0x04 q body

/-- NOTICE_REWIND (R159). -/
def execNoticeRewind (p : PortIx) (q : Byte) (body : List Byte) (s : State) : Answer :=
  s.request p 0x05 q body

/-- SUBMIT (R11). -/
def execSubmit (p : PortIx) (q : Byte) (body : List Byte) (s : State) : Answer :=
  s.request p 0x06 q body

/-- CANCEL (R18). -/
def execCancel (p : PortIx) (q : Byte) (body : List Byte) (s : State) : Answer :=
  s.request p 0x07 q body

/-- CLAIM (R89). -/
def execClaim (p : PortIx) (q : Byte) (body : List Byte) (s : State) : Answer :=
  s.request p 0x08 q body

/-- RENEW (R93). -/
def execRenew (p : PortIx) (q : Byte) (body : List Byte) (s : State) : Answer :=
  s.request p 0x09 q body

/-- RELEASE (R94). -/
def execRelease (p : PortIx) (q : Byte) (body : List Byte) (s : State) : Answer :=
  s.request p 0x0A q body

/-- REVOKE (R95). -/
def execRevoke (p : PortIx) (q : Byte) (body : List Byte) (s : State) : Answer :=
  s.request p 0x0B q body

/-- GROUP_CREATE (R104). -/
def execGroupCreate (p : PortIx) (q : Byte) (body : List Byte) (s : State) : Answer :=
  s.request p 0x0C q body

/-- GROUP_ARM (R107). -/
def execGroupArm (p : PortIx) (q : Byte) (body : List Byte) (s : State) : Answer :=
  s.request p 0x0D q body

/-- GROUP_FIRE (R111). -/
def execGroupFire (p : PortIx) (q : Byte) (body : List Byte) (s : State) : Answer :=
  s.request p 0x0E q body

/-- GROUP_BIND (R108). -/
def execGroupBind (p : PortIx) (q : Byte) (body : List Byte) (s : State) : Answer :=
  s.request p 0x0F q body

/-- GROUP_DELETE (R113). -/
def execGroupDelete (p : PortIx) (q : Byte) (body : List Byte) (s : State) : Answer :=
  s.request p 0x10 q body

/-- WATCH_ADD (R118). -/
def execWatchAdd (p : PortIx) (q : Byte) (body : List Byte) (s : State) : Answer :=
  s.request p 0x11 q body

/-- WATCH_REMOVE (R126). -/
def execWatchRemove (p : PortIx) (q : Byte) (body : List Byte) (s : State) : Answer :=
  s.request p 0x12 q body

/-- WATCH_RESUME (R125). -/
def execWatchResume (p : PortIx) (q : Byte) (body : List Byte) (s : State) : Answer :=
  s.request p 0x13 q body

/-- TARGET_OWN_ON (R132). -/
def execTargetOwnOn (p : PortIx) (q bus : Byte) (s : State) : Answer :=
  s.request p 0x14 q [bus, 1]

/-- TARGET_OWN_OFF (R132). -/
def execTargetOwnOff (p : PortIx) (q bus : Byte) (s : State) : Answer :=
  s.request p 0x14 q [bus, 0]

/-- TARGET_LOAD_REPLACE (R139). -/
def execTargetLoadReplace (p : PortIx) (q bus count : Byte) (bytes : List Byte) (s : State) : Answer :=
  s.request p 0x15 q (bus :: 0 :: count :: bytes)

/-- TARGET_LOAD_APPEND (R139). -/
def execTargetLoadAppend (p : PortIx) (q bus count : Byte) (bytes : List Byte) (s : State) : Answer :=
  s.request p 0x15 q (bus :: 1 :: count :: bytes)

/-- BUS_CONFIGURE (R174). -/
def execBusConfigure (p : PortIx) (q : Byte) (body : List Byte) (s : State) : Answer :=
  s.request p 0x16 q body

/-- BUS_RECOVER (R86). CLK high at the entry it makes ends the wait for the clock in the same event (R80; log 28). -/
def execBusRecover (p : PortIx) (q : Byte) (body : RecoverBody) (s : State) : Answer :=
  event ((s.requestFrame p 0x17 q body.bytes).clockAtEntry s body)

/-- RESET_BROKER (R151). -/
def execResetBroker (p : PortIx) (q : Byte) (body : List Byte) (s : State) : Answer :=
  s.request p 0x18 q body

/-- UNKNOWN_KIND (R168). -/
def execUnknownKind (p : PortIx) (kind q : Byte) (body : List Byte) (s : State) : Answer :=
  s.request p kind q body

/-- DUPLICATE_REQUEST (R168, R169). -/
def execDuplicateRequest (p : PortIx) (kind q : Byte) (body : List Byte) (s : State) : Answer :=
  s.request p kind q body

/-- REQUEST_OVERRUN (R168, R170). -/
def execRequestOverrun (p : PortIx) (kind q : Byte) (body : List Byte) (s : State) : Answer :=
  s.request p kind q body

end Sys2Proof.Machine
end

