-- ==== Sys2Proof/Machine/BusCommands.lean ====
section
/-! DEFINITION. The meanings of the bus events: the bus-free wait, the line monitor, the attempt on the wire, foreign transfers and
recovery. -/

namespace Sys2Proof.Machine

/-- BUS_FREE_WAIT_END (R40). -/
def execBusFreeWaitEnd (b : BusIx) (s : State) : Answer := event (s.waitEnd b)

/-- START_SEEN (R51). -/
def execStartSeen (b : BusIx) (maker : Maker) (place : Place) (s : State) : Answer := event (s.startSeen b maker place)

/-- STOP_SEEN (R51). -/
def execStopSeen (b : BusIx) (place : Place) (s : State) : Answer := event (s.stopSeen b place)

/-- CLK_LOW_ON_FREE_BUS (R53). -/
def execClkLowOnFreeBus (b : BusIx) (s : State) : Answer := event (s.clkLow b)

/-- IDLE_DETECT (R52). -/
def execIdleDetect (b : BusIx) (s : State) : Answer := event (s.idleSeen b)

/-- STUCK_DETECTED (R51). -/
def execStuckDetected (x : StuckLine) (s : State) : Answer := event (s.stuckSeen x.bus x.atEntry)

/-- STRETCH_TIMEOUT (R67). -/
def execStretchTimeout (b : BusIx) (s : State) : Answer := event (s.stretched b)

/-- ADDRESS_BYTE_ACKNOWLEDGE (R62). -/
def execAddressByteAcknowledge (b : BusIx) (ack : Bool) (s : State) : Answer := event (s.addressAck b ack)

/-- WRITE_BYTE_ACKNOWLEDGE (R63). -/
def execWriteByteAcknowledge (b : BusIx) (ack : Bool) (s : State) : Answer := event (s.writeAck b ack)

/-- READ_BYTE_RECEIVED (R64). -/
def execReadByteReceived (b : BusIx) (byte : Byte) (s : State) : Answer := event (s.readByte b byte)

/-- ARBITRATION_LOSS (R71). -/
def execArbitrationLoss (b : BusIx) (bit : LossBit) (s : State) : Answer := event (s.arbitrationLost b bit)

/-- LOSS_IN_REPEATED_START_OR_STOP (R72). -/
def execLossInRepeatedStartOrStop (x : ConditionLoss) (s : State) : Answer :=
  event (s.lostInCondition x.bus x.inRepeatedStart)

/-- ADDRESS_TAIL_DIRECTION_BIT (R74). -/
def execAddressTailDirectionBit (b : BusIx) (addr : Addr) (dir : Direction) (s : State) : Answer := event (s.tailEnds b addr dir)

/-- FOREIGN_OWN_ADDRESS (R133). -/
def execForeignOwnAddress (b : BusIx) (dir : Direction) (s : State) : Answer := event (s.foreignOwn b dir)

/-- TARGET_WRITE_BYTE (R135). -/
def execTargetWriteByte (b : BusIx) (byte : Byte) (s : State) : Answer := event (s.targetByte b byte)

/-- TARGET_READ_BYTE_TAKEN (R137). -/
def execTargetReadByteTaken (x : ReadAck) (s : State) : Answer := event (s.targetTake x.bus x.ack)

/-- RECOVERY_CLOCK_RISE (R80). -/
def execRecoveryClockRise (b : BusIx) (datHigh : Bool) (s : State) : Answer := event (s.recoveryRise b datHigh)

/-- RECOVERY_PULSE_END (R81). -/
def execRecoveryPulseEnd (b : BusIx) (datHigh : Bool) (s : State) : Answer := event (s.recoveryPulse b datHigh)

/-- RECOVERY_CLOCK_TIMEOUT (R81). -/
def execRecoveryClockTimeout (b : BusIx) (s : State) : Answer := event (s.recoveryTimeout b)

/-- RECOVERY_STOP_DATA_HELD (R81). -/
def execRecoveryStopDataHeld (b : BusIx) (s : State) : Answer := event (s.recoveryStopHeld b)

/-- FOREIGN_ADDRESS_OTHER (R133, R135). -/
def execForeignAddressOther (b : BusIx) (addr : Addr) (dir : Direction) (s : State) : Answer := event (s.foreignOther b addr dir)

end Sys2Proof.Machine
end

