-- ==== Sys2Proof/Machine/LinkCommands.lean ====
section
/-! DEFINITION. The meanings of the host link events: bad characters, breaks, the transmitter and the retransmit timer. -/

namespace Sys2Proof.Machine

/-- BAD_FRAME (R167). -/
def execBadFrame (p : PortIx) (input : LineInput) (s : State) : Answer := event (s.lineInput p input)

/-- BREAK (R150, R164). -/
def execLineBreak (p : PortIx) (s : State) : Answer := event (s.breakSeen p)

/-- TRANSMIT_FRAME_END (R171). -/
def execTransmitFrameEnd (p : PortIx) (s : State) : Answer := event (s.frameSent p)

/-- RETRANSMIT_TIMER_EXPIRY (R160). -/
def execRetransmitTimerExpiry (p : PortIx) (s : State) : Answer := event (s.timerExpired p)

/-- CHARACTER_RECEIVED (R167). -/
def execCharacterReceived (p : PortIx) (byte : Byte) (s : State) : Answer := event (s.lineInput p (.char byte))

end Sys2Proof.Machine
end

