-- ==== Sys2Proof/Machine/TimeCommands.lean ====
section
/-! DEFINITION. The meanings of the reset, the clock, the times reached and the trigger lines. -/

namespace Sys2Proof.Machine

/-- POWER_ON_RESET (R24): every part of the state takes its power-on value. The model's own fields go on: the commands that
wait and the index of the next free value (logs 1 and 12). -/
def execPowerOnReset (rateHigh t0 t1 : Bool) (s : State) : Answer :=
  .next { State.powerOn rateHigh t0 t1 with freeIndex := s.freeIndex, pending := s.pending }

/-- CLOCK_TICK (R1). -/
def execClockTick (s : State) : Answer := event s.tick

/-- DEADLINE_EXPIRY (R17). -/
def execDeadlineExpiry (slot : Fin 64) (s : State) : Answer := event (s.deadlineReached slot)

/-- NOT_BEFORE_REACHED (R34). -/
def execNotBeforeReached (slot : Fin 64) (s : State) : Answer := event (s.spacingReached slot)

/-- AGING_PROMOTION (R32). -/
def execAgingPromotion (b : BusIx) (s : State) : Answer := event (s.promoteDue b)

/-- LEASE_EXPIRY (R96). -/
def execLeaseExpiry (slot : Fin 16) (s : State) : Answer := event (s.leaseExpired slot)

/-- TRIGGER_EDGE (R109). -/
def execTriggerEdge (line : TriggerLine) (rising : Bool) (s : State) : Answer := event (s.sampleLine line rising)

/-- WATCH_PERIOD_EXPIRY (R120). -/
def execWatchPeriodExpiry (slot : Fin 12) (s : State) : Answer := event (s.periodExpired slot)

end Sys2Proof.Machine
end

