-- ==== Sys2Proof/Machine/Dispatch.lean ====
section
/-! DEFINITION. The dispatch: each command to its meaning. -/

namespace Sys2Proof.Machine

def exec (i : Instr) (s : State) : Host.Outcome State Fault Refusal :=
  match i with
  | .powerOnReset rateHigh t0 t1 => Sys2Proof.Machine.execPowerOnReset rateHigh t0 t1 s
  | .clockTick => Sys2Proof.Machine.execClockTick s
  | .openSession p q body => Sys2Proof.Machine.execOpenSession p q body s
  | .closeSession p q body => Sys2Proof.Machine.execCloseSession p q body s
  | .querySession p q params => Sys2Proof.Machine.execQuerySession p q params s
  | .queryBus p q params => Sys2Proof.Machine.execQueryBus p q params s
  | .queryQueue p q params => Sys2Proof.Machine.execQueryQueue p q params s
  | .queryTransaction p q params => Sys2Proof.Machine.execQueryTransaction p q params s
  | .queryLeases p q params => Sys2Proof.Machine.execQueryLeases p q params s
  | .queryGroups p q params => Sys2Proof.Machine.execQueryGroups p q params s
  | .queryWatches p q params => Sys2Proof.Machine.execQueryWatches p q params s
  | .queryTarget p q params => Sys2Proof.Machine.execQueryTarget p q params s
  | .queryCounters p q params => Sys2Proof.Machine.execQueryCounters p q params s
  | .queryCountersClear p q scope number => Sys2Proof.Machine.execQueryCountersClear p q scope number s
  | .noticeAck p q body => Sys2Proof.Machine.execNoticeAck p q body s
  | .noticeRewind p q body => Sys2Proof.Machine.execNoticeRewind p q body s
  | .submit p q body => Sys2Proof.Machine.execSubmit p q body s
  | .cancel p q body => Sys2Proof.Machine.execCancel p q body s
  | .claim p q body => Sys2Proof.Machine.execClaim p q body s
  | .renew p q body => Sys2Proof.Machine.execRenew p q body s
  | .release p q body => Sys2Proof.Machine.execRelease p q body s
  | .revoke p q body => Sys2Proof.Machine.execRevoke p q body s
  | .groupCreate p q body => Sys2Proof.Machine.execGroupCreate p q body s
  | .groupArm p q body => Sys2Proof.Machine.execGroupArm p q body s
  | .groupFire p q body => Sys2Proof.Machine.execGroupFire p q body s
  | .groupBind p q body => Sys2Proof.Machine.execGroupBind p q body s
  | .groupDelete p q body => Sys2Proof.Machine.execGroupDelete p q body s
  | .watchAdd p q body => Sys2Proof.Machine.execWatchAdd p q body s
  | .watchRemove p q body => Sys2Proof.Machine.execWatchRemove p q body s
  | .watchResume p q body => Sys2Proof.Machine.execWatchResume p q body s
  | .targetOwnOn p q bus => Sys2Proof.Machine.execTargetOwnOn p q bus s
  | .targetOwnOff p q bus => Sys2Proof.Machine.execTargetOwnOff p q bus s
  | .targetLoadReplace p q bus count bytes => Sys2Proof.Machine.execTargetLoadReplace p q bus count bytes s
  | .targetLoadAppend p q bus count bytes => Sys2Proof.Machine.execTargetLoadAppend p q bus count bytes s
  | .busConfigure p q body => Sys2Proof.Machine.execBusConfigure p q body s
  | .busRecover p q body => Sys2Proof.Machine.execBusRecover p q body s
  | .resetBroker p q body => Sys2Proof.Machine.execResetBroker p q body s
  | .unknownKind p kind q body => Sys2Proof.Machine.execUnknownKind p kind q body s
  | .duplicateRequest p kind q body => Sys2Proof.Machine.execDuplicateRequest p kind q body s
  | .requestOverrun p kind q body => Sys2Proof.Machine.execRequestOverrun p kind q body s
  | .badFrame p input => Sys2Proof.Machine.execBadFrame p input s
  | .lineBreak p => Sys2Proof.Machine.execLineBreak p s
  | .transmitFrameEnd p => Sys2Proof.Machine.execTransmitFrameEnd p s
  | .retransmitTimerExpiry p => Sys2Proof.Machine.execRetransmitTimerExpiry p s
  | .deadlineExpiry slot => Sys2Proof.Machine.execDeadlineExpiry slot s
  | .notBeforeReached slot => Sys2Proof.Machine.execNotBeforeReached slot s
  | .agingPromotion b => Sys2Proof.Machine.execAgingPromotion b s
  | .leaseExpiry slot => Sys2Proof.Machine.execLeaseExpiry slot s
  | .triggerEdge line rising => Sys2Proof.Machine.execTriggerEdge line rising s
  | .watchPeriodExpiry slot => Sys2Proof.Machine.execWatchPeriodExpiry slot s
  | .busFreeWaitEnd b => Sys2Proof.Machine.execBusFreeWaitEnd b s
  | .startSeen b maker place => Sys2Proof.Machine.execStartSeen b maker place s
  | .stopSeen b place => Sys2Proof.Machine.execStopSeen b place s
  | .clkLowOnFreeBus b => Sys2Proof.Machine.execClkLowOnFreeBus b s
  | .idleDetect b => Sys2Proof.Machine.execIdleDetect b s
  | .stuckDetected x => Sys2Proof.Machine.execStuckDetected x s
  | .stretchTimeout b => Sys2Proof.Machine.execStretchTimeout b s
  | .addressByteAcknowledge b ack => Sys2Proof.Machine.execAddressByteAcknowledge b ack s
  | .writeByteAcknowledge b ack => Sys2Proof.Machine.execWriteByteAcknowledge b ack s
  | .readByteReceived b byte => Sys2Proof.Machine.execReadByteReceived b byte s
  | .arbitrationLoss b bit => Sys2Proof.Machine.execArbitrationLoss b bit s
  | .lossInRepeatedStartOrStop x => Sys2Proof.Machine.execLossInRepeatedStartOrStop x s
  | .addressTailDirectionBit b addr dir => Sys2Proof.Machine.execAddressTailDirectionBit b addr dir s
  | .foreignOwnAddress b dir => Sys2Proof.Machine.execForeignOwnAddress b dir s
  | .targetWriteByte b byte => Sys2Proof.Machine.execTargetWriteByte b byte s
  | .targetReadByteTaken x => Sys2Proof.Machine.execTargetReadByteTaken x s
  | .recoveryClockRise b datHigh => Sys2Proof.Machine.execRecoveryClockRise b datHigh s
  | .recoveryPulseEnd b datHigh => Sys2Proof.Machine.execRecoveryPulseEnd b datHigh s
  | .recoveryClockTimeout b => Sys2Proof.Machine.execRecoveryClockTimeout b s
  | .recoveryStopDataHeld b => Sys2Proof.Machine.execRecoveryStopDataHeld b s
  | .characterReceived p byte => Sys2Proof.Machine.execCharacterReceived p byte s
  | .foreignAddressOther b addr dir => Sys2Proof.Machine.execForeignAddressOther b addr dir s

end Sys2Proof.Machine
end

