-- ==== Sys2Proof/Safety.lean ====
section
/-! DEFINITION. What a safe run keeps: the laws the manual states of the device, as predicates of a state; and the words the
statements use for the ends of attempts and transfers, and for a request that is taken and answered. -/

namespace Sys2Proof.Machine

/-! ## Session units (R154, R155) -/

/-- The sequences of an outbox are consecutive, ending just before the session's next one (R155). -/
def consecutiveTo (next : Byte) : List OutboxEntry → Bool
  | [] => true
  | e :: rest => decide (e.seq + byteOf (rest.length + 1) = next) && consecutiveTo next rest

/-- The laws of one session unit: at most 16 outbox entries with consecutive sequences (R155); an admission list that
holds no source twice, and any source only while the outbox holds 16 entries (R154). -/
abbrev Session.lawful (x : Session) : Prop :=
  x.outbox.length ≤ Config.outboxRoom ∧ consecutiveTo x.nextSeq x.outbox = true ∧ x.admission.Nodup ∧
    (x.admission ≠ [] → x.outbox.length = Config.outboxRoom)

/-- Every session unit keeps its laws. -/
abbrev State.sessionsLawful (s : State) : Prop := ∀ p, (s.session p).lawful

/-! ## Leases (R90) -/

/-- No address of a bus lies in two GRANTED entries of different sessions: a lease is exclusive (R90). -/
abbrev State.leasesExclusive (s : State) : Prop :=
  ∀ i j, ∀ x ∈ s.lease i, ∀ y ∈ s.lease j, x.state = .granted → y.state = .granted → x.bus = y.bus →
    x.owner ≠ y.owner → ∀ a, ¬(x.covers a = true ∧ y.covers a = true)

/-- Entry `e` must wait behind the entries `earlier` of its waiting order (R91): its range overlaps a GRANTED entry of another
session on the bus, or an earlier entry of another session. -/
abbrev State.mustWait (s : State) (e : Lease) (earlier : List (Fin 16)) : Prop :=
  (∃ j, ∃ g ∈ s.lease j, g.state = .granted ∧ g.conflicts e.owner e.bus e.low e.high = true) ∨
    ∃ j ∈ earlier, ∃ g ∈ s.lease j, g.conflicts e.owner e.bus e.low e.high = true

/-- Every entry of this part of a waiting order must wait behind those before it. -/
abbrev State.waitsAmong (s : State) (order : List (Fin 16)) : Prop :=
  ∀ before j after, order = before ++ j :: after → ∃ e ∈ s.lease j, s.mustWait e before

/-! ## Buses -/

/-- An attempt that finishes under a disable has abort pending (R58). -/
def Engine.finishing : Engine → Bool
  | .active (some a) => a.abortPending && a.underDisable
  | _ => false

/-- The pulses a recovery has issued: none in WAIT_CLOCK, at most 8 while PULSING, at most 9 in STOPPING (R80, R81). -/
def Engine.pulsesBounded : Engine → Bool
  | .recovery r =>
    match r.step with
    | .waitClock => decide (r.pulses = 0)
    | .pulsing => decide (r.pulses ≤ 8)
    | .stopping => decide (r.pulses ≤ 9)
  | _ => true

/-- The laws of one bus: the monitor is OFF exactly while the engine is DISABLED (R54); an enabled bus's engine is not
DISABLED, a disabled bus's engine is DISABLED or finishes an attempt under abort (R58, R59); the bus-free wait runs only
with the monitor FREE (R61); a FAULT has its reason (R83); recovery issues at most 9 pulses (R80). -/
abbrev Bus.coherent (x : Bus) : Prop :=
  (x.line = .off ↔ x.engine = .disabled) ∧ (x.config.enabled = true → x.engine ≠ .disabled) ∧
  (x.config.enabled = false → x.engine = .disabled ∨ x.engine.finishing = true) ∧
  (x.engine = .reserved true → x.line = .free) ∧ (x.engine = .fault → x.faultReason.isSome = true) ∧
  x.engine.pulsesBounded = true

/-- Every bus keeps its laws. -/
abbrev State.busesCoherent (s : State) : Prop := ∀ b, (s.bus b).coherent

/-! ## Bounded buffers (R134, R139, R167, R170) -/

/-- The buffers of a target unit hold at most 32 bytes (R131, R134). -/
abbrev Target.bounded (t : Target) : Prop :=
  t.outbound.length ≤ Config.targetBytes ∧ (∀ d ∈ t.deferred, d.length ≤ Config.targetBytes) ∧
    ∀ k : Fin 4, t.slots[k].data.length ≤ Config.targetBytes

/-- A port's reply queue holds at most 4 replies and its assembly buffer at most 100 bytes (R167, R170). -/
abbrev Port.bounded (x : Port) : Prop :=
  x.replies.length ≤ Config.replyRoom ∧ x.rx.buffer.length ≤ Config.maxContent

/-- Every buffer keeps its bound. -/
abbrev State.buffersBounded (s : State) : Prop := (∀ p, (s.port p).bounded) ∧ ∀ b, (s.bus b).target.bounded

/-! ## The transmitters (R171) -/

/-- The transmitter of port `p` is not idle while it has something to send (R171). -/
abbrev State.settledAt (s : State) (p : PortIx) : Prop :=
  (s.port p).tx ≠ none ∨ ((s.port p).replies = [] ∧ ∀ e ∈ (s.session p).outbox, e.sent = true)

/-- No transmitter is idle with something to send. -/
abbrev State.settled (s : State) : Prop := ∀ p, s.settledAt p

/-! ## Records (R2, R7, R15, R26, R60, R103) -/

/-- The record in slot `i` is live in state `x` and names bus `b`. -/
abbrev State.recordAt (s : State) (i : Fin 64) (x : RecState) (b : BusIx) : Prop :=
  ∃ r ∈ s.record i, r.state = x ∧ r.bus = b

/-- The engine runs an attempt of this item. -/
def Engine.runs (it : Item) : Engine → Bool
  | .active (some a) => decide (a.item = it)
  | _ => false

/-- A record's own laws: at most 6 segments (R6), the retry budget and the attempts it allows (R7, R14), a result in DONE
alone (R15). -/
abbrev Record.lawful (r : Record) : Prop :=
  r.segments.length ≤ 6 ∧ r.budget ≤ 7 ∧ r.attempts ≤ r.budget + 1 ∧ (r.result.isSome = true ↔ r.state = .done) ∧
    (r.state = .staged ∨ r.state = .queued → r.attempts ≤ r.budget)

/-- The laws of the transaction table: those of each record; every record item of a queue is a QUEUED record of that
bus (R26); the record of an attempt is ACTIVE on that bus (R60); every tag of a staged list is a STAGED record whose
group field names the entry (R103). -/
abbrev State.recordsLawful (s : State) : Prop :=
  (∀ i, ∀ r ∈ s.record i, r.lawful) ∧
  (∀ b i, QItem.record i ∈ (s.bus b).queue → s.recordAt i .queued b) ∧
  (∀ b i, (s.bus b).engine.runs (.record i) = true → s.recordAt i .active b) ∧
  (∀ g, ∀ x ∈ s.group g, ∀ i ∈ x.staged,
    ∃ r ∈ s.record i, r.state = .staged ∧ r.group = some (s.groupId g) ∧ r.owner = x.owner)

/-! ## Places (R9, R10, R27, R117) -/

/-- What an item of a queue is, whatever its class and age: a record or the read of a watch, by slot. -/
def QItem.item : QItem → Item
  | .record i => .record i
  | .watchRead w _ _ _ => .watch w

/-- The window law: a session owns no more records than its window (R10). A session that is not OPEN owns ACTIVE ones alone
(R148), and a CLOSED one none (R149). -/
abbrev State.windowsKept (s : State) : Prop :=
  ∀ p, s.windowUse p ≤ (s.session p).window ∧
    ((s.session p).state ≠ .opened → ∀ i, ∀ r ∈ s.record i, r.owner = p → r.state = .active) ∧
    ((s.session p).state = .closed → s.windowUse p = 0)

/-- Every record stands in the place of its state (R9): a STAGED one in a group's staged list, a QUEUED one in its bus's
queue, an ACTIVE one in its bus's engine, a DONE one in its owner's admission list. That no record stands in another
place besides is said by `recordsLawful` and `itemsOnce`. -/
abbrev State.recordsPlaced (s : State) : Prop :=
  ∀ i, ∀ r ∈ s.record i,
    (r.state = .staged → ∃ g, ∃ x ∈ s.group g, i ∈ x.staged) ∧
    (r.state = .queued → QItem.record i ∈ (s.bus r.bus).queue) ∧
    (r.state = .active → (s.bus r.bus).engine.runs (.record i) = true) ∧
    (r.state = .done → Source.record i ∈ (s.session r.owner).admission)

/-- No item stands more than once in the four queues together (R27), and no record more than once in a staged list. The read
item of a queue is that of a watch of the bus whose read field is QUEUED, and the read an engine runs is that of a watch of
the bus whose read field is ACTIVE (R117, R121). -/
abbrev State.itemsOnce (s : State) : Prop :=
  (∀ b, ((s.bus b).queue.map QItem.item).Nodup) ∧
  (∀ b c, b ≠ c → ∀ x ∈ (s.bus b).queue, ∀ y ∈ (s.bus c).queue, x.item ≠ y.item) ∧
  (∀ g, ∀ x ∈ s.group g, x.staged.Nodup) ∧
  (∀ b w c t z, QItem.watchRead w c t z ∈ (s.bus b).queue → ∃ x ∈ s.watch w, x.bus = b ∧ x.read = .queued) ∧
  (∀ b w, (s.bus b).engine.runs (.watch w) = true → ∃ x ∈ s.watch w, x.bus = b ∧ x.read = .active)

/-- The window law, the one-place law and the law of the queues together. -/
abbrev State.placesLawful (s : State) : Prop := s.windowsKept ∧ s.recordsPlaced ∧ s.itemsOnce

/-! ## The ends of an attempt (R65 to R67, R70 to R73, R78, R79) -/

/-- The engine makes the stop of `why`, as an event meets it that is not in the acknowledge bit after a read byte. After a
read byte an abort taken in that bit makes it at the boundary (R68; log 36). -/
def Attempt.makesStop (a : Attempt) (why : StopCause) (atBoundary : Prop) : Prop :=
  a.phase = .stop why ∨ (∃ nack, a.phase = .readAck nack (.stop why)) ∨
    (why = .aborted ∧ atBoundary ∧ a.abortPending = true ∧
      ∃ nack, a.phase = .readAck nack .nextByte ∨ a.phase = .readAck nack .repeatedStart)

/-- The engine makes a repeated start, as an event meets it that is not in the acknowledge bit after a read byte (log 36). -/
def Attempt.makesRepeatedStart (a : Attempt) (atBoundary : Prop) : Prop :=
  a.phase = .repeatedStart ∨
    ∃ nack, a.phase = .readAck nack .repeatedStart ∧ (atBoundary → a.abortPending = false)

/-- The engine sends bit `k` as 1, of an address byte or of a written byte (R47, R71). -/
def Attempt.sendsOne (a : Attempt) (k : Fin 8) (inAddress : Bool) : Prop :=
  a.phase = .inByte ∧ ∃ g, a.segments[a.segIndex - 1]? = some g ∧
    ((inAddress = true ∧ a.byteIndex = 0 ∧ g.addressByte.getMsbD k.val = true) ∨
      (inAddress = false ∧ a.byteIndex ≠ 0 ∧ ∃ addr data x,
        g = .write addr data ∧ data[a.byteIndex - 1]? = some x ∧ x.getMsbD k.val = true))

/-- The engine sends the acknowledge bit after a read byte as NACK: at the segment's end, or under abort (R64, R68). -/
def Attempt.sendsNack (a : Attempt) : Prop :=
  ∃ nack follow, a.phase = .readAck nack follow ∧ (nack = true ∨ a.abortPending = true)

/-- The engine does not drive clock `bit` of a byte, or drives it as ACK (R78): the acknowledge bit after an address byte or
a written byte, the bits of a read byte, and the acknowledge bit after a read byte when it is an ACK. -/
def Attempt.leavesBit (a : Attempt) (bit : Fin 9) : Prop :=
  (a.phase = .inByte ∧ bit = 8) ∨
    (∃ nack, (a.phase = .inByte ∨ a.phase = .readAck nack .nextByte) ∧ a.byteIndex ≠ 0 ∧ bit ≠ 8 ∧
      ∃ addr n, a.segments[a.segIndex - 1]? = some (.read addr n)) ∨
    (bit = 8 ∧ a.abortPending = false ∧ ∃ follow, a.phase = .readAck false follow)

/-- What the engine hands over at the stop of `why` (R65, R66). -/
inductive StopHandsOver : StopCause → AttemptEnd → Prop
  | natural : StopHandsOver .naturalEnd .ok
  | addressNack : StopHandsOver .addressNack .nackAddress
  | dataNack : StopHandsOver .dataNack .nackData
  | aborted : StopHandsOver .aborted .stoppedByAbort

/-- The bus with an arbitration loss counted (R72). -/
def Bus.withLoss (x : Bus) : Bus :=
  { x with counters := { x.counters with arbitrationLosses := satInc x.counters.arbitrationLosses } }

/-- The bus with a bus error counted (R79). -/
def Bus.withError (x : Bus) : Bus :=
  { x with counters := { x.counters with busErrors := satInc x.counters.busErrors } }

/-- The bus with a stretch timeout counted (R67). -/
def Bus.withStretch (x : Bus) : Bus :=
  { x with counters := { x.counters with stretchTimeouts := satInc x.counters.stretchTimeouts } }

/-- The monitor sees a foreign start: BUSY, and the next byte is an address byte (R51, R133). -/
def Bus.afterStart (x : Bus) : Bus := { x with line := .busy, following := true }

/-- The monitor sees a stop: FREE (R51). -/
def Bus.afterStop (x : Bus) : Bus := { x with line := .free }

/-- The engine enters IDLE and tests its queue (R37). -/
def toIdle (b : BusIx) (t : State) : State := (t.setEngine b .idle).wake b

/-- The engine stays ACTIVE without an attempt for the rest of the address byte (R73, R74). -/
def toAddressTail (b : BusIx) (t : State) : State :=
  t.modBus b fun x => { x with engine := .active none, following := false }

/-- The engine enters RECOVERY, counted, in WAIT_CLOCK with CLK low, and with CLK high in PULSING with DAT low and in
STOPPING with DAT high (R80; log 28). -/
def toRecovery (b : BusIx) (atEntry : Option Bool) (t : State) : State :=
  t.modBus b fun x => { x with
    counters := { x.counters with recoveries := satInc x.counters.recoveries }
    engine := .recovery
      { step := match atEntry with | none => .waitClock | some false => .pulsing | some true => .stopping
        pulses := 0
        fromFault := false }
    following := false }

/-- The engine enters DISABLED, the monitor OFF, and BUS_EVENT DISABLED is offered (R58). -/
def toDisabled (b : BusIx) (t : State) : State :=
  (t.modBus b fun x => { x with engine := .disabled, line := .off, following := false, faultReason := none }).offerBusEvent
    b .disabled

/-- The commands that end attempt `a` on bus `b`. `EndsAttempt b a c a' e before next`: command `c` ends it, handing over the
outcome `e` with the segment index and the bytes of `a'`; `before` is what the event does to the bus first, and `next` how the
engine goes on when its bus is enabled.
- A stop in the stop that the engine makes is its own, and after the natural end moves completed OK (R65, R66; log 33); a bus
  enabled again gets its monitor UNKNOWN (R58).
- A loss, or a foreign start, in that stop lets its outcome stand (R72; log 18).
- A loss, a foreign start or a stop in a repeated start is a loss (R72).
- A loss, a foreign start or a stop in a bit sent as 1, or in a NACK after a read byte, is a loss (R71); after one in an
  address byte that is not a stop the address tail follows (R73). Where the start of the repeated start has not been reported
  itself, the address byte is that of the next segment (log 7).
- A start or a stop in a bit that the engine does not drive, or drives as ACK, is a bus error (R78, R79).
- A stretch timeout, or a stuck line from UNKNOWN or BUSY, takes the engine into RECOVERY, whatever the phase (R57, R67; log 27).
An end without a stop on a bus enabled again is the ordinary one (log 17). -/
inductive EndsAttempt (s : State) (b : BusIx) (a : Attempt) :
    Instr → Attempt → AttemptEnd → (Bus → Bus) → (State → State) → Prop
  | stop (why : StopCause) (e : AttemptEnd) (place : Place)
      (h : a.phase = .stop why ∨ (place ≠ .inByte 8 ∧ a.makesStop why (place = .boundary))) (he : StopHandsOver why e) :
      EndsAttempt s b a (.stopSeen b place) a e
        (fun x => if why = .naturalEnd then
          { x.afterStop with counters := { x.counters with completedOk := satInc x.counters.completedOk } } else x.afterStop)
        (fun t => if a.underDisable = true then toIdle b (t.setLine b .unknown) else toIdle b t)
  | lossInStop (why : StopCause) (e : AttemptEnd) (inRepeatedStart : Bool)
      (h : a.makesStop why (inRepeatedStart = false)) (he : StopHandsOver why e) :
      EndsAttempt s b a (.lossInRepeatedStartOrStop { bus := b, inRepeatedStart := inRepeatedStart }) a e Bus.withLoss (toIdle b)
  | startInStop (why : StopCause) (e : AttemptEnd) (place : Place)
      (h : a.phase = .stop why ∨ (place ≠ .inByte 8 ∧ a.makesStop why (place = .boundary))) (he : StopHandsOver why e) :
      EndsAttempt s b a (.startSeen b .foreign place) a e (fun x => x.afterStart.withLoss) (toIdle b)
  | lossInRepeatedStart (inRepeatedStart : Bool) (h : a.makesRepeatedStart (inRepeatedStart = false)) :
      EndsAttempt s b a (.lossInRepeatedStartOrStop { bus := b, inRepeatedStart := inRepeatedStart }) a .lost Bus.withLoss
        (toIdle b)
  | startInRepeatedStart (place : Place)
      (h : a.phase = .repeatedStart ∨ (place ≠ .inByte 8 ∧ a.makesRepeatedStart (place = .boundary))) :
      EndsAttempt s b a (.startSeen b .foreign place) a .lost (fun x => x.afterStart.withLoss) (toIdle b)
  | stopInRepeatedStart (place : Place)
      (h : a.phase = .repeatedStart ∨ (place ≠ .inByte 8 ∧ a.makesRepeatedStart (place = .boundary))) :
      EndsAttempt s b a (.stopSeen b place) a .lost (fun x => x.afterStop.withLoss) (toIdle b)
  | lossInAddress (k : Fin 8) (h : a.sendsOne k true) :
      EndsAttempt s b a (.arbitrationLoss b (.addressByte k)) a .lost Bus.withLoss (toAddressTail b)
  | lossInNextAddress (k : Fin 8) (a' : Attempt) (h : ∃ nack, a.phase = .repeatedStart ∨ a.phase = .readAck nack .repeatedStart)
      (ha : a' = { a with segIndex := a.segIndex + 1, byteIndex := 0, phase := .inByte }) (h' : a'.sendsOne k true) :
      EndsAttempt s b a (.arbitrationLoss b (.addressByte k)) a' .lost Bus.withLoss (toAddressTail b)
  | lossInWritten (k : Fin 8) (h : a.sendsOne k false) :
      EndsAttempt s b a (.arbitrationLoss b (.writtenByte k)) a .lost Bus.withLoss (toIdle b)
  | startInSentOne (k : Fin 8) (inAddress : Bool) (h : a.sendsOne k inAddress) :
      EndsAttempt s b a (.startSeen b .foreign (.inByte (k.castLE (by decide)))) a .lost (fun x => x.afterStart.withLoss)
        (if inAddress = true then toAddressTail b else toIdle b)
  | stopInSentOne (k : Fin 8) (inAddress : Bool) (h : a.sendsOne k inAddress) :
      EndsAttempt s b a (.stopSeen b (.inByte (k.castLE (by decide)))) a .lost (fun x => x.afterStop.withLoss) (toIdle b)
  | lossInNack (h : a.sendsNack) :
      EndsAttempt s b a (.arbitrationLoss b .readNack) a .lost Bus.withLoss (toIdle b)
  | startInNack (h : a.sendsNack) :
      EndsAttempt s b a (.startSeen b .foreign (.inByte 8)) a .lost (fun x => x.afterStart.withLoss) (toIdle b)
  | stopInNack (h : a.sendsNack) :
      EndsAttempt s b a (.stopSeen b (.inByte 8)) a .lost (fun x => x.afterStop.withLoss) (toIdle b)
  | startInUndriven (bit : Fin 9) (h : a.leavesBit bit) :
      EndsAttempt s b a (.startSeen b .foreign (.inByte bit)) a .busError (fun x => x.afterStart.withError) (toIdle b)
  | stopInUndriven (bit : Fin 9) (h : a.leavesBit bit) :
      EndsAttempt s b a (.stopSeen b (.inByte bit)) a .busError (fun x => x.afterStop.withError) (toIdle b)
  | stretch : EndsAttempt s b a (.stretchTimeout b) a .stretchTimeout Bus.withStretch (toRecovery b none)
  | stuck (atEntry : Option Bool) (h : (s.bus b).line = .unknown ∨ (s.bus b).line = .busy) :
      EndsAttempt s b a (.stuckDetected { bus := b, atEntry := atEntry }) a .stretchTimeout
        (fun x => Bus.withStretch { x with line := .stuck }) (toRecovery b atEntry)

/-! ## What an attempt's end leaves its item (R19, R75, R76, R122 to R124) -/

/-- ABORTED on an enabled bus, BUS_OFF on a disabled one (R19). -/
def abortedOn (enabled : Bool) : Status := if enabled = true then .aborted else .busOff

/-- `EndsRecord r a enabled e status`: outcome `e` of attempt `a` ends record `r` of an OPEN session with `status`, other than
OK, on a bus that is enabled or not (R16, R19, R75, R76, first row that applies). -/
inductive EndsRecord (r : Record) (a : Attempt) (enabled : Bool) : AttemptEnd → Status → Prop
  | nackData : EndsRecord r a enabled .nackData .nackData
  | stretchTimeout : EndsRecord r a enabled .stretchTimeout .stretchTimeout
  | busError : EndsRecord r a enabled .busError .busError
  | aborted : EndsRecord r a enabled .stoppedByAbort (abortedOn enabled)
  | lostPartial (h : r.noReplay = true ∧ a.anyAcked = true) : EndsRecord r a enabled .lost .lostPartial
  | lostAborted (h : r.noReplay = false ∨ a.anyAcked = false) (ha : r.abortPending = true) :
      EndsRecord r a enabled .lost (abortedOn enabled)
  | lost (h : r.noReplay = false ∨ a.anyAcked = false) (ha : r.abortPending = false) (hb : r.budget < r.attempts) :
      EndsRecord r a enabled .lost .lost
  | nackFinal (h : r.retryNack = false) : EndsRecord r a enabled .nackAddress .nackAddress
  | nackAborted (h : r.retryNack = true) (ha : r.abortPending = true) :
      EndsRecord r a enabled .nackAddress (abortedOn enabled)
  | nackAddress (h : r.retryNack = true) (ha : r.abortPending = false) (hb : r.budget < r.attempts) :
      EndsRecord r a enabled .nackAddress .nackAddress

/-- `RetriesRecord r a e why`: outcome `e` of attempt `a` sends record `r` of an OPEN session back to its queue, with the last
retry status `why` (R75 row 6, R76 row 4). -/
inductive RetriesRecord (r : Record) (a : Attempt) : AttemptEnd → Status → Prop
  | lost (h : r.noReplay = false ∨ a.anyAcked = false) (ha : r.abortPending = false) (hb : r.attempts ≤ r.budget) :
      RetriesRecord r a .lost .lost
  | nackAddress (h : r.retryNack = true) (ha : r.abortPending = false) (hb : r.attempts ≤ r.budget) :
      RetriesRecord r a .nackAddress .nackAddress

/-- Two values are equal in every bit that the mask marks 1 (R123). -/
def SameUnder (mask x y : List Byte) : Prop := List.zipWith (· &&& ·) mask x = List.zipWith (· &&& ·) mask y

/-- `ReadLeaves w value clock w'`: a successful read of `value` at `clock` makes `w'` of watch entry `w` (R121 to R123). The
order of two pending reports is R128's. -/
inductive ReadLeaves (w : Watch) (value : List Byte) (clock : Clock) : Watch → Prop
  | asReported (hp : w.valueReport = none) (h : ∃ old, w.lastReported = some old ∧ SameUnder w.mask old value) :
      ReadLeaves w value clock { w with read := .none, failures := 0 }
  | changed (hp : w.valueReport = none) (h : ∀ old, w.lastReported = some old → ¬SameUnder w.mask old value) :
      ReadLeaves w value clock { w with
        read := .none
        failures := 0
        valueReport := some { value := value, time := clock, coalesced := 0 }
        suspensionFirst := w.suspensionReport.isSome }
  | asPending (v : ValueReport) (hp : w.valueReport = some v) (h : SameUnder w.mask v.value value) :
      ReadLeaves w value clock { w with read := .none, failures := 0 }
  | coalesced (v : ValueReport) (hp : w.valueReport = some v) (h : ¬SameUnder w.mask v.value value) :
      ReadLeaves w value clock { w with
        read := .none
        failures := 0
        valueReport := some { value := value, time := clock, coalesced := satInc v.coalesced } }

/-- `FailureLeaves w status w'`: a read that failed with `status` makes `w'` of watch entry `w` (R121, R124). -/
inductive FailureLeaves (w : Watch) (status : Status) : Watch → Prop
  | counted (h : w.failures + 1 < 3) :
      FailureLeaves w status { w with read := .none, failures := w.failures + 1, lastFailure := some status }
  | suspended (h : 3 ≤ w.failures + 1) :
      FailureLeaves w status { w with
        read := .none
        failures := w.failures + 1
        lastFailure := some status
        state := .suspended
        nextPeriod := none
        suspensionReport := some
          { status := status
            suspensions := match w.suspensionReport with | none => 1 | some u => satInc u.suspensions }
        suspensionFirst := if w.suspensionReport.isSome then w.suspensionFirst else w.valueReport.isNone }

/-- The outcomes of a watch read that are failures of it, each with its status (R122 row 4). -/
inductive FailedRead : AttemptEnd → Status → Prop
  | nackAddress : FailedRead .nackAddress .nackAddress
  | nackData : FailedRead .nackData .nackData
  | lost : FailedRead .lost .lost
  | stretchTimeout : FailedRead .stretchTimeout .stretchTimeout
  | busError : FailedRead .busError .busError

/-! ## The end of a target transfer (R135 to R138, R140 to R142) -/

/-- Inbound slot `k` is the FILLING one, the lowest if there were several (R134). -/
def Target.fills (t : Target) (k : Fin 4) : Prop :=
  t.slots[k].state = .filling ∧ ∀ j : Fin 4, j < k → t.slots[j].state ≠ .filling

/-- The outbound buffer after a read: a deferred replacement is applied (R140). -/
def Target.bufferAfter (t : Target) : List Byte := match t.deferred with | none => t.outbound | some d => d

/-- The bus after a read has ended, but for the tally (R137, R140). -/
def Bus.afterRead (x : Bus) : Bus :=
  { x with
    counters := { x.counters with targetReads := satInc x.counters.targetReads }
    target := { x.target with reading := none, deferred := none, outbound := x.target.bufferAfter, discard := false } }

/-- The tally with read `r`, which ends at `clock`, added to it (R138). -/
def Target.tallied (t : Target) (r : ReadProgress) (clock : Clock) : Tally :=
  match t.tally with
  | none =>
    { reads := 1, fromBuffer := satOf r.fromBuffer, fillBytes := satOf r.fillBytes, lastEnd := clock,
      remaining := t.bufferAfter.length }
  | some y =>
    { reads := satInc y.reads, fromBuffer := satOf (y.fromBuffer.toNat + r.fromBuffer),
      fillBytes := satOf (y.fillBytes.toNat + r.fillBytes), lastEnd := clock, remaining := t.bufferAfter.length }

/-- `TransferEnds s b u`: the transfer in progress on bus `b` ends, by a stop, a repeated start that does not read on, or a
cut-off, and makes `u` of `s`. A write's slot is COMPLETE, followed by no read, and reported; a read's counts go to the tally
of an owner that asks for it. Under the discard mark nothing is reported, and the mark goes (R141). With no transfer nothing
changes. -/
inductive TransferEnds (s : State) (b : BusIx) : State → Prop
  | none (hw : ∀ k : Fin 4, (s.bus b).target.slots[k].state ≠ .filling) (hr : (s.bus b).target.reading = none) :
      TransferEnds s b s
  | write (k : Fin 4) (p : PortIx) (hw : (s.bus b).target.fills k) (hr : (s.bus b).target.reading = none)
      (ho : (s.bus b).target.owner = some p) (hd : (s.bus b).target.discard = false) :
      TransferEnds s b ((s.modBus b fun x => { x with
        counters := { x.counters with targetWrites := satInc x.counters.targetWrites }
        target := { x.target with
          slots := x.target.slots.set k
            ({ x.target.slots[k] with
               state := .complete
               followedByRead := false
               completionTime := some s.clock } : InSlot) } }).offer p (.inbound b k))
  | markedWrite (k : Fin 4) (hw : (s.bus b).target.fills k) (hr : (s.bus b).target.reading = none)
      (hd : (s.bus b).target.discard = true) :
      TransferEnds s b (s.modBus b fun x => { x with
        counters := { x.counters with targetWrites := satInc x.counters.targetWrites }
        target := { x.target with slots := x.target.slots.set k InSlot.empty, discard := false } })
  | read (r : ReadProgress) (hw : ∀ k : Fin 4, (s.bus b).target.slots[k].state ≠ .filling)
      (hr : (s.bus b).target.reading = some r)
      (h : (s.bus b).target.discard = true ∨ (s.bus b).target.owner = none ∨
        ∃ p, (s.bus b).target.owner = some p ∧ (s.session p).maskTargetRead = false) :
      TransferEnds s b (s.modBus b Bus.afterRead)
  | talliedRead (r : ReadProgress) (p : PortIx) (hw : ∀ k : Fin 4, (s.bus b).target.slots[k].state ≠ .filling)
      (hr : (s.bus b).target.reading = some r) (ho : (s.bus b).target.owner = some p)
      (hd : (s.bus b).target.discard = false) (hm : (s.session p).maskTargetRead = true) :
      TransferEnds s b ((s.modBus b fun x =>
        { x.afterRead with target := { x.afterRead.target with tally := some (x.target.tallied r s.clock) } }).offer p
          (.tally b))

/-- The engine leaves TARGET at a stop (R85, R133): for IDLE, and from a FAULT with its reason cleared and RECOVERED offered,
after the reports of the transfer (log 24). -/
def leaveTarget (b : BusIx) (u : State) : State :=
  ((match (u.bus b).faultReason with
    | none => u.setEngine b .idle
    | some _ => (u.modBus b fun x => { x with engine := .idle, faultReason := none }).offerBusEvent b
        (.recovered .released)).wake b).setFollowing b false

/-! ## Requests taken and answered (R168 to R170) -/

/-- The frame is a request that rows 1 to 3 of R168 leave over: it fits, the reply queue has room and it repeats nothing. -/
def State.takes (s : State) (p : PortIx) (kind q : Byte) (body : List Byte) : Bool :=
  bodyFits body && decide (kind ≠ 0x04) && decide ((s.port p).replies.length < Config.replyRoom) &&
    (s.cachedReply p kind q).isNone

/-- The state once a good frame has ended on port `p`: it is counted, and the receiver is IN_FRAME and empty (R167,
R168). -/
def State.arrived (s : State) (p : PortIx) : State :=
  s.modPort p fun x =>
    { x with
      rx := { state := .inFrame, buffer := [] }
      counters := { x.counters with good := satInc x.counters.good } }

/-- The end of an event that answers a request with reply body `r`: the reply is cached and queued (R168 row 5), and the
idle transmitters choose (R171). -/
def State.replied (s : State) (p : PortIx) (kind q : Byte) (r : Reply) : State :=
  (s.respond p kind q (replyTo kind q r)).settle

/-- The frame a request row carries: its port, kind, sequence and body. -/
def frameOf : Instr → Option (PortIx × Byte × Byte × List Byte)
  | .openSession p q body => some (p, 0x01, q, body)
  | .closeSession p q body => some (p, 0x02, q, body)
  | .querySession p q params => some (p, 0x03, q, 1 :: params)
  | .queryBus p q params => some (p, 0x03, q, 2 :: params)
  | .queryQueue p q params => some (p, 0x03, q, 3 :: params)
  | .queryTransaction p q params => some (p, 0x03, q, 4 :: params)
  | .queryLeases p q params => some (p, 0x03, q, 5 :: params)
  | .queryGroups p q params => some (p, 0x03, q, 6 :: params)
  | .queryWatches p q params => some (p, 0x03, q, 7 :: params)
  | .queryTarget p q params => some (p, 0x03, q, 8 :: params)
  | .queryCounters p q params => some (p, 0x03, q, 9 :: params)
  | .queryCountersClear p q scope number => some (p, 0x03, q, [9, scope, number, 1])
  | .noticeAck p q body => some (p, 0x04, q, body)
  | .noticeRewind p q body => some (p, 0x05, q, body)
  | .submit p q body => some (p, 0x06, q, body)
  | .cancel p q body => some (p, 0x07, q, body)
  | .claim p q body => some (p, 0x08, q, body)
  | .renew p q body => some (p, 0x09, q, body)
  | .release p q body => some (p, 0x0A, q, body)
  | .revoke p q body => some (p, 0x0B, q, body)
  | .groupCreate p q body => some (p, 0x0C, q, body)
  | .groupArm p q body => some (p, 0x0D, q, body)
  | .groupFire p q body => some (p, 0x0E, q, body)
  | .groupBind p q body => some (p, 0x0F, q, body)
  | .groupDelete p q body => some (p, 0x10, q, body)
  | .watchAdd p q body => some (p, 0x11, q, body)
  | .watchRemove p q body => some (p, 0x12, q, body)
  | .watchResume p q body => some (p, 0x13, q, body)
  | .targetOwnOn p q bus => some (p, 0x14, q, [bus, 1])
  | .targetOwnOff p q bus => some (p, 0x14, q, [bus, 0])
  | .targetLoadReplace p q bus count bytes => some (p, 0x15, q, bus :: 0 :: count :: bytes)
  | .targetLoadAppend p q bus count bytes => some (p, 0x15, q, bus :: 1 :: count :: bytes)
  | .busConfigure p q body => some (p, 0x16, q, body)
  | .busRecover p q body => some (p, 0x17, q, body.bytes)
  | .resetBroker p q body => some (p, 0x18, q, body)
  | .unknownKind p kind q body | .duplicateRequest p kind q body | .requestOverrun p kind q body =>
    some (p, kind, q, body)
  | .powerOnReset .. | .clockTick | .badFrame .. | .lineBreak .. | .transmitFrameEnd ..
  | .retransmitTimerExpiry .. | .deadlineExpiry .. | .notBeforeReached .. | .agingPromotion ..
  | .leaseExpiry .. | .triggerEdge .. | .watchPeriodExpiry .. | .busFreeWaitEnd .. | .startSeen ..
  | .stopSeen .. | .clkLowOnFreeBus .. | .idleDetect .. | .stuckDetected .. | .stretchTimeout ..
  | .addressByteAcknowledge .. | .writeByteAcknowledge .. | .readByteReceived .. | .arbitrationLoss ..
  | .lossInRepeatedStartOrStop .. | .addressTailDirectionBit .. | .foreignOwnAddress ..
  | .targetWriteByte .. | .targetReadByteTaken .. | .recoveryClockRise .. | .recoveryPulseEnd ..
  | .recoveryClockTimeout .. | .recoveryStopDataHeld .. | .characterReceived .. | .foreignAddressOther .. => none

/-- The body length of a request kind whose length is fixed (section 12.3). -/
def requestLength (kind : Byte) : Option Nat :=
  match kind.toNat with
  | 0x01 => some 4
  | 0x02 | 0x05 | 0x0C | 0x18 => some 0
  | 0x07 | 0x0A | 0x0B | 0x0D | 0x0E | 0x10 | 0x12 | 0x13 | 0x17 => some 1
  | 0x08 => some 6
  | 0x09 | 0x0F => some 3
  | 0x14 => some 2
  | 0x16 => some 9
  | _ => none

end Sys2Proof.Machine
end

