-- ==== Sys2Proof/Certificates/Slice0/Obligations.lean ====
section
/-! DEFINITION. The statements for the provers. Each says what a command does to the state, in the manual's terms. Where a
state is written as an update of another, the update is all that differs: it is the command's frame. `s.arrived p` is `s`
with port p's good frame counted, `s.replied p kind q r` is `s` with the reply `r` cached and queued, and `settle` is the
choice of the idle transmitters (Safety.lean, Machine/Notices.lean). -/

open Sys2Proof Sys2Proof.Machine

/-! ## The machine -/

/-- A step takes the command at the front of the queue and runs it on the state with the rest; an empty queue idles (the
model's choice, log 1). -/
def Obligations.StepTakesTheFrontCommand : Prop :=
  (∀ (s : State) (c : Instr) (rest : List Instr), s.pending = c :: rest → step s = exec c { s with pending := rest }) ∧
  ∀ s : State, s.pending = [] → step s = .next s

/-- No command stops the block: it always answers a next state (no rule of the manual stops it), and it acts on everything
but the queue (log 1). -/
def Obligations.CommandsCompleteAndLeaveTheQueue : Prop :=
  ∀ (c : Instr) (s : State), ∃ t, exec c s = .next t ∧ t.pending = s.pending

/-- The clock moves by CLOCK_TICK and POWER_ON_RESET alone (R1), the serial rate by POWER_ON_RESET alone (R163), and the
sampled trigger levels by TRIGGER_EDGE and POWER_ON_RESET alone (R109). The configuration of a bus moves by BUS_CONFIGURE,
whatever command carries its frame or ends it (CHARACTER_RECEIVED), and by POWER_ON_RESET alone (R174, R175). While port 0's
session is not OPEN there is no primary session, and no command but POWER_ON_RESET changes the configuration of any bus (R147,
R174). -/
def Obligations.OnlyTheirEventsMoveClockLevelsAndConfigurations : Prop :=
  ∀ (c : Instr) (s t : State), (∀ h x y, c ≠ .powerOnReset h x y) → exec c s = .next t →
    (c ≠ .clockTick → t.clock = s.clock) ∧ t.rateHigh = s.rateHigh ∧
    ((∀ l up, c ≠ .triggerEdge l up) → t.levels = s.levels) ∧
    ((∀ p x, c ≠ .characterReceived p x) → (∀ p q body, frameOf c ≠ some (p, 0x16, q, body)) →
      ∀ b, (t.bus b).config = (s.bus b).config) ∧
    (s.isOpen 0 = false → ∀ b, (t.bus b).config = (s.bus b).config)

/-! ## What every step keeps -/

/-- At State.reset every law holds. -/
def Obligations.ResetKeepsEveryLaw : Prop :=
  State.reset.sessionsLawful ∧ State.reset.leasesExclusive ∧ State.reset.busesCoherent ∧
    State.reset.buffersBounded ∧ State.reset.recordsLawful ∧ State.reset.settled ∧ State.reset.placesLawful

/-- The outbox laws of R155 and the admission-list law of R154 are kept by every step. -/
def Obligations.StepsKeepTheSessionLaws : Prop :=
  ∀ s t : State, s.sessionsLawful → step s = .next t → t.sessionsLawful

/-- Leases stay exclusive: no step puts one address of a bus into GRANTED entries of two sessions (R90, R91). -/
def Obligations.StepsKeepLeasesExclusive : Prop :=
  ∀ s t : State, s.leasesExclusive → step s = .next t → t.leasesExclusive

/-- The laws of each bus are kept by every step (R54, R58, R59, R61, R80, R81, R83). -/
def Obligations.StepsKeepTheBusLaws : Prop :=
  ∀ s t : State, s.busesCoherent → step s = .next t → t.busesCoherent

/-- Every buffer of the block keeps its bound (R131, R134, R139, R167, R170). -/
def Obligations.StepsKeepTheBufferBounds : Prop :=
  ∀ s t : State, s.buffersBounded → step s = .next t → t.buffersBounded

/-- The laws of the transaction table are kept by every step: among them, a record never has more attempts than its retry
budget plus one (R7, R14). So are, beside them, the window law (R10), the law that every record stands in the one place of
its state (R9), and the law that no item stands more than once in the queues together (R27). -/
def Obligations.StepsKeepTheRecordLaws : Prop :=
  (∀ s t : State, s.recordsLawful → step s = .next t → t.recordsLawful) ∧
  ∀ s t : State, s.recordsLawful → s.placesLawful → step s = .next t → t.placesLawful

/-- After every command no transmitter is idle with something to send (R171; the moment is log 21). -/
def Obligations.CommandsLeaveTheTransmittersSettled : Prop :=
  ∀ (c : Instr) (s t : State), exec c s = .next t → t.settled

/-! ## Reset and clock -/

/-- POWER_ON_RESET: the power-on values of every part (R1, R2, R24, R43, R50, R55, R88, R103, R117, R131, R145, R172,
R174). The levels are those the reset reads. -/
def Obligations.PowerOnReset : Prop :=
  ∀ (s : State) (rateHigh t0 t1 : Bool), ∃ t, exec (.powerOnReset rateHigh t0 t1) s = .next t ∧
    t.clock = 0 ∧ t.rateHigh = rateHigh ∧ t.levels = { t0 := t0, t1 := t1 } ∧ t.pending = s.pending ∧
    (∀ p, (t.session p).state = .closed ∧ (t.session p).outbox = [] ∧ (t.session p).admission = [] ∧
      (t.session p).timer = none ∧ ∀ b : Fin 4, (t.session p).busEvents[b] = none) ∧
    (∀ p, t.port p =
      { rx := { state := .hunt, buffer := [] }, cache := none, replies := [], tx := none,
        counters := { good := 0, bad := 0, duplicates := 0, overruns := 0, breaks := 0, strayAcks := 0 } }) ∧
    (∀ i : Fin 64, t.records[i] = { gen := 0, entry := none }) ∧
    (∀ i : Fin 16, t.leases[i] = { gen := 0, entry := none }) ∧ (∀ b, t.waitingOrder b = []) ∧
    (∀ i : Fin 8, t.groups[i] = { gen := 0, entry := none }) ∧
    (∀ i : Fin 12, t.watches[i] = { gen := 0, entry := none }) ∧
    ∀ b, (t.bus b).config =
        { enabled := false, rate := .c1, stretch := 25, spacing := 2, aging := 500, own := none, fill := 0xFF } ∧
      (t.bus b).line = .off ∧ (t.bus b).engine = .disabled ∧ (t.bus b).faultReason = none ∧
      (t.bus b).queue = [] ∧ (t.bus b).counters = BusCounters.zero ∧ (t.bus b).target.owner = none ∧
      (t.bus b).target.outbound = [] ∧ (t.bus b).target.deferred = none ∧ (t.bus b).target.reading = none ∧
      (t.bus b).target.tally = none ∧ (t.bus b).target.discard = false ∧
      ∀ k : Fin 4, (t.bus b).target.slots[k] =
        { state := .empty, data := [], overflow := false, followedByRead := false, completionTime := none }

/-- CLOCK_TICK: the clock goes on by one, wrapping, and nothing else changes but the marks of ages that reach their largest
value and of not-before times that are reached; an age below its largest value grows by one, and a stopped age stays (R1),
for a record and for a queued watch read alike; a not-before time that is reached stays so (R31). The marks are the model's
own fields (log 9). -/
def Obligations.ClockTick : Prop :=
  ∀ s : State, ∃ u : State, exec .clockTick s = .next u.settle ∧ u.clock = s.clock + 1 ∧
    u.rateHigh = s.rateHigh ∧ u.ports = s.ports ∧ u.sessions = s.sessions ∧ u.leases = s.leases ∧
    u.waiting = s.waiting ∧ u.groups = s.groups ∧ u.watches = s.watches ∧ u.levels = s.levels ∧
    u.freeIndex = s.freeIndex ∧ u.pending = s.pending ∧
    (∀ i : Fin 64, u.records[i].gen = s.records[i].gen) ∧
    (∀ i, s.record i = none → u.record i = none) ∧
    (∀ i r, s.record i = some r → ∃ stopped past, u.record i = some { r with ageStopped := stopped, spacingOver := past } ∧
      (∀ e, r.entryTime = some e → r.ageStopped = true ∨ (s.clock - e).toNat < 2 ^ 31 - 1 →
        ageOf u.clock e stopped = min (ageOf s.clock e r.ageStopped + 1) (2 ^ 31 - 1) ∧
        (ageOf u.clock e stopped = 2 ^ 31 - 1 → stopped = true)) ∧
      (past = true ↔ r.spacingOver = true ∨ ∃ t, r.notBefore = some t ∧ (u.clock - t).toNat < 2 ^ 31)) ∧
    ∀ b, u.bus b = { s.bus b with queue := (u.bus b).queue } ∧
      (∀ (n : Nat) (w : Fin 12) (c : Cls) (e : Clock) (z : Bool), (s.bus b).queue[n]? = some (.watchRead w c e z) →
        ∃ z', (u.bus b).queue[n]? = some (.watchRead w c e z') ∧
          (z = true ∨ (s.clock - e).toNat < 2 ^ 31 - 1 →
            ageOf u.clock e z' = min (ageOf s.clock e z + 1) (2 ^ 31 - 1) ∧
            (ageOf u.clock e z' = 2 ^ 31 - 1 → z' = true))) ∧
      (u.bus b).queue.map (fun it => match it with
        | .record i => QItem.record i
        | .watchRead w c e _ => .watchRead w c e false) =
      (s.bus b).queue.map fun it => match it with
        | .record i => QItem.record i
        | .watchRead w c e _ => .watchRead w c e false

/-! ## The host link -/

/-- The form of a frame on the line, R165 whole: the content is kind, sequence, body and the check, high byte first, 4 to 100
bytes; a delimiter, each content byte stuffed, the check bytes included, a delimiter; 100 bytes that all need escaping take 200
characters and the two delimiters, 202 characters of ten bit times, about 17.5 ms at 115,200 bit/s and 2.2 ms at 921,600 bit/s.
Two frames back to back show two delimiters between them, and the receiver takes them as exactly those two frames, as it does
with the delimiter between them shared. A receiver that stands outside a frame, or in one with nothing yet, takes the
characters of a frame as exactly that one frame: stuffing, delimiters and check lose and add nothing. -/
def Obligations.FrameRoundTrip : Prop :=
  (∀ m : Message, m.wire = 0xC5 :: (m.content.flatMap stuff ++ [0xC5]) ∧
    (∃ hi lo : Byte, hi ++ lo = crc ([m.kind, m.seq] ++ m.body) ∧ m.content = [m.kind, m.seq] ++ m.body ++ [hi, lo]) ∧
    (m.body.length ≤ 96 → 4 ≤ m.content.length ∧ m.content.length ≤ 100 ∧ m.wire.length ≤ 202) ∧
    (m.content.length = 100 → (∀ x ∈ m.content, x = 0xC5 ∨ x = 0xCA) → m.wire.length = 202 ∧
      m.wire.length * 10 * 1000000 / 115200 = 17534 ∧ m.wire.length * 10 * 1000000 / 921600 = 2191)) ∧
  stuff 0xC5 = [0xCA, 0xD5] ∧ stuff 0xCA = [0xCA, 0xDA] ∧ (∀ x : Byte, x ≠ 0xC5 → x ≠ 0xCA → stuff x = [x]) ∧
  (∀ (m n : Message) (r : Receiver), m.body.length ≤ 96 → n.body.length ≤ 96 → r.buffer = [] → r.state ≠ .escape →
    (∃ front back, m.wire ++ n.wire = front ++ [0xC5, 0xC5] ++ back) ∧
    r.feed (m.wire ++ n.wire) = ({ state := .inFrame, buffer := [] }, [.ended m.content, .ended n.content]) ∧
    r.feed (m.wire ++ n.wire.tail) = ({ state := .inFrame, buffer := [] }, [.ended m.content, .ended n.content])) ∧
  ∀ (m : Message) (r : Receiver), m.body.length ≤ 96 → r.buffer = [] → r.state ≠ .escape →
    r.feed m.wire = ({ state := .inFrame, buffer := [] }, [.ended m.content]) ∧ messageOf m.content = some m

/-- The check of R166, whole: the register starts at 0xFFFF and takes each byte most significant bit first; a bit shifts it
left and combines it with 0x1021 when the bit shifted out differs from the data bit; the nine characters "1" to "9" give
0x29B1; the sender puts the check after the body, high byte first; the receiver's verdict is the equality of the two; and the
same computation over the whole content ends at 0 exactly when the check is correct. -/
def Obligations.FrameCheck : Prop :=
  crc [] = 0xFFFF ∧
  (∀ (bytes : List Byte) (x : Byte), crc (bytes ++ [x]) =
    [7, 6, 5, 4, 3, 2, 1, 0].foldl (fun (r : BitVec 16) i =>
      if r.getLsbD 15 = x.getLsbD i then r <<< 1 else (r <<< 1) ^^^ 0x1021#16) (crc bytes)) ∧
  crc [0x31, 0x32, 0x33, 0x34, 0x35, 0x36, 0x37, 0x38, 0x39] = 0x29B1 ∧
  (∀ m : Message, ∃ hi lo : Byte, m.content = [m.kind, m.seq] ++ m.body ++ [hi, lo] ∧
    hi ++ lo = crc ([m.kind, m.seq] ++ m.body)) ∧
  (∀ (kind q : Byte) (body : List Byte) (hi lo : Byte), messageOf ([kind, q] ++ body ++ [hi, lo]) =
    if hi ++ lo = crc ([kind, q] ++ body) then some { kind := kind, seq := q, body := body } else none) ∧
  ∀ (covered : List Byte) (hi lo : Byte), crc (covered ++ [hi, lo]) = 0 ↔ hi ++ lo = crc covered

/-- CHARACTER_RECEIVED and BAD_FRAME: the table of R167, row by row. -/
def Obligations.ReceiverTable : Prop :=
  (∀ (s : State) (p : PortIx) (x : Byte), (s.port p).rx.state = .hunt →
    exec (.characterReceived p x) s = .next
      (if x = 0xC5 then s.modPort p fun y => { y with rx := { state := .inFrame, buffer := [] } } else s).settle) ∧
  (∀ (s : State) (p : PortIx), (s.port p).rx.state = .inFrame → (s.port p).rx.buffer = [] →
    exec (.characterReceived p 0xC5) s = .next s.settle) ∧
  (∀ (s : State) (p : PortIx), (s.port p).rx.state = .inFrame →
    1 ≤ (s.port p).rx.buffer.length → (s.port p).rx.buffer.length ≤ 3 →
    exec (.badFrame p (.char 0xC5)) s = .next (s.modPort p fun y => { y with
      rx := { state := .inFrame, buffer := [] }
      counters := { y.counters with bad := satInc y.counters.bad } }).settle) ∧
  (∀ (s : State) (p : PortIx), (s.port p).rx.state = .inFrame → 4 ≤ (s.port p).rx.buffer.length →
    messageOf (s.port p).rx.buffer = none →
    exec (.badFrame p (.char 0xC5)) s = .next (s.modPort p fun y => { y with
      rx := { state := .inFrame, buffer := [] }
      counters := { y.counters with bad := satInc y.counters.bad } }).settle) ∧
  (∀ (s : State) (p : PortIx) (m : Message), (s.port p).rx.state = .inFrame → 4 ≤ (s.port p).rx.buffer.length →
    messageOf (s.port p).rx.buffer = some m →
    exec (.characterReceived p 0xC5) s = .next ((s.modPort p fun y => { y with
      rx := { state := .inFrame, buffer := [] } }).goodFrame p m).settle) ∧
  (∀ (s : State) (p : PortIx), (s.port p).rx.state = .inFrame →
    exec (.characterReceived p 0xCA) s = .next (s.modPort p fun y => { y with
      rx := { y.rx with state := .escape } }).settle) ∧
  (∀ (s : State) (p : PortIx) (x : Byte), (s.port p).rx.state = .inFrame → x ≠ 0xC5 → x ≠ 0xCA →
    (s.port p).rx.buffer.length < 100 →
    exec (.characterReceived p x) s = .next (s.modPort p fun y => { y with
      rx := { state := .inFrame, buffer := y.rx.buffer ++ [x] } }).settle) ∧
  (∀ (s : State) (p : PortIx) (x : Byte), (s.port p).rx.state = .inFrame → x ≠ 0xC5 → x ≠ 0xCA →
    100 ≤ (s.port p).rx.buffer.length →
    exec (.badFrame p (.char x)) s = .next (s.modPort p fun y => { y with
      rx := { state := .hunt, buffer := [] }
      counters := { y.counters with bad := satInc y.counters.bad } }).settle) ∧
  (∀ (s : State) (p : PortIx), (s.port p).rx.state = .escape →
    exec (.badFrame p (.char 0xC5)) s = .next (s.modPort p fun y => { y with
      rx := { state := .inFrame, buffer := [] }
      counters := { y.counters with bad := satInc y.counters.bad } }).settle) ∧
  (∀ (s : State) (p : PortIx) (x : Byte), (s.port p).rx.state = .escape → x ≠ 0xC5 →
    (s.port p).rx.buffer.length < 100 →
    exec (.characterReceived p x) s = .next (s.modPort p fun y => { y with
      rx := { state := .inFrame, buffer := y.rx.buffer ++ [x ^^^ 0x10] } }).settle) ∧
  (∀ (s : State) (p : PortIx) (x : Byte), (s.port p).rx.state = .escape → x ≠ 0xC5 →
    100 ≤ (s.port p).rx.buffer.length →
    exec (.badFrame p (.char x)) s = .next (s.modPort p fun y => { y with
      rx := { state := .hunt, buffer := [] }
      counters := { y.counters with bad := satInc y.counters.bad } }).settle) ∧
  ∀ (s : State) (p : PortIx), exec (.badFrame p .framingError) s = .next
    (if (s.port p).rx.state = .hunt then s
     else s.modPort p fun y => { y with
      rx := { state := .hunt, buffer := [] }
      counters := { y.counters with bad := satInc y.counters.bad } }).settle

/-- REQUEST_OVERRUN, DUPLICATE_REQUEST and UNKNOWN_KIND: rows 2, 3 and 4 of R168. A discarded request is only counted; a
repeat gets the cached reply again and executes nothing; a frame of a non-request kind is answered UNKNOWN_KIND with
kind 0x7F, and that reply is cached. -/
def Obligations.RequestHandlingRows : Prop :=
  (∀ (s : State) (p : PortIx) (kind q : Byte) (body : List Byte), body.length ≤ 96 → kind ≠ 0x04 →
    4 ≤ (s.port p).replies.length →
    exec (.requestOverrun p kind q body) s =
      .next ((s.arrived p).countPort p fun c => { c with overruns := satInc c.overruns }).settle) ∧
  (∀ (s : State) (p : PortIx) (kind q : Byte) (body : List Byte) (c : Cached), body.length ≤ 96 → kind ≠ 0x04 →
    (s.port p).replies.length < 4 → (s.port p).cache = some c → c.kind = kind → c.seq = q →
    exec (.duplicateRequest p kind q body) s =
      .next (((s.arrived p).countPort p fun c => { c with duplicates := satInc c.duplicates }).appendReply p
        c.reply).settle) ∧
  ∀ (s : State) (p : PortIx) (kind q : Byte) (body : List Byte), kind = 0 ∨ 0x18 < kind.toNat →
    s.takes p kind q body = true →
    exec (.unknownKind p kind q body) s =
      .next ((s.arrived p).respond p kind q { kind := 0x7F, seq := q, body := [0x11] }).settle

/-- The session states (R145): a request of a known kind other than OPEN and NOTICE_ACK, on a port whose session is not
OPEN, is refused NOT_OPEN whatever its body holds. -/
def Obligations.NotOpenIsRefused : Prop :=
  ∀ (c : Instr) (s : State) (p : PortIx) (kind q : Byte) (body : List Byte),
    frameOf c = some (p, kind, q, body) → 2 ≤ kind.toNat → kind.toNat ≤ 0x18 →
    s.takes p kind q body = true → (s.session p).state ≠ .opened →
    exec c s = .next ((s.arrived p).replied p kind q [0x41])

/-- A refused request changes nothing (00_scope.md, Conventions): its reply is the status byte alone and the session, the
tables, the buses and the counters are as they were, but for the frame's own arrival and reply. -/
def Obligations.RefusalsChangeNothing : Prop :=
  ∀ (c : Instr) (s : State) (p : PortIx) (kind q : Byte) (body : List Byte) (status : Byte) (rest : List Byte),
    frameOf c = some (p, kind, q, body) → 1 ≤ kind.toNat → kind.toNat ≤ 0x18 → s.takes p kind q body = true →
    ((s.arrived p).serve p kind body).2 = status :: rest → 0x10 ≤ status.toNat →
    exec c s = .next ((s.arrived p).replied p kind q [status])

/-- A body whose length is not its request's length is refused MALFORMED (R182, section 12.3); OPEN has its MALFORMED check
before its session-state check (R146; log 22). -/
def Obligations.WrongLengthIsMalformed : Prop :=
  ∀ (c : Instr) (s : State) (p : PortIx) (kind q : Byte) (body : List Byte) (n : Nat),
    frameOf c = some (p, kind, q, body) → requestLength kind = some n → body.length ≠ n →
    s.takes p kind q body = true → (kind = 0x01 ∨ (s.session p).state = .opened) →
    exec c s = .next ((s.arrived p).replied p kind q [0x10])

/-- BUS_CONFIGURE, REVOKE, RESET_BROKER and QUERY COUNTERS with the clear option, well-formed, from an OPEN session that is
not on port 0 are refused DENIED before any other examination (R147). -/
def Obligations.OthersAreDenied : Prop :=
  ∀ (c : Instr) (s : State) (p : PortIx) (kind q : Byte) (body : List Byte),
    frameOf c = some (p, kind, q, body) → p ≠ 0 → (s.session p).state = .opened →
    s.takes p kind q body = true →
    (kind = 0x16 ∧ body.length = 9) ∨ (kind = 0x0B ∧ body.length = 1) ∨ (kind = 0x18 ∧ body = []) ∨
      (∃ scope number, kind = 0x03 ∧ body = [9, scope, number, 1]) →
    exec c s = .next ((s.arrived p).replied p kind q [0x40])

/-- TRANSMIT_FRAME_END (R157, R160, R171): the oldest reply goes next; with no reply, the oldest UNSENT notice, which becomes
SENT and starts a stopped retransmit timer; with neither, the transmitter is idle. And the kinds and bodies of the nine
notices, field by field, most significant byte first (R184, sections 12.1, 12.2 and 12.5). -/
def Obligations.TransmitFrameEnd : Prop :=
  (∀ (s : State) (p : PortIx) (m : Message) (rest : List Message), s.settled → (s.port p).replies = m :: rest →
    exec (.transmitFrameEnd p) s = .next (s.modPort p fun x => { x with replies := rest, tx := some m })) ∧
  (∀ (s : State) (p : PortIx) (older newer : List OutboxEntry) (e : OutboxEntry), s.settled →
    (s.port p).replies = [] → (s.session p).outbox = older ++ e :: newer → (∀ x ∈ older, x.sent = true) →
    e.sent = false →
    exec (.transmitFrameEnd p) s = .next ((s.modSession p fun x => { x with
        outbox := older ++ { e with sent := true, everSent := true } :: newer
        timer := if x.timer = none ∧ x.interval ≠ 0 then some (s.clock + x.interval.setWidth 32) else x.timer }).modPort p
      fun x => { x with tx := some { kind := noticeKind e.report, seq := e.seq, body := noticeBody e.report } })) ∧
  (∀ (s : State) (p : PortIx), s.settled → (s.port p).replies = [] → (∀ x ∈ (s.session p).outbox, x.sent = true) →
    exec (.transmitFrameEnd p) s = .next (s.modPort p fun x => { x with tx := none })) ∧
  (∀ (tag : Byte) (r : Result) (attempts : Nat) (lastRetry : Option Status),
    noticeKind (.result tag r attempts lastRetry) = 0x81 ∧
    noticeBody (.result tag r attempts lastRetry) = [tag, resultCode r.status, BitVec.ofNat 8 (r.failing.getD 0),
      BitVec.ofNat 8 r.bytesCompleted, BitVec.ofNat 8 attempts,
      match lastRetry with | none => 0xFF | some x => resultCode x] ++
      be32 r.completionTime ++ BitVec.ofNat 8 r.readData.length :: r.readData) ∧
  [Status.ok, .nackAddress, .nackData, .lost, .lostPartial, .stretchTimeout, .busError, .expired, .cancelled, .aborted,
    .busOff].map resultCode = [0x00, 0x01, 0x02, 0x03, 0x04, 0x05, 0x06, 0x07, 0x08, 0x09, 0x0A] ∧
  (∀ (id : Byte) (b : BusIx) (low high : Addr) (grant expiry : Clock),
    noticeKind (.leaseGranted id b low high grant expiry) = 0x82 ∧
    noticeBody (.leaseGranted id b low high grant expiry) =
      [id, BitVec.ofNat 8 b.val, low.setWidth 8, high.setWidth 8] ++ be32 grant ++ be32 expiry) ∧
  (∀ (id : Byte) (b : BusIx) (low high : Addr) (reason : Option EndReason) (time : Clock) (grant : Option Clock),
    noticeKind (.leaseEnded id b low high reason time grant) = 0x83 ∧
    noticeBody (.leaseEnded id b low high reason time grant) =
      [id, BitVec.ofNat 8 b.val, low.setWidth 8, high.setWidth 8,
        match reason with | none => 0 | some .expired => 1 | some .revoked => 2] ++ be32 time ++
        match grant with | none => [0, 0, 0, 0, 0] | some g => 1 :: be32 g) ∧
  (∀ (id : Byte) (f : FireReport), noticeKind (.groupFired id f) = 0x84 ∧
    noticeBody (.groupFired id f) = id :: (be16 f.queued ++ be16 f.endedOff ++ be16 f.fires ++
      [match f.source with | .request => (0 : Byte) | .line .t0 => 1 | .line .t1 => 2] ++ be32 f.fireTime ++ be16 f.fireCount)) ∧
  (∀ (id : Byte) (b : BusIx) (addr : Addr) (v : ValueReport) (skipped : Half),
    noticeKind (.watchValue id b addr v skipped) = 0x85 ∧
    noticeBody (.watchValue id b addr v skipped) =
      [id, BitVec.ofNat 8 b.val, addr.setWidth 8, BitVec.ofNat 8 v.value.length] ++ v.value ++ be32 v.time ++
        be16 v.coalesced ++ be16 skipped) ∧
  (∀ (id : Byte) (b : BusIx) (addr : Addr) (v : SuspensionReport) (skipped : Half),
    noticeKind (.watchSuspended id b addr v skipped) = 0x86 ∧
    noticeBody (.watchSuspended id b addr v skipped) =
      [id, BitVec.ofNat 8 b.val, addr.setWidth 8, resultCode v.status] ++ be16 v.suspensions ++ be16 skipped) ∧
  (∀ (b : BusIx) (k : Fin 4) (c : InSlot) (time : Clock), c.completionTime = some time →
    noticeKind (.targetWrite b k c) = 0x87 ∧
    noticeBody (.targetWrite b k c) =
      [BitVec.ofNat 8 b.val, BitVec.ofNat 8 k.val, BitVec.ofNat 8 c.data.length, if c.overflow = true then 1 else 0,
        if c.followedByRead = true then 1 else 0] ++ be32 time ++ c.data) ∧
  (∀ (b : BusIx) (y : Tally), noticeKind (.targetRead b y) = 0x88 ∧
    noticeBody (.targetRead b y) = BitVec.ofNat 8 b.val :: (be16 y.reads ++ be16 y.fromBuffer ++ be16 y.fillBytes ++
      be32 y.lastEnd ++ [BitVec.ofNat 8 y.remaining])) ∧
  (∀ (b : BusIx) (e : BusEvent), noticeKind (.busEvent b e) = 0x89 ∧
    noticeBody (.busEvent b e) = BitVec.ofNat 8 b.val :: ((match e.kind with
      | .fault .clockHeld => [1, 1]
      | .fault .dataHeld => [1, 2]
      | .recovered .pulsed => [2, 3]
      | .recovered .released => [2, 4]
      | .disabled => [3, 0]) ++ be32 e.time ++ be16 e.missed)) ∧
  (∀ x : Half, ∃ hi lo : Byte, be16 x = [hi, lo] ∧ hi ++ lo = x) ∧
  ∀ x : Clock, ∃ b3 b2 b1 b0 : Byte, be32 x = [b3, b2, b1, b0] ∧ ((b3 ++ b2) ++ b1) ++ b0 = x

/-- BREAK (R148, R150, R164, R172): the break is counted, the receiver enters HUNT and the reply cache and reply queue are
emptied; the other ports keep their receivers, caches, reply queues and counters. An OPEN session is torn down: its outbox,
admission list, bus-event slots and timer are empty; only ACTIVE records stay, with abort pending in them and in their
attempts, and hold it in CLOSING; its leases, groups, watches and target units are gone. -/
def Obligations.BreakTearsDownAndEmptiesThePort : Prop :=
  ∀ (s : State) (p : PortIx), s.settled → ∃ t, exec (.lineBreak p) s = .next t ∧
    (t.port p).rx = { state := .hunt, buffer := [] } ∧ (t.port p).cache = none ∧ (t.port p).replies = [] ∧
    (t.port p).counters = { (s.port p).counters with breaks := satInc (s.port p).counters.breaks } ∧
    ((s.port p).tx ≠ none → (t.port p).tx = (s.port p).tx) ∧
    ((s.session p).state = .opened → (t.session p).state ≠ .opened ∧ (t.session p).outbox = []) ∧
    ((s.session p).state = .opened →
      (t.session p).state = (if 0 < t.activeCount p then .closing else .closed) ∧
      (t.session p).admission = [] ∧ (t.session p).timer = none ∧ (∀ b : Fin 4, (t.session p).busEvents[b] = none) ∧
      (∀ i r, t.record i = some r → r.owner = p → r.state = .active ∧ r.abortPending = true ∧
        ∀ a, (t.bus r.bus).engine = .active (some a) → a.item = .record i → a.abortPending = true) ∧
      (∀ i e, t.lease i = some e → e.owner ≠ p) ∧ (∀ i g, t.group i = some g → g.owner ≠ p) ∧
      (∀ i w, t.watch i = some w → w.owner ≠ some p) ∧ (∀ b, (t.bus b).target.owner ≠ some p)) ∧
    t.clock = s.clock ∧ t.levels = s.levels ∧
    (∀ b, (t.bus b).config = (s.bus b).config ∧ (t.bus b).line = (s.bus b).line) ∧
    ((s.session p).state ≠ .opened → (t.session p).state = (s.session p).state ∧ t.records = s.records ∧
      t.leases = s.leases ∧ t.groups = s.groups ∧ t.watches = s.watches ∧ t.buses = s.buses) ∧
    ∀ n, n ≠ p → (t.port n).rx = (s.port n).rx ∧ (t.port n).cache = (s.port n).cache ∧
      (t.port n).replies = (s.port n).replies ∧ (t.port n).counters = (s.port n).counters

/-! ## Sessions -/

/-- OPEN (R146): on a CLOSED session, values in their ranges open it with sequences from 0 and everything empty, and others
are refused BAD_FIELD; on an OPEN session it is refused ALREADY_OPEN, on a CLOSING one BUSY. -/
def Obligations.OpenBySessionStateAndValues : Prop :=
  ∀ (s : State) (p : PortIx) (q window mask hi lo : Byte), s.takes p 0x01 q [window, mask, hi, lo] = true →
    ((s.session p).state = .closed → 1 ≤ window.toNat → window.toNat ≤ 32 → mask.toNat ≤ 3 →
      (hi ++ lo = 0#16 ∨ (50 ≤ (hi ++ lo).toNat ∧ (hi ++ lo).toNat ≤ 5000)) →
      exec (.openSession p q [window, mask, hi, lo]) s = .next (((s.arrived p).modSession p fun _ =>
        { state := .opened, window := window.toNat, maskBusEvent := decide (mask = 1 ∨ mask = 3),
          maskTargetRead := decide (mask = 2 ∨ mask = 3), interval := hi ++ lo, nextSeq := 0, outbox := [],
          admission := [], busEvents := Vector.replicate 4 none, timer := none }).replied p 0x01 q
        [0x00, BitVec.ofNat 8 p.val, if p = 0 then 1 else 0])) ∧
    ((s.session p).state = .closed →
      ¬(1 ≤ window.toNat ∧ window.toNat ≤ 32 ∧ mask.toNat ≤ 3 ∧
        (hi ++ lo = 0#16 ∨ (50 ≤ (hi ++ lo).toNat ∧ (hi ++ lo).toNat ≤ 5000))) →
      exec (.openSession p q [window, mask, hi, lo]) s = .next ((s.arrived p).replied p 0x01 q [0x15])) ∧
    ((s.session p).state = .opened →
      exec (.openSession p q [window, mask, hi, lo]) s = .next ((s.arrived p).replied p 0x01 q [0x42])) ∧
    ((s.session p).state = .closing →
      exec (.openSession p q [window, mask, hi, lo]) s = .next ((s.arrived p).replied p 0x01 q [0x43]))

/-- CLOSE (R148): the session gives up everything it owns in one event; only ACTIVE records stay, with abort pending, and
hold it in CLOSING; the reply carries their number. -/
def Obligations.CloseGivesUpEverythingOwned : Prop :=
  ∀ (s : State) (p : PortIx) (q : Byte), s.takes p 0x02 q [] = true → (s.session p).state = .opened →
    ∃ u : State, exec (.closeSession p q []) s =
        .next (u.replied p 0x02 q [0x00, BitVec.ofNat 8 (u.activeCount p)]) ∧
      (u.session p).state = (if 0 < u.activeCount p then .closing else .closed) ∧
      (u.session p).outbox = [] ∧ (u.session p).admission = [] ∧ (u.session p).timer = none ∧
      (∀ b : Fin 4, (u.session p).busEvents[b] = none) ∧
      (∀ i r, u.record i = some r → r.owner = p → r.state = .active ∧ r.abortPending = true) ∧
      (∀ i e, u.lease i = some e → e.owner ≠ p) ∧ (∀ i g, u.group i = some g → g.owner ≠ p) ∧
      (∀ i w, u.watch i = some w → w.owner ≠ some p) ∧ (∀ b, (u.bus b).target.owner ≠ some p) ∧
      u.clock = s.clock ∧ u.levels = s.levels ∧ ∀ b, (u.bus b).config = (s.bus b).config ∧ (u.bus b).line = (s.bus b).line

/-- NOTICE_ACK (R145, R158, R160, R182): the named entry, if it was ever sent, and every older one leave the outbox, sources
are admitted and the timer restarts or stops; in every other case the request is only counted as a stray ack. Sources are
admitted from the head of the admission list, one report at a time, until the outbox holds 16 entries or the list is empty: a
source whose reports have all been admitted leaves the list, and a watch entry with a second report stays at its head (R128,
R156). -/
def Obligations.NoticeAck : Prop :=
  (∀ (s : State) (p : PortIx) (q n : Byte) (older newer : List OutboxEntry) (e : OutboxEntry),
    (s.session p).state = .opened → (s.session p).outbox = older ++ e :: newer → (∀ x ∈ older, x.seq ≠ n) →
    e.seq = n → e.everSent = true →
    exec (.noticeAck p q [n]) s = .next (((s.arrived p).modSession p fun x => { x with
      outbox := newer
      timer := if x.interval ≠ 0 ∧ newer.any (fun y => y.sent) = true then some (s.clock + x.interval.setWidth 32)
        else none }).admitFromList p).settle) ∧
  (∀ (s : State) (p : PortIx) (q n : Byte),
    ((s.session p).state ≠ .opened ∨ ∀ x ∈ (s.session p).outbox, x.seq = n → x.everSent = false) →
    exec (.noticeAck p q [n]) s =
      .next ((s.arrived p).countPort p fun c => { c with strayAcks := satInc c.strayAcks }).settle) ∧
  (∀ (s : State) (p : PortIx) (q : Byte) (body : List Byte), body.length ≤ 96 → body.length ≠ 1 →
    exec (.noticeAck p q body) s =
      .next ((s.arrived p).countPort p fun c => { c with strayAcks := satInc c.strayAcks }).settle) ∧
  ∀ (s : State) (p : PortIx),
    ((16 ≤ (s.session p).outbox.length ∨ (s.session p).admission = []) → s.admitFromList p = s) ∧
    ∀ (src : Source) (rest : List Source), (s.session p).outbox.length < 16 → (s.session p).admission = src :: rest →
      ((s.admitOne p src).reportOf p src ≠ none → s.admitFromList p = (s.admitOne p src).admitFromList p) ∧
      ((s.admitOne p src).reportOf p src = none → s.admitFromList p =
        ((s.admitOne p src).modSession p fun x => { x with admission := rest }).admitFromList p) ∧
      (∀ i w, src = .watch i → s.watch i = some w →
        ((s.admitOne p src).reportOf p src ≠ none ↔ w.valueReport ≠ none ∧ w.suspensionReport ≠ none)) ∧
      ((∀ i, src ≠ .watch i) → (s.admitOne p src).reportOf p src = none)

/-- NOTICE_REWIND and RETRANSMIT_TIMER_EXPIRY (R159, R160): every outbox entry becomes UNSENT, its ever-sent mark stays, and
the timer stops; the reply to the request carries the number of entries. The transmitter's choice that ends the event
(`replied`, `settle`) is R171's, at the moment that is the model's reading (log 21). -/
def Obligations.RewindAndRetransmit : Prop :=
  (∀ (s : State) (p : PortIx) (q : Byte), s.takes p 0x05 q [] = true → (s.session p).state = .opened →
    exec (.noticeRewind p q []) s = .next (((s.arrived p).modSession p fun x => { x with
        outbox := x.outbox.map fun e => { e with sent := false }
        timer := none }).replied p 0x05 q [0x00, BitVec.ofNat 8 (s.session p).outbox.length])) ∧
  ∀ (s : State) (p : PortIx) (t : Clock), (s.session p).timer = some t → (s.clock - t).toNat < 2 ^ 31 →
    exec (.retransmitTimerExpiry p) s = .next (s.modSession p fun x => { x with
      outbox := x.outbox.map fun e => { e with sent := false }
      timer := none }).settle

/-- RESET_BROKER from the primary session (R141, R142, R151): no session is OPEN, no entry of an OPEN session is left, only
ACTIVE records are, every counter is 0, and the clock, the configurations, the monitors and the link's buffers are as they
were. The torn sessions' outboxes, admission lists, bus-event slots and timers are empty, the target units they owned have no
owner and nothing held for one, and a foreign transfer in progress takes the discard mark. -/
def Obligations.ResetBroker : Prop :=
  ∀ (s : State) (q : Byte), s.takes 0 0x18 q [] = true → (s.session 0).state = .opened →
    ∃ u : State, exec (.resetBroker 0 q []) s = .next (u.replied 0 0x18 q
        [0x00, BitVec.ofNat 8 (u.activeCount 0 + u.activeCount 1 + u.activeCount 2)]) ∧
      (∀ p, (u.session p).state ≠ .opened) ∧
      (∀ p, (s.session p).state ≠ .opened → u.session p = s.session p) ∧
      (∀ i r, u.record i = some r → (s.session r.owner).state = .opened → r.state = .active ∧ r.abortPending = true) ∧
      (∀ i e, u.lease i = some e → (s.session e.owner).state ≠ .opened) ∧
      (∀ i g, u.group i = some g → (s.session g.owner).state ≠ .opened) ∧
      (∀ i w p, u.watch i = some w → w.owner = some p → (s.session p).state ≠ .opened) ∧
      (∀ b, (u.bus b).counters = BusCounters.zero) ∧ (∀ p, (u.port p).counters = PortCounters.zero) ∧
      (∀ b a, (u.bus b).engine = .active (some a) → a.abortPending = true) ∧
      (∀ p, (s.session p).state = .opened →
        (u.session p).state = (if 0 < u.activeCount p then .closing else .closed) ∧ (u.session p).outbox = [] ∧
        (u.session p).admission = [] ∧ (u.session p).timer = none ∧ ∀ b : Fin 4, (u.session p).busEvents[b] = none) ∧
      (∀ b p, (s.bus b).target.owner = some p → (s.session p).state = .opened →
        (u.bus b).target.owner = none ∧ (u.bus b).target.outbound = [] ∧ (u.bus b).target.deferred = none ∧
        (u.bus b).target.tally = none ∧ ∀ k : Fin 4, (u.bus b).target.slots[k].state ≠ .complete) ∧
      (∀ b, ((s.bus b).target.reading ≠ none ∨ ∃ k : Fin 4, (s.bus b).target.slots[k].state = .filling) →
        (u.bus b).target.discard = true) ∧
      (∀ b, (u.bus b).target.reading = (s.bus b).target.reading) ∧
      (∀ b, (u.bus b).config = (s.bus b).config ∧ (u.bus b).line = (s.bus b).line) ∧
      (∀ p, (u.port p).replies = (s.port p).replies ∧ (u.port p).cache = (s.port p).cache) ∧ u.clock = s.clock

/-! ## Queries -/

/-- The nine QUERY subjects but COUNTERS (R25, R44, R102, R116, R130, R144, R162, R178): the reply repeats the subject and
carries its content; nothing changes but the model's own index of free values (log 12). A bus above 3 is BAD_BUS, a tag that
resolves to nothing UNKNOWN_ID. A body whose length is not its subject's, COUNTERS included, is MALFORMED (R182, section 12.3;
the empty body: log 23), and an unknown subject is BAD_FIELD whatever follows it (R178; log 23). -/
def Obligations.QueriesAnswerTheirSubjects : Prop :=
  (∀ (c : Instr) (s : State) (p : PortIx) (q : Byte) (body : List Byte), frameOf c = some (p, 0x03, q, body) →
    s.takes p 0x03 q body = true → (s.session p).state = .opened →
    ((body = [] ∨ ∃ subject params n, body = subject :: params ∧ params.length ≠ n ∧
        (subject, n) ∈ ([(1, 0), (2, 1), (3, 2), (4, 1), (5, 1), (6, 1), (7, 1), (8, 1), (9, 3)] : List (Byte × Nat))) →
      exec c s = .next ((s.arrived p).replied p 0x03 q [0x10])) ∧
    ∀ subject params, body = subject :: params → (subject = 0 ∨ 9 < subject.toNat) →
      exec c s = .next ((s.arrived p).replied p 0x03 q [0x15])) ∧
  ∀ (s : State) (p : PortIx) (q : Byte), (s.session p).state = .opened →
    (s.takes p 0x03 q [1] = true → exec (.querySession p q []) s = .next ((s.arrived p).replied p 0x03 q
      (0x00 :: 1 :: (s.arrived p).sessionContent p))) ∧
    (∀ b : BusIx, s.takes p 0x03 q [2, BitVec.ofNat 8 b.val] = true →
      exec (.queryBus p q [BitVec.ofNat 8 b.val]) s = .next ((s.arrived p).spendFree.replied p 0x03 q
        (0x00 :: 2 :: (s.arrived p).busContent b (Config.freeByte s.freeIndex)))) ∧
    (∀ (b : BusIx) (start : Byte), s.takes p 0x03 q [3, BitVec.ofNat 8 b.val, start] = true →
      exec (.queryQueue p q [BitVec.ofNat 8 b.val, start]) s = .next ((s.arrived p).replied p 0x03 q
        (0x00 :: 3 :: (s.arrived p).queueContent b start))) ∧
    (∀ (tag : Byte) (i : Fin 64) (r : Record), s.takes p 0x03 q [4, tag] = true → s.findRecord tag = some (i, r) →
      exec (.queryTransaction p q [tag]) s = .next ((s.arrived p).spendFree.replied p 0x03 q
        (0x00 :: 4 :: recordContent tag r (Config.freeByte s.freeIndex)))) ∧
    (∀ tag : Byte, s.takes p 0x03 q [4, tag] = true → s.findRecord tag = none →
      exec (.queryTransaction p q [tag]) s = .next ((s.arrived p).replied p 0x03 q [0x20])) ∧
    (∀ start : Byte, s.takes p 0x03 q [5, start] = true →
      exec (.queryLeases p q [start]) s = .next ((s.arrived p).replied p 0x03 q
        (0x00 :: 5 :: (s.arrived p).leasesContent start))) ∧
    (∀ start : Byte, s.takes p 0x03 q [6, start] = true →
      exec (.queryGroups p q [start]) s = .next ((s.arrived p).spendFree.replied p 0x03 q
        (0x00 :: 6 :: (s.arrived p).groupsContent start (Config.freeByte s.freeIndex)))) ∧
    (∀ start : Byte, s.takes p 0x03 q [7, start] = true →
      exec (.queryWatches p q [start]) s = .next ((s.arrived p).spendFree.replied p 0x03 q
        (0x00 :: 7 :: (s.arrived p).watchesContent start (Config.freeByte s.freeIndex)))) ∧
    (∀ b : BusIx, s.takes p 0x03 q [8, BitVec.ofNat 8 b.val] = true →
      exec (.queryTarget p q [BitVec.ofNat 8 b.val]) s = .next ((s.arrived p).spendFree.replied p 0x03 q
        (0x00 :: 8 :: (s.arrived p).targetContent b (Config.freeByte s.freeIndex)))) ∧
    (∀ x : Byte, 3 < x.toNat → s.takes p 0x03 q [2, x] = true →
      exec (.queryBus p q [x]) s = .next ((s.arrived p).replied p 0x03 q [0x12])) ∧
    (∀ x : Byte, 3 < x.toNat → s.takes p 0x03 q [8, x] = true →
      exec (.queryTarget p q [x]) s = .next ((s.arrived p).replied p 0x03 q [0x12])) ∧
    ∀ x start : Byte, 3 < x.toNat → s.takes p 0x03 q [3, x, start] = true →
      exec (.queryQueue p q [x, start]) s = .next ((s.arrived p).replied p 0x03 q [0x12])

/-- QUERY_COUNTERS and QUERY_COUNTERS_CLEAR (R172, R178, R180, R181): the reply carries the counters as they stand; with the
clear option, from the primary session, those of the bus or port named are then 0. A scope or clear option above 1 and a port
above 2 are BAD_FIELD, a bus above 3 BAD_BUS. The thirteen counters of a bus and the six of a port stand in the orders of the
tables of R180 and R172, two bytes each. -/
def Obligations.QueryCounters : Prop :=
  (∀ c : BusCounters, c.bytes.length = 26 ∧ c.bytes = be16 c.completedOk ++ be16 c.failedFinal ++
    be16 c.arbitrationLosses ++ be16 c.addressNacks ++ be16 c.dataNacks ++ be16 c.stretchTimeouts ++ be16 c.busErrors ++
    be16 c.recoveries ++ be16 c.faults ++ be16 c.targetWrites ++ be16 c.targetReads ++ be16 c.targetRefusals ++
    be16 c.underruns) ∧
  (∀ c : PortCounters, c.bytes.length = 12 ∧ c.bytes = be16 c.good ++ be16 c.bad ++ be16 c.duplicates ++
    be16 c.overruns ++ be16 c.breaks ++ be16 c.strayAcks) ∧
  ∀ (s : State) (p : PortIx) (q : Byte), (s.session p).state = .opened →
    (∀ b : BusIx, s.takes p 0x03 q [9, 0, BitVec.ofNat 8 b.val, 0] = true →
      exec (.queryCounters p q [0, BitVec.ofNat 8 b.val, 0]) s = .next ((s.arrived p).replied p 0x03 q
        ([0x00, 9, 0, BitVec.ofNat 8 b.val] ++ (s.bus b).counters.bytes))) ∧
    (∀ n : PortIx, s.takes p 0x03 q [9, 1, BitVec.ofNat 8 n.val, 0] = true →
      exec (.queryCounters p q [1, BitVec.ofNat 8 n.val, 0]) s = .next ((s.arrived p).replied p 0x03 q
        ([0x00, 9, 1, BitVec.ofNat 8 n.val] ++ ((s.arrived p).port n).counters.bytes))) ∧
    (∀ b : BusIx, p = 0 → s.takes p 0x03 q [9, 0, BitVec.ofNat 8 b.val, 1] = true →
      exec (.queryCountersClear p q 0 (BitVec.ofNat 8 b.val)) s = .next
        (((s.arrived p).modBus b fun x => { x with counters := BusCounters.zero }).replied p 0x03 q
          ([0x00, 9, 0, BitVec.ofNat 8 b.val] ++ (s.bus b).counters.bytes))) ∧
    (∀ n : PortIx, p = 0 → s.takes p 0x03 q [9, 1, BitVec.ofNat 8 n.val, 1] = true →
      exec (.queryCountersClear p q 1 (BitVec.ofNat 8 n.val)) s = .next
        (((s.arrived p).modPort n fun x => { x with counters := PortCounters.zero }).replied p 0x03 q
          ([0x00, 9, 1, BitVec.ofNat 8 n.val] ++ ((s.arrived p).port n).counters.bytes))) ∧
    ∀ (c : Instr) (scope number clear : Byte), frameOf c = some (p, 0x03, q, [9, scope, number, clear]) →
      s.takes p 0x03 q [9, scope, number, clear] = true → (clear = 1 → p = 0) →
      ((1 < scope.toNat ∨ 1 < clear.toNat ∨ (scope = 1 ∧ 2 < number.toNat)) →
        exec c s = .next ((s.arrived p).replied p 0x03 q [0x15])) ∧
      (scope = 0 → clear.toNat ≤ 1 → 3 < number.toNat → exec c s = .next ((s.arrived p).replied p 0x03 q [0x12]))

/-- Every QUERY reply body fits the 96 bytes of a frame's body (R183). And the content of each subject, field by field, with
the codes of section 12.2 (section 12.4): `f` gives the bytes that the manual gives no value to, and the zeros that fill
unused pointer and mask bytes of a watch are the model's (log 12). A page carries, from its starting slot or position, the
longest run of whole entries that fits, and its next index is end when they are all that is left, else the one after the last;
the line block of GROUPS stands on the page that carries all that is left and has room for it (R183). The fault reason byte is
the one the bus holds, in every engine state (log 13). An EMPTY inbound slot shows byte count 0 and flags 0 (log 38), and a
sampled line level is 1 for high and 0 for low (log 39). -/
def Obligations.QueryRepliesFit : Prop :=
  (∀ (s : State) (p : PortIx) (body : List Byte), s.recordsLawful → s.buffersBounded →
    (s.queryRequest p body).2.length ≤ 96) ∧
  (∀ (s : State) (p : PortIx), (s.sessionContent p).length = 30 ∧ s.sessionContent p =
    [BitVec.ofNat 8 p.val, if p = 0 ∧ (s.session p).state = .opened then 1 else 0, BitVec.ofNat 8 (s.session p).window,
      BitVec.ofNat 8 (s.windowUse p),
      (if (s.session p).maskBusEvent = true then 1 else 0) + (if (s.session p).maskTargetRead = true then 2 else 0)] ++
    be16 (s.session p).interval ++
    [BitVec.ofNat 8 (s.session p).outbox.length,
      BitVec.ofNat 8 ((s.session p).outbox.filter fun e => !e.sent).length,
      match (s.session p).outbox.head? with | none => 0 | some e => e.seq,
      match (s.session p).outbox.getLast? with | none => 0 | some e => e.seq,
      (s.session p).nextSeq, BitVec.ofNat 8 (s.session p).admission.length,
      if (s.session p).timer = none then 0 else 1] ++ be32 ((s.session p).timer.getD 0) ++
    (List.finRange 4).flatMap fun b => match (s.session p).busEvents[b] with
      | none => [0, 0, 0]
      | some e => 1 :: be16 e.missed) ∧
  (∀ (s : State) (b : BusIx) (f : Nat → Byte), (s.busContent b f).length = 12 ∧ s.busContent b f =
    [BitVec.ofNat 8 b.val, if (s.bus b).config.enabled = true then 1 else 0, engineCode (s.bus b).engine,
      if (s.bus b).engine = .reserved true then 1 else 0, lineCode (s.bus b).line,
      BitVec.ofNat 8 (s.bus b).queue.length] ++
    (match (s.bus b).engine with
      | .active (some a) => match a.item with | .record i => [1, s.tagOf i] | .watch w => [2, s.watchId w]
      | _ => [0, f 0]) ++
    (match (s.bus b).engine with
      | .recovery r =>
        [match r.step with | .waitClock => (1 : Byte) | .pulsing => 2 | .stopping => 3, BitVec.ofNat 8 r.pulses,
          if r.fromFault = true then 1 else 0]
      | _ => [0, f 1, f 2]) ++
    [match (s.bus b).faultReason with | none => (0 : Byte) | some .clockHeld => 1 | some .dataHeld => 2]) ∧
  (engineCode .disabled = 0 ∧ engineCode .idle = 1 ∧ (∀ w, engineCode (.reserved w) = 2) ∧
    (∀ a, engineCode (.active a) = 3) ∧ engineCode .target = 4 ∧ (∀ r, engineCode (.recovery r) = 5) ∧
    engineCode .fault = 6) ∧
  [LineState.off, .unknown, .free, .busy, .stuck].map lineCode = [0, 1, 2, 3, 4] ∧
  [Cls.urgent, .normal, .bulk].map classCode = [0, 1, 2] ∧
  (∀ (s : State) (b : BusIx) (it : QItem), s.itemBytes b it = (match it with
      | .record i => [1, s.tagOf i]
      | .watchRead w _ _ _ => [2, s.watchId w]) ++
    [classCode (s.itemClass it), 2,
      match s.eligibility b it with | .eligible => 0 | .spaced => 1 | .leased => 2]) ∧
  (∀ (tag : Byte) (r : Record) (f : Nat → Byte), recordContent tag r f =
    [tag, BitVec.ofNat 8 r.owner.val, BitVec.ofNat 8 r.bus.val, classCode r.cls, classCode r.origCls,
      if r.noReplay = true then 1 else 0, if r.retryNack = true then 1 else 0, BitVec.ofNat 8 r.budget,
      if r.group = none then 0 else 1, r.group.getD 0] ++ be16 (r.deadline.getD 0) ++
    [match r.state with | .staged => (1 : Byte) | .queued => 2 | .active => 3 | .done => 4] ++
    ([r.entryTime, r.deadlineTime, r.notBefore].flatMap fun x => match x with
      | none => [(0 : Byte), 0, 0, 0, 0]
      | some y => 1 :: be32 y) ++
    [BitVec.ofNat 8 r.attempts, if r.abortPending = true then 1 else 0,
      match r.lastRetry with | none => 0xFF | some x => resultCode x, BitVec.ofNat 8 r.segments.length] ++
    (r.segments.flatMap fun g =>
      [g.addr.setWidth 8, if g.dir = .write then 0 else 1, BitVec.ofNat 8 g.count]) ++
    match r.result with
    | none => [0xFF, 0, f 0, f 1, f 2, f 3, f 4]
    | some x => [resultCode x.status, BitVec.ofNat 8 (x.failing.getD 0), BitVec.ofNat 8 x.bytesCompleted] ++
        be32 x.completionTime) ∧
  (∀ (s : State) (i : Fin 16) (e : Lease), (s.leaseBytes i e).length = 25 ∧ s.leaseBytes i e =
    [s.leaseId i, BitVec.ofNat 8 e.owner.val, BitVec.ofNat 8 e.bus.val, e.low.setWidth 8, e.high.setWidth 8] ++
    be16 e.duration ++ [match e.state with | .waiting => (1 : Byte) | .granted => 2 | .ended => 3] ++ be32 e.claimTime ++
    ([e.grantTime, e.expiryTime].flatMap fun x => match x with
      | none => [(0 : Byte), 0, 0, 0, 0]
      | some y => 1 :: be32 y) ++
    [match e.endReason with | none => (0 : Byte) | some .expired => 1 | some .revoked => 2,
      match e.report with | .none => 0 | .granted => 1 | .ended => 2,
      if e.state = .waiting then BitVec.ofNat 8 ((s.waitingOrder e.bus).idxOf i) else 0xFF]) ∧
  (∀ (s : State) (i : Fin 8) (g : GroupEntry) (f : Nat → Byte),
    (s.groupBytes f i g).length = 24 + g.staged.length ∧ s.groupBytes f i g =
    [s.groupId i, BitVec.ofNat 8 g.owner.val, match g.state with | .collecting => 1 | .armed => 2] ++
    (match g.binding with
      | none => [0, f (16 * i.val)]
      | some x => [match x.line with | .t0 => (1 : Byte) | .t1 => 2, match x.edge with | .rising => 0 | .falling => 1 | .both => 2]) ++
    be16 g.fireCount ++ be16 g.ignored ++
    (match g.report with
      | none => 0 :: (List.range 13).map fun j => f (16 * i.val + (1 + j))
      | some x => 1 :: (be16 x.queued ++ be16 x.endedOff ++ be16 x.fires ++
          [match x.source with | .request => (0 : Byte) | .line .t0 => 1 | .line .t1 => 2] ++ be32 x.fireTime ++
          be16 x.fireCount)) ++
    BitVec.ofNat 8 g.staged.length :: g.staged.map s.tagOf) ∧
  (∀ (s : State) (l : TriggerLine) (y : Byte), s.lineBytes y l = (if s.level l = true then 1 else 0) ::
    match s.boundGroup l with | none => [0, y] | some i => [1, s.groupId i]) ∧
  (∀ (s : State) (i : Fin 12) (w : Watch) (f : Nat → Byte), s.watchBytes f i w =
    [s.watchId i, match w.owner with | none => 0xFF | some p => BitVec.ofNat 8 p.val, BitVec.ofNat 8 w.bus.val,
      w.addr.setWidth 8, BitVec.ofNat 8 w.pointer.length] ++
    padTo 2 w.pointer ++ [BitVec.ofNat 8 w.readLen] ++ padTo 4 w.mask ++ be16 w.period ++
    [match w.state with | .running => (1 : Byte) | .suspended => 2 | .removing => 3] ++
    (match w.nextPeriod with | none => [(0 : Byte), 0, 0, 0, 0] | some y => 1 :: be32 y) ++
    ([match w.read with | .none => 0 | .queued => 1 | .active => 2, if w.lastReported = none then 0 else 1] : List Byte) ++
    padTo 4 (w.lastReported.getD []) ++
    [BitVec.ofNat 8 w.failures, match w.lastFailure with | none => 0xFF | some x => resultCode x] ++ be16 w.skipped ++
    (match w.valueReport with
      | none => [(0 : Byte), 0, 0, 0, 0] ++ (List.range 6).map fun j => f (8 * i.val + j)
      | some v => 1 :: (padTo 4 v.value ++ be32 v.time ++ be16 v.coalesced)) ++
    (match w.suspensionReport with
      | none => [0, 0xFF, f (8 * i.val + 6), f (8 * i.val + 7)]
      | some u => 1 :: resultCode u.status :: be16 u.suspensions)) ∧
  (∀ (n : Nat) (bytes : List Byte), bytes.length ≤ n →
    (padTo n bytes).length = n ∧ (padTo n bytes).take bytes.length = bytes ∧
      ∀ y ∈ (padTo n bytes).drop bytes.length, y = 0) ∧
  (∀ (s : State) (b : BusIx) (f : Nat → Byte), s.targetContent b f =
    [BitVec.ofNat 8 b.val, match (s.bus b).config.own with | none => 0xFF | some a => a.setWidth 8,
      (s.bus b).config.fill, match (s.bus b).target.owner with | none => 0xFF | some p => BitVec.ofNat 8 p.val] ++
    ((List.finRange 4).flatMap fun k =>
      [match (s.bus b).target.slots[k].state with | .empty => 0 | .filling => 1 | .complete => 2,
        BitVec.ofNat 8 (s.bus b).target.slots[k].data.length,
        (if (s.bus b).target.slots[k].overflow = true then 1 else 0) +
          (if (s.bus b).target.slots[k].followedByRead = true then 2 else 0)]) ++
    [(s.bus b).target.transferCode] ++
    (match (s.bus b).target.tally with
      | none => [0, 0] ++ (List.range 9).map f
      | some y => be16 y.reads ++ be16 y.fromBuffer ++ be16 y.fillBytes ++ be32 y.lastEnd ++
          [BitVec.ofNat 8 y.remaining]) ++
    BitVec.ofNat 8 (s.bus b).target.outbound.length :: (s.bus b).target.outbound ++
    match (s.bus b).target.deferred with | none => [0xFF] | some d => BitVec.ofNat 8 d.length :: d) ∧
  (∀ y : Target,
    ((∃ k : Fin 4, y.slots[k].state = .filling) → y.transferCode = if y.discard = true then 2 else 1) ∧
    ((∀ k : Fin 4, y.slots[k].state ≠ .filling) →
      (y.reading = none → y.transferCode = 0) ∧
      (y.reading ≠ none → y.transferCode = if y.discard = true then 4 else 3))) ∧
  (∀ (s : State) (b : BusIx) (start : Byte), ∃ entries page : List (Nat × List Byte),
    entries = (((s.bus b).queue.mapIdx fun k it => (k, s.itemBytes b it)).drop start.toNat) ∧
    page = carried 91 entries ∧ s.queueContent b start =
      BitVec.ofNat 8 b.val :: BitVec.ofNat 8 (s.bus b).queue.length :: nextIndex entries page :: page.flatMap Prod.snd) ∧
  (∀ (s : State) (start : Byte), ∃ entries page : List (Nat × List Byte),
    entries = ((List.finRange 16).filterMap fun i =>
      if start.toNat ≤ i.val then (s.lease i).map fun e => (i.val, s.leaseBytes i e) else none) ∧
    page = carried 93 entries ∧ s.leasesContent start = nextIndex entries page :: page.flatMap Prod.snd) ∧
  (∀ (s : State) (start : Byte) (f : Nat → Byte), ∃ entries page : List (Nat × List Byte),
    entries = ((List.finRange 12).filterMap fun i =>
      if start.toNat ≤ i.val then (s.watch i).map fun w => (i.val, s.watchBytes f i w) else none) ∧
    page = carried 93 entries ∧ s.watchesContent start f = nextIndex entries page :: page.flatMap Prod.snd) ∧
  (∀ (s : State) (start : Byte) (f : Nat → Byte), ∃ entries page : List (Nat × List Byte),
    entries = ((List.finRange 8).filterMap fun i =>
      if start.toNat ≤ i.val then (s.group i).map fun g => (i.val, s.groupBytes f i g) else none) ∧
    page = carried 93 entries ∧
    (page = entries → (page.flatMap Prod.snd).length + 6 ≤ 93 → s.groupsContent start f =
      0xFF :: page.flatMap Prod.snd ++ s.lineBytes (f 128) .t0 ++ s.lineBytes (f 129) .t1) ∧
    ∀ x, (page ≠ entries ∨ 93 < (page.flatMap Prod.snd).length + 6) → page.getLast? = some x →
      s.groupsContent start f = BitVec.ofNat 8 (x.1 + 1) :: page.flatMap Prod.snd) ∧
  ∀ (room : Nat) (entries : List (Nat × List Byte)), ∃ rest, entries = carried room entries ++ rest ∧
    ((carried room entries).flatMap Prod.snd).length ≤ room ∧
    (∀ x, rest.head? = some x → room < ((carried room entries).flatMap Prod.snd).length + x.2.length) ∧
    (rest = [] → nextIndex entries (carried room entries) = 0xFF) ∧
    (rest ≠ [] → ∀ x, (carried room entries).getLast? = some x →
      nextIndex entries (carried room entries) = BitVec.ofNat 8 (x.1 + 1))

/-! ## Transactions -/

/-- SUBMIT without a group, with every check of R11 passed: the lowest FREE slot holds the record, QUEUED with its entry and
deadline times, it joins its bus's queue, and the reply is OK with its tag (R4, R5, R8, R12). And the nine checks of R11 in
their order, for every SUBMIT: the first that fails gives the reply, and nothing else changes. And the layout of a body
(section 12.3): bus, class, no-replay, retry-on-address-NACK, retry budget, group present, group id, deadline, segment count,
then each segment's address, direction, byte count and, for a WRITE, its data bytes, with nothing after them; a body of
another layout is MALFORMED (R182). -/
def Obligations.SubmitQueues : Prop :=
  (∀ (body : List Byte) (x : SubmitBody), parseSubmit body = some x ↔
    ∃ dh dl : Byte, x.deadline = dh ++ dl ∧ x.segments.length < 256 ∧
      (∀ g ∈ x.segments, g.count < 256 ∧ (g.dir = .write → g.data.length = g.count) ∧ (g.dir = .read → g.data = [])) ∧
      body = [x.bus, x.cls, x.noReplay, x.retryNack, x.budget, x.groupFlag, x.groupId, dh, dl,
          BitVec.ofNat 8 x.segments.length] ++
        x.segments.flatMap fun g => [g.addr, match g.dir with | .write => 0 | .read => 1, BitVec.ofNat 8 g.count] ++ g.data) ∧
  (∀ (s : State) (p : PortIx) (q : Byte) (body : List Byte) (x : SubmitBody) (b : BusIx) (c : Cls) (i : Fin 64),
    s.takes p 0x06 q body = true → (s.session p).state = .opened → parseSubmit body = some x →
    x.bus.toNat = b.val → (s.bus b).config.enabled = true →
    (∀ g ∈ x.segments, 0x08 ≤ g.addr.toNat ∧ g.addr.toNat ≤ 0x77 ∧ (s.bus b).config.own ≠ some (g.addr.setWidth 7)) →
    1 ≤ x.segments.length → x.segments.length ≤ 6 →
    (∀ g ∈ x.segments, g.count ≤ 64 ∧ (g.dir = .read → 1 ≤ g.count)) →
    (x.segments.map fun g => g.count).sum ≤ 64 → classOf x.cls = some c → x.budget.toNat ≤ 7 →
    x.noReplay.toNat ≤ 1 → x.retryNack.toNat ≤ 1 → x.groupFlag = 0 →
    s.windowUse p < (s.session p).window → lowestFree s.records = some i →
    exec (.submit p q body) s = .next ((((s.arrived p).putRecord i
      { owner := p, bus := b, cls := c, origCls := c, noReplay := decide (x.noReplay = 1),
        retryNack := decide (x.retryNack = 1), budget := x.budget.toNat, group := none,
        deadline := if x.deadline = 0 then none else some x.deadline,
        segments := x.segments.map fun g => match g.dir with
          | .write => Segment.write (g.addr.setWidth 7) g.data
          | .read => Segment.read (g.addr.setWidth 7) g.count,
        state := .queued, entryTime := some s.clock, ageStopped := false,
        deadlineTime := if x.deadline = 0 then none else some (s.clock + x.deadline.setWidth 32),
        notBefore := none, spacingOver := false, attempts := 0, abortPending := false, lastRetry := none, result := none }).join b
        (.record i)).replied p 0x06 q [0x00, s.tagOf i])) ∧
  ∀ (s : State) (p : PortIx) (q : Byte) (body : List Byte), s.takes p 0x06 q body = true →
    (s.session p).state = .opened →
    (parseSubmit body = none → exec (.submit p q body) s = .next ((s.arrived p).replied p 0x06 q [0x10])) ∧
    ∀ x : SubmitBody, parseSubmit body = some x →
    (3 < x.bus.toNat → exec (.submit p q body) s = .next ((s.arrived p).replied p 0x06 q [0x12])) ∧
    ∀ b : BusIx, x.bus.toNat = b.val →
    (x.groupFlag = 0 → (s.bus b).config.enabled = false →
      exec (.submit p q body) s = .next ((s.arrived p).replied p 0x06 q [0x16])) ∧
    ((x.groupFlag ≠ 0 ∨ (s.bus b).config.enabled = true) →
    ((∃ g ∈ x.segments, g.addr.toNat < 0x08 ∨ 0x77 < g.addr.toNat ∨ (s.bus b).config.own = some (g.addr.setWidth 7)) →
      exec (.submit p q body) s = .next ((s.arrived p).replied p 0x06 q [0x13])) ∧
    ((∀ g ∈ x.segments, 0x08 ≤ g.addr.toNat ∧ g.addr.toNat ≤ 0x77 ∧ (s.bus b).config.own ≠ some (g.addr.setWidth 7)) →
    ∀ lengths : Prop, (lengths ↔ 1 ≤ x.segments.length ∧ x.segments.length ≤ 6 ∧
      (∀ g ∈ x.segments, g.count ≤ 64 ∧ (g.dir = .read → 1 ≤ g.count)) ∧
      (x.segments.map fun g => g.count).sum ≤ 64) →
    (¬lengths → exec (.submit p q body) s = .next ((s.arrived p).replied p 0x06 q [0x14])) ∧
    (lengths → ∀ fields : Prop, (fields ↔ x.cls.toNat ≤ 2 ∧ x.budget.toNat ≤ 7 ∧ x.noReplay.toNat ≤ 1 ∧
      x.retryNack.toNat ≤ 1 ∧ x.groupFlag.toNat ≤ 1) →
    (¬fields → exec (.submit p q body) s = .next ((s.arrived p).replied p 0x06 q [0x15])) ∧
    (fields → x.groupFlag = 1 → s.findGroup x.groupId = none →
      exec (.submit p q body) s = .next ((s.arrived p).replied p 0x06 q [0x20])) ∧
    (∀ k e, fields → x.groupFlag = 1 → s.findGroup x.groupId = some (k, e) → e.owner ≠ p →
      exec (.submit p q body) s = .next ((s.arrived p).replied p 0x06 q [0x21])) ∧
    (∀ k e, fields → x.groupFlag = 1 → s.findGroup x.groupId = some (k, e) → e.owner = p → e.state ≠ .collecting →
      exec (.submit p q body) s = .next ((s.arrived p).replied p 0x06 q [0x22])) ∧
    (fields → (x.groupFlag = 0 ∨ ∃ k e, s.findGroup x.groupId = some (k, e) ∧ e.owner = p ∧ e.state = .collecting) →
      ((s.session p).window ≤ s.windowUse p →
        exec (.submit p q body) s = .next ((s.arrived p).replied p 0x06 q [0x30])) ∧
      (s.windowUse p < (s.session p).window → lowestFree s.records = none →
        exec (.submit p q body) s = .next ((s.arrived p).replied p 0x06 q [0x31]))))))

/-- SUBMIT that names a COLLECTING group of its session, with every check of R11 passed: the record is STAGED, without times,
at the tail of the group's staged list, whether its bus is enabled or not (R13, R106). -/
def Obligations.SubmitStages : Prop :=
  ∀ (s : State) (p : PortIx) (q : Byte) (body : List Byte) (x : SubmitBody) (b : BusIx) (c : Cls) (k : Fin 8)
    (e : GroupEntry) (i : Fin 64),
    s.takes p 0x06 q body = true → (s.session p).state = .opened → parseSubmit body = some x →
    x.bus.toNat = b.val →
    (∀ g ∈ x.segments, 0x08 ≤ g.addr.toNat ∧ g.addr.toNat ≤ 0x77 ∧ (s.bus b).config.own ≠ some (g.addr.setWidth 7)) →
    1 ≤ x.segments.length → x.segments.length ≤ 6 →
    (∀ g ∈ x.segments, g.count ≤ 64 ∧ (g.dir = .read → 1 ≤ g.count)) →
    (x.segments.map fun g => g.count).sum ≤ 64 → classOf x.cls = some c → x.budget.toNat ≤ 7 →
    x.noReplay.toNat ≤ 1 → x.retryNack.toNat ≤ 1 → x.groupFlag = 1 →
    s.findGroup x.groupId = some (k, e) → e.owner = p → e.state = .collecting →
    s.windowUse p < (s.session p).window → lowestFree s.records = some i →
    exec (.submit p q body) s = .next ((((s.arrived p).putRecord i
      { owner := p, bus := b, cls := c, origCls := c, noReplay := decide (x.noReplay = 1),
        retryNack := decide (x.retryNack = 1), budget := x.budget.toNat, group := some x.groupId,
        deadline := if x.deadline = 0 then none else some x.deadline,
        segments := x.segments.map fun g => match g.dir with
          | .write => Segment.write (g.addr.setWidth 7) g.data
          | .read => Segment.read (g.addr.setWidth 7) g.count,
        state := .staged, entryTime := none, ageStopped := false, deadlineTime := none, notBefore := none,
        spacingOver := false, attempts := 0, abortPending := false, lastRetry := none, result := none }).putGroup k
        { e with staged := e.staged ++ [i] }).replied p 0x06 q [0x00, s.tagOf i])

/-- CANCEL (R3, R18): a STAGED or QUEUED record leaves its list or queue and ends CANCELLED; an ACTIVE one takes abort pending
and is answered PENDING; a DONE one is TOO_LATE; a stale tag is UNKNOWN_ID, another session's record WRONG_OWNER. -/
def Obligations.CancelByTheRecordsState : Prop :=
  ∀ (s : State) (p : PortIx) (q tag : Byte), s.takes p 0x07 q [tag] = true → (s.session p).state = .opened →
    (s.findRecord tag = none →
      exec (.cancel p q [tag]) s = .next ((s.arrived p).replied p 0x07 q [0x20])) ∧
    ∀ (i : Fin 64) (r : Record), s.findRecord tag = some (i, r) →
      (r.owner ≠ p → exec (.cancel p q [tag]) s = .next ((s.arrived p).replied p 0x07 q [0x21])) ∧
      (r.owner = p → r.state = .staged → exec (.cancel p q [tag]) s =
        .next ((((s.arrived p).unstage i).finishRecord i .cancelled none 0 []).replied p 0x07 q [0x00])) ∧
      (r.owner = p → r.state = .queued → exec (.cancel p q [tag]) s =
        .next ((((s.arrived p).setQueue r.bus ((s.bus r.bus).queue.filter fun y => decide (y ≠ .record i))).finishRecord
          i .cancelled none 0 []).replied p 0x07 q [0x00])) ∧
      (r.owner = p → r.state = .active → ∀ a : Attempt, (s.bus r.bus).engine = .active (some a) →
        a.item = .record i → exec (.cancel p q [tag]) s =
        .next ((((s.arrived p).putRecord i { r with abortPending := true }).setEngine r.bus
          (.active (some { a with abortPending := true }))).replied p 0x07 q [0x01])) ∧
      (r.owner = p → r.state = .done → exec (.cancel p q [tag]) s = .next ((s.arrived p).replied p 0x07 q [0x23]))

/-- A record that ends (R8, R15, R21, R154, R155): in DONE without its not-before time and with its result; with room in its
owner's outbox the RESULT takes the next sequence, UNSENT and never sent, and the slot is FREE with the next generation;
without room the record waits, DONE, at the tail of the admission list. So for every source of reports: a report that becomes
pending is admitted at once, or its source joins the tail of the list, or keeps its place there; and admission gives the report
the next sequence and releases the source by its kind (R97, R112, R128, R136, R138, R153 to R155). -/
def Obligations.EndedRecordsReport : Prop :=
  (∀ (s : State) (p : PortIx) (src : Source),
    (src ∈ (s.session p).admission → s.offer p src = s) ∧
    (src ∉ (s.session p).admission →
      ((s.session p).outbox.length < 16 → s.offer p src = s.admitOne p src) ∧
      (16 ≤ (s.session p).outbox.length →
        s.offer p src = s.modSession p fun x => { x with admission := x.admission ++ [src] }))) ∧
  (∀ (s : State) (p : PortIx) (push : Report → State),
    (∀ y, push y = s.modSession p fun x => { x with
      nextSeq := x.nextSeq + 1
      outbox := x.outbox ++ [({ seq := x.nextSeq, sent := false, everSent := false, report := y } : OutboxEntry)] }) →
    (∀ i r x, s.record i = some r → r.result = some x →
      s.admitOne p (.record i) = (push (.result (s.tagOf i) x r.attempts r.lastRetry)).freeRecord i) ∧
    (∀ i e g t, s.lease i = some e → e.report = .granted → e.grantTime = some g → e.expiryTime = some t →
      s.admitOne p (.lease i) =
        (push (.leaseGranted (s.leaseId i) e.bus e.low e.high g t)).putLease i { e with report := .none }) ∧
    (∀ i e t, s.lease i = some e → e.report = .ended → e.endTime = some t →
      s.admitOne p (.lease i) =
        (push (.leaseEnded (s.leaseId i) e.bus e.low e.high e.endReason t e.grantTime)).freeLease i) ∧
    (∀ i g f, s.group i = some g → g.report = some f →
      s.admitOne p (.group i) = (push (.groupFired (s.groupId i) f)).putGroup i { g with report := none }) ∧
    (∀ i w v, s.watch i = some w → w.valueReport = some v → (w.suspensionReport = none ∨ w.suspensionFirst = false) →
      s.admitOne p (.watch i) = (push (.watchValue (s.watchId i) w.bus w.addr v w.skipped)).putWatch i
        { w with valueReport := none, lastReported := some v.value }) ∧
    (∀ i w v, s.watch i = some w → w.suspensionReport = some v → (w.valueReport = none ∨ w.suspensionFirst = true) →
      s.admitOne p (.watch i) = (push (.watchSuspended (s.watchId i) w.bus w.addr v w.skipped)).putWatch i
        { w with suspensionReport := none, suspensionFirst := false }) ∧
    (∀ (b : BusIx) (k : Fin 4), (s.bus b).target.slots[k].state = .complete →
      s.admitOne p (.inbound b k) = (push (.targetWrite b k (s.bus b).target.slots[k])).modTarget b fun t =>
        { t with slots := t.slots.set k ({ state := .empty, data := [], overflow := false, followedByRead := false,
                                           completionTime := none } : InSlot) }) ∧
    (∀ b y, (s.bus b).target.tally = some y →
      s.admitOne p (.tally b) = (push (.targetRead b y)).modTarget b fun t => { t with tally := none }) ∧
    ∀ (b : BusIx) (e : BusEvent), (s.session p).busEvents[b] = some e →
      s.admitOne p (.busEvent b) = (push (.busEvent b e)).modSession p fun x =>
        { x with busEvents := x.busEvents.set b none }) ∧
  ∀ (s : State) (i : Fin 64) (r : Record) (st : Status) (f : Option Nat) (n : Nat) (d : List Byte),
    s.record i = some r → Source.record i ∉ (s.session r.owner).admission →
    ((s.session r.owner).outbox.length < 16 →
      s.finishRecord i st f n d = ({ s with records := s.records.set i { gen := s.records[i].gen + 1, entry := none }
        }).modSession r.owner fun x => { x with
          nextSeq := x.nextSeq + 1
          outbox := x.outbox ++ [
            ({ seq := x.nextSeq
               sent := false
               everSent := false
               report := Report.result (s.tagOf i)
                { status := st, failing := f, bytesCompleted := n, completionTime := s.clock, readData := d }
                r.attempts r.lastRetry } : OutboxEntry)] }) ∧
    (16 ≤ (s.session r.owner).outbox.length →
      s.finishRecord i st f n d = (s.putRecord i { r with
          state := .done
          notBefore := none
          spacingOver := false
          result := some { status := st, failing := f, bytesCompleted := n, completionTime := s.clock,
                           readData := d } }).modSession r.owner fun x =>
        { x with admission := x.admission ++ [.record i] })

/-! ## Leases -/

/-- CLAIM (R89, R90): without a conflict the lowest FREE slot is GRANTED at once; with one it is WAITING at the tail of its
bus's order when the claim may wait, and refused CONFLICT otherwise; with no FREE slot it is NO_ROOM. The checks of its values
come before, in R89's order: a bus above 3 is BAD_BUS, a disabled bus BUS_OFF, an address outside 0x08 to 0x77 BAD_ADDRESS, a
high address below the low one, a duration of 0 or a wait flag above 1 BAD_FIELD. -/
def Obligations.ClaimGrantsQueuesOrRefuses : Prop :=
  (∀ (s : State) (p : PortIx) (q x lo hi dh dl wait : Byte) (b : BusIx),
    s.takes p 0x08 q [x, lo, hi, dh, dl, wait] = true → (s.session p).state = .opened → x.toNat = b.val →
    (s.bus b).config.enabled = true → 0x08 ≤ lo.toNat → lo.toNat ≤ hi.toNat → hi.toNat ≤ 0x77 →
    dh ++ dl ≠ 0#16 → wait.toNat ≤ 1 →
    ∀ conflict : Prop,
      (conflict ↔ ∃ j e, s.lease j = some e ∧ e.owner ≠ p ∧ e.bus = b ∧ e.state ≠ .ended ∧
        e.low.toNat ≤ hi.toNat ∧ lo.toNat ≤ e.high.toNat) →
      (∀ i, ¬conflict → lowestFree s.leases = some i →
        exec (.claim p q [x, lo, hi, dh, dl, wait]) s = .next (((s.arrived p).putLease i
          { owner := p, bus := b, low := lo.setWidth 7, high := hi.setWidth 7, duration := dh ++ dl,
            state := .granted, claimTime := s.clock, grantTime := some s.clock,
            expiryTime := some (s.clock + (dh ++ dl).setWidth 32), endReason := none, endTime := none,
            report := .none }).replied p 0x08 q [0x00, s.leaseId i])) ∧
      (∀ i, conflict → wait = 1 → lowestFree s.leases = some i →
        exec (.claim p q [x, lo, hi, dh, dl, wait]) s = .next ((((s.arrived p).putLease i
          { owner := p, bus := b, low := lo.setWidth 7, high := hi.setWidth 7, duration := dh ++ dl,
            state := .waiting, claimTime := s.clock, grantTime := none, expiryTime := none, endReason := none,
            endTime := none, report := .none }).setWaiting b (s.waitingOrder b ++ [i])).replied p 0x08 q
          [0x02, s.leaseId i])) ∧
      (conflict → wait = 0 →
        exec (.claim p q [x, lo, hi, dh, dl, wait]) s = .next ((s.arrived p).replied p 0x08 q [0x24])) ∧
      ((¬conflict ∨ wait = 1) → lowestFree s.leases = none →
        exec (.claim p q [x, lo, hi, dh, dl, wait]) s = .next ((s.arrived p).replied p 0x08 q [0x32]))) ∧
  ∀ (s : State) (p : PortIx) (q x lo hi dh dl wait : Byte), s.takes p 0x08 q [x, lo, hi, dh, dl, wait] = true →
    (s.session p).state = .opened →
    (3 < x.toNat → exec (.claim p q [x, lo, hi, dh, dl, wait]) s = .next ((s.arrived p).replied p 0x08 q [0x12])) ∧
    ∀ b : BusIx, x.toNat = b.val →
    ((s.bus b).config.enabled = false →
      exec (.claim p q [x, lo, hi, dh, dl, wait]) s = .next ((s.arrived p).replied p 0x08 q [0x16])) ∧
    ((s.bus b).config.enabled = true →
    ((lo.toNat < 0x08 ∨ 0x77 < lo.toNat ∨ hi.toNat < 0x08 ∨ 0x77 < hi.toNat) →
      exec (.claim p q [x, lo, hi, dh, dl, wait]) s = .next ((s.arrived p).replied p 0x08 q [0x13])) ∧
    (0x08 ≤ lo.toNat → lo.toNat ≤ 0x77 → 0x08 ≤ hi.toNat → hi.toNat ≤ 0x77 →
      (hi.toNat < lo.toNat ∨ dh ++ dl = 0#16 ∨ 1 < wait.toNat) →
      exec (.claim p q [x, lo, hi, dh, dl, wait]) s = .next ((s.arrived p).replied p 0x08 q [0x15])))

/-- RENEW (R93, with the shared checks of R92): the owner's GRANTED entry takes the new duration and the expiry time now plus
it, and nothing else changes; a WAITING entry is WRONG_STATE, an ENDED one TOO_LATE, a duration of 0 BAD_FIELD, another
session's entry WRONG_OWNER, an id that resolves to nothing UNKNOWN_ID. (Here as everywhere, `replied` ends the event with the
transmitter's choice, at the moment that is the model's reading: log 21.) -/
def Obligations.RenewMovesTheExpiryTime : Prop :=
  ∀ (s : State) (p : PortIx) (q id hi lo : Byte), s.takes p 0x09 q [id, hi, lo] = true →
    (s.session p).state = .opened →
    (s.findLease id = none → exec (.renew p q [id, hi, lo]) s = .next ((s.arrived p).replied p 0x09 q [0x20])) ∧
    ∀ (i : Fin 16) (e : Lease), s.findLease id = some (i, e) →
      (e.owner ≠ p → exec (.renew p q [id, hi, lo]) s = .next ((s.arrived p).replied p 0x09 q [0x21])) ∧
      (e.owner = p → hi ++ lo = 0#16 →
        exec (.renew p q [id, hi, lo]) s = .next ((s.arrived p).replied p 0x09 q [0x15])) ∧
      (e.owner = p → hi ++ lo ≠ 0#16 → e.state = .waiting →
        exec (.renew p q [id, hi, lo]) s = .next ((s.arrived p).replied p 0x09 q [0x22])) ∧
      (e.owner = p → hi ++ lo ≠ 0#16 → e.state = .ended →
        exec (.renew p q [id, hi, lo]) s = .next ((s.arrived p).replied p 0x09 q [0x23])) ∧
      (e.owner = p → hi ++ lo ≠ 0#16 → e.state = .granted →
        exec (.renew p q [id, hi, lo]) s = .next (((s.arrived p).putLease i
          { e with duration := hi ++ lo, expiryTime := some (s.clock + (hi ++ lo).setWidth 32) }).replied p 0x09 q
          (0x00 :: be32 (s.clock + (hi ++ lo).setWidth 32))))

/-- RELEASE, REVOKE and LEASE_EXPIRY (R91, R94, R95, R96, R97): the entry is freed without a report, or becomes ENDED with its
reason and its LEASE_ENDED report pending; it leaves its bus's waiting order; the bus is re-examined, and woken when the entry
had been GRANTED. An ENDED entry is TOO_LATE; an id that resolves to nothing is UNKNOWN_ID, and another session's entry is
WRONG_OWNER to RELEASE (R92). -/
def Obligations.LeasesEnd : Prop :=
  (∀ (s : State) (p : PortIx) (q id : Byte), s.takes p 0x0A q [id] = true → (s.session p).state = .opened →
    (s.findLease id = none → exec (.release p q [id]) s = .next ((s.arrived p).replied p 0x0A q [0x20])) ∧
    ∀ i e, s.findLease id = some (i, e) → e.owner ≠ p →
      exec (.release p q [id]) s = .next ((s.arrived p).replied p 0x0A q [0x21])) ∧
  (∀ (s : State) (q id : Byte), s.takes 0 0x0B q [id] = true → (s.session 0).state = .opened → s.findLease id = none →
    exec (.revoke 0 q [id]) s = .next ((s.arrived 0).replied 0 0x0B q [0x20])) ∧
  (∀ (s : State) (p : PortIx) (q id : Byte) (i : Fin 16) (e : Lease), s.takes p 0x0A q [id] = true →
    (s.session p).state = .opened → s.findLease id = some (i, e) → e.owner = p →
    (e.state = .ended → exec (.release p q [id]) s = .next ((s.arrived p).replied p 0x0A q [0x23])) ∧
    (e.state ≠ .ended → ∃ u : State,
      u = ((((s.arrived p).freeLease i).setWaiting e.bus ((s.waitingOrder e.bus).filter fun j => decide (j ≠ i))
        ).modSession p fun x => { x with admission := x.admission.filter fun y => decide (y ≠ .lease i) }).reexamine e.bus ∧
      exec (.release p q [id]) s =
        .next ((if e.state = .granted then u.wake e.bus else u).replied p 0x0A q [0x00]))) ∧
  (∀ (s : State) (q id : Byte) (i : Fin 16) (e : Lease), s.takes 0 0x0B q [id] = true →
    (s.session 0).state = .opened → s.findLease id = some (i, e) →
    (e.state = .ended → exec (.revoke 0 q [id]) s = .next ((s.arrived 0).replied 0 0x0B q [0x23])) ∧
    (e.state ≠ .ended → ∃ u : State,
      u = ((((s.arrived 0).putLease i { e with
          state := .ended
          expiryTime := none
          endReason := some .revoked
          endTime := some s.clock
          report := .ended }).setWaiting e.bus ((s.waitingOrder e.bus).filter fun j => decide (j ≠ i))).offer e.owner
        (.lease i)).reexamine e.bus ∧
      exec (.revoke 0 q [id]) s =
        .next ((if e.state = .granted then u.wake e.bus else u).replied 0 0x0B q [0x00]))) ∧
  ∀ (s : State) (i : Fin 16) (e : Lease) (t : Clock), s.lease i = some e → e.state = .granted →
    e.expiryTime = some t → (s.clock - t).toNat < 2 ^ 31 →
    exec (.leaseExpiry i) s = .next (((((s.putLease i { e with
        state := .ended
        expiryTime := none
        endReason := some .expired
        endTime := some s.clock
        report := .ended }).setWaiting e.bus ((s.waitingOrder e.bus).filter fun j => decide (j ≠ i))).offer e.owner
      (.lease i)).reexamine e.bus).wake e.bus).settle

/-- Re-examination leaves in a bus's waiting order only entries that must wait (R91): each overlaps a GRANTED entry of another
session on the bus, or an entry of another session that stands earlier in the order. And it grants the rest: the first entry
of the order that need not wait becomes GRANTED, with its grant time and its expiry time, its LEASE_GRANTED report becomes
pending, and it leaves the order, which is examined on; an order whose entries all must wait stays as it is (R91, R97). -/
def Obligations.ReexaminationLeavesNoneGrantable : Prop :=
  (∀ (s : State) (b : BusIx) (before after : List (Fin 16)) (i : Fin 16) (e : Lease),
    (s.reexamine b).waitingOrder b = before ++ i :: after → (s.reexamine b).lease i = some e → e.state = .waiting →
    (∃ j g, (s.reexamine b).lease j = some g ∧ g.state = .granted ∧ g.conflicts e.owner e.bus e.low e.high = true) ∨
      ∃ j g, j ∈ before ∧ (s.reexamine b).lease j = some g ∧ g.conflicts e.owner e.bus e.low e.high = true) ∧
  ∀ (s : State) (b : BusIx),
    (∀ (before after : List (Fin 16)) (i : Fin 16) (e : Lease), s.waitingOrder b = before ++ i :: after →
      s.lease i = some e → s.waitsAmong before → ¬s.mustWait e before →
      s.reexamine b = (((s.putLease i { e with
          state := .granted
          grantTime := some s.clock
          expiryTime := some (s.clock + e.duration.setWidth 32)
          report := .granted }).offer e.owner (.lease i)).setWaiting b (before ++ after)).reexamine b) ∧
    (s.waitsAmong (s.waitingOrder b) → s.reexamine b = s)

/-! ## Groups and trigger lines -/

/-- GROUP_CREATE and GROUP_ARM (R103, R104, R107): the lowest FREE slot holds a COLLECTING entry, or NO_ROOM; the owner's
COLLECTING entry becomes ARMED, an ARMED one is WRONG_STATE. -/
def Obligations.GroupCreateAndArm : Prop :=
  (∀ (s : State) (p : PortIx) (q : Byte), s.takes p 0x0C q [] = true → (s.session p).state = .opened →
    (∀ i, lowestFree s.groups = some i → exec (.groupCreate p q []) s = .next (((s.arrived p).putGroup i
      { owner := p, state := .collecting, staged := [], binding := none, fireCount := 0, ignored := 0,
        report := none }).replied p 0x0C q [0x00, s.groupId i])) ∧
    (lowestFree s.groups = none → exec (.groupCreate p q []) s = .next ((s.arrived p).replied p 0x0C q [0x32]))) ∧
  ∀ (s : State) (p : PortIx) (q id : Byte), s.takes p 0x0D q [id] = true → (s.session p).state = .opened →
    (s.findGroup id = none → exec (.groupArm p q [id]) s = .next ((s.arrived p).replied p 0x0D q [0x20])) ∧
    ∀ (i : Fin 8) (g : GroupEntry), s.findGroup id = some (i, g) →
      (g.owner ≠ p → exec (.groupArm p q [id]) s = .next ((s.arrived p).replied p 0x0D q [0x21])) ∧
      (g.owner = p → g.state = .armed → exec (.groupArm p q [id]) s = .next ((s.arrived p).replied p 0x0D q [0x22])) ∧
      (g.owner = p → g.state = .collecting → exec (.groupArm p q [id]) s =
        .next (((s.arrived p).putGroup i { g with state := .armed }).replied p 0x0D q [0x00]))

/-- GROUP_BIND by the owner (R108): a line of 0 unbinds; a line bound to no other entry is bound with the edge asked for, in
place of any binding the entry had; a line bound to another entry is IN_USE; a line above 2, or an edge above 2 where a line
is named, is BAD_FIELD. Before these, an id that resolves to nothing is UNKNOWN_ID and another session's group WRONG_OWNER. -/
def Obligations.GroupBind : Prop :=
  (∀ (s : State) (p : PortIx) (q id line edge : Byte), s.takes p 0x0F q [id, line, edge] = true → (s.session p).state = .opened →
    (s.findGroup id = none → exec (.groupBind p q [id, line, edge]) s = .next ((s.arrived p).replied p 0x0F q [0x20])) ∧
    ∀ i e, s.findGroup id = some (i, e) → e.owner ≠ p →
      exec (.groupBind p q [id, line, edge]) s = .next ((s.arrived p).replied p 0x0F q [0x21])) ∧
  ∀ (s : State) (p : PortIx) (q id line edge : Byte) (i : Fin 8) (g : GroupEntry),
    s.takes p 0x0F q [id, line, edge] = true → (s.session p).state = .opened → s.findGroup id = some (i, g) →
    g.owner = p →
    (line = 0 → exec (.groupBind p q [id, line, edge]) s =
      .next (((s.arrived p).putGroup i { g with binding := none }).replied p 0x0F q [0x00])) ∧
    (2 < line.toNat → exec (.groupBind p q [id, line, edge]) s = .next ((s.arrived p).replied p 0x0F q [0x15])) ∧
    (line ≠ 0 → line.toNat ≤ 2 → 2 < edge.toNat →
      exec (.groupBind p q [id, line, edge]) s = .next ((s.arrived p).replied p 0x0F q [0x15])) ∧
    ∀ (l : TriggerLine) (e : Edge), line = (match l with | .t0 => 1 | .t1 => 2) →
      edge = (match e with | .rising => 0 | .falling => 1 | .both => 2) →
      ((∀ j x, j ≠ i → s.group j = some x → ∀ y, x.binding = some y → y.line ≠ l) →
        exec (.groupBind p q [id, line, edge]) s =
          .next (((s.arrived p).putGroup i { g with binding := some { line := l, edge := e } }).replied p 0x0F q
            [0x00])) ∧
      (s.boundGroup l ≠ none → s.boundGroup l ≠ some i →
        exec (.groupBind p q [id, line, edge]) s = .next ((s.arrived p).replied p 0x0F q [0x25]))

/-- GROUP_FIRE and TRIGGER_EDGE (R8, R109 to R112): a fired record on an enabled bus is QUEUED with the fire time as its entry
time and its deadline time from it, and joins its queue; on a disabled bus it ends BUS_OFF. The staged records are fired in
staging order, the entry is COLLECTING and empty, its fire count goes up, and its GROUP_FIRED report becomes pending, made or
added to; the reply counts the records queued and ended. An edge a COLLECTING entry's binding selects is counted as ignored,
one it does not select changes the sampled level alone. The report of a fire that finds none pending has fires 1 and the
counts of that fire; one that finds a report adds its counts, saturating, and one to the fires; source, fire time and fire
count are those of the latest fire (R112). A GROUP_FIRE of an id that resolves to nothing is UNKNOWN_ID, of another session's
group WRONG_OWNER. -/
def Obligations.FireReleasesTheStagedList : Prop :=
  (∀ (s : State) (p : PortIx) (q id : Byte), s.takes p 0x0E q [id] = true → (s.session p).state = .opened →
    (s.findGroup id = none → exec (.groupFire p q [id]) s = .next ((s.arrived p).replied p 0x0E q [0x20])) ∧
    ∀ i e, s.findGroup id = some (i, e) → e.owner ≠ p →
      exec (.groupFire p q [id]) s = .next ((s.arrived p).replied p 0x0E q [0x21])) ∧
  (∀ (queued endedOff : Nat) (source : FireSource) (time : Clock) (fireCount : Half) (old : Option FireReport)
    (new : FireReport), new = mergeFire old queued endedOff source time fireCount →
    new.source = source ∧ new.fireTime = time ∧ new.fireCount = fireCount ∧
    (old = none → new.queued.toNat = min queued 65535 ∧ new.endedOff.toNat = min endedOff 65535 ∧ new.fires = 1) ∧
    ∀ f, old = some f → new.queued.toNat = min (f.queued.toNat + queued) 65535 ∧
      new.endedOff.toNat = min (f.endedOff.toNat + endedOff) 65535 ∧ new.fires.toNat = min (f.fires.toNat + 1) 65535) ∧
  (∀ (s : State) (i : Fin 64) (r : Record), s.record i = some r →
    ((s.bus r.bus).config.enabled = true → s.fireRecord i = (s.putRecord i { r with
      state := .queued
      entryTime := some s.clock
      deadlineTime := r.deadline.map fun d => s.clock + d.setWidth 32 }).join r.bus (.record i)) ∧
    ((s.bus r.bus).config.enabled = false → s.fireRecord i = s.finishRecord i .busOff none 0 [])) ∧
  (∀ (s : State) (p : PortIx) (q id : Byte) (i : Fin 8) (g : GroupEntry) (queued : Nat),
    s.takes p 0x0E q [id] = true → (s.session p).state = .opened → s.findGroup id = some (i, g) → g.owner = p →
    queued = (g.staged.filter fun j => (s.record j).any fun r => (s.bus r.bus).config.enabled).length →
    exec (.groupFire p q [id]) s = .next (((((g.staged.foldl (fun acc j => acc.fireRecord j) (s.arrived p)).putGroup i
      { g with
        state := .collecting
        staged := []
        fireCount := satInc g.fireCount
        report := some (mergeFire g.report queued (g.staged.length - queued) .request s.clock (satInc g.fireCount))
      }).offer g.owner (.group i)).replied p 0x0E q
        [0x00, BitVec.ofNat 8 queued, BitVec.ofNat 8 (g.staged.length - queued)]))) ∧
  (∀ (s : State) (l : TriggerLine) (up : Bool) (i : Fin 8) (g : GroupEntry) (x : Binding) (queued : Nat),
    s.level l ≠ up → s.boundGroup l = some i → s.group i = some g → g.binding = some x →
    (x.edge = .both ∨ x.edge = (if up = true then .rising else .falling)) → g.state = .armed →
    queued = (g.staged.filter fun j => (s.record j).any fun r => (s.bus r.bus).config.enabled).length →
    exec (.triggerEdge l up) s = .next ((((g.staged.foldl (fun acc j => acc.fireRecord j) (s.setLevel l up)).putGroup i
      { g with
        state := .collecting
        staged := []
        fireCount := satInc g.fireCount
        report := some (mergeFire g.report queued (g.staged.length - queued) (.line l) s.clock (satInc g.fireCount))
      }).offer g.owner (.group i)).settle)) ∧
  (∀ (s : State) (l : TriggerLine) (up : Bool) (i : Fin 8) (g : GroupEntry) (x : Binding),
    s.level l ≠ up → s.boundGroup l = some i → s.group i = some g → g.binding = some x →
    (x.edge = .both ∨ x.edge = (if up = true then .rising else .falling)) → g.state = .collecting →
    exec (.triggerEdge l up) s =
      .next ((s.setLevel l up).putGroup i { g with ignored := satInc g.ignored }).settle) ∧
  (∀ (s : State) (l : TriggerLine) (up : Bool) (i : Fin 8) (g : GroupEntry) (x : Binding),
    s.level l ≠ up → s.boundGroup l = some i → s.group i = some g → g.binding = some x →
    x.edge = (if up = true then .falling else .rising) →
    exec (.triggerEdge l up) s = .next (s.setLevel l up).settle) ∧
  ∀ (s : State) (l : TriggerLine) (up : Bool), s.level l ≠ up → s.boundGroup l = none →
    exec (.triggerEdge l up) s = .next (s.setLevel l up).settle

/-- GROUP_DELETE by the owner (R113): every staged record ends CANCELLED, in staging order, a pending fire report is discarded
with its place in the admission list, the slot is FREE with the next generation, and the reply counts the records and the
fires of the discarded report. That the reply goes to an idle transmitter before the RESULT notices of the same event is the
model's reading (log 21). An id that resolves to nothing is UNKNOWN_ID, another session's group WRONG_OWNER. -/
def Obligations.GroupDelete : Prop :=
  (∀ (s : State) (p : PortIx) (q id : Byte), s.takes p 0x10 q [id] = true → (s.session p).state = .opened →
    (s.findGroup id = none → exec (.groupDelete p q [id]) s = .next ((s.arrived p).replied p 0x10 q [0x20])) ∧
    ∀ i e, s.findGroup id = some (i, e) → e.owner ≠ p →
      exec (.groupDelete p q [id]) s = .next ((s.arrived p).replied p 0x10 q [0x21])) ∧
  ∀ (s : State) (p : PortIx) (q id : Byte) (i : Fin 8) (g : GroupEntry),
    s.takes p 0x10 q [id] = true → (s.session p).state = .opened → s.findGroup id = some (i, g) → g.owner = p →
    exec (.groupDelete p q [id]) s = .next ((((g.staged.foldl (fun acc j => acc.finishRecord j .cancelled none 0 [])
      ((s.arrived p).putGroup i { g with staged := [] })).modSession p fun x =>
        { x with admission := x.admission.filter fun y => decide (y ≠ .group i) }).freeGroup i).replied p 0x10 q
      (0x00 :: BitVec.ofNat 8 g.staged.length :: be16 (match g.report with | none => 0 | some f => f.fires)))

/-! ## Watches -/

/-- WATCH_ADD with every check of R118 passed, WATCH_RESUME of a SUSPENDED entry (R125), and their refusals NO_ROOM and
WRONG_STATE. The checks of WATCH_ADD's values come before, in R118's order: BAD_BUS, BUS_OFF, BAD_ADDRESS, BAD_LENGTH and
BAD_FIELD. A WATCH_ADD body whose length is not the one its pointer count and read length imply is MALFORMED (R182, whatever
row carries the frame: log 4). To WATCH_RESUME an id that resolves to nothing is UNKNOWN_ID, and an entry of another session,
or of none, WRONG_OWNER (R119). -/
def Obligations.WatchAddAndResume : Prop :=
  (∀ (c : Instr) (s : State) (p : PortIx) (q : Byte) (body : List Byte), frameOf c = some (p, 0x11, q, body) →
    s.takes p 0x11 q body = true → (s.session p).state = .opened →
    (body.length < 6 ∨ ∃ x a pc len ph pl rest, body = x :: a :: pc :: len :: ph :: pl :: rest ∧
      rest.length ≠ pc.toNat + len.toNat) →
    exec c s = .next ((s.arrived p).replied p 0x11 q [0x10])) ∧
  (∀ (s : State) (p : PortIx) (q id : Byte), s.takes p 0x13 q [id] = true → (s.session p).state = .opened →
    (s.findWatch id = none → exec (.watchResume p q [id]) s = .next ((s.arrived p).replied p 0x13 q [0x20])) ∧
    ∀ i e, s.findWatch id = some (i, e) → e.owner ≠ some p →
      exec (.watchResume p q [id]) s = .next ((s.arrived p).replied p 0x13 q [0x21])) ∧
  ((∀ (s : State) (p : PortIx) (q x a ph pl : Byte) (pointer mask : List Byte) (b : BusIx) (body : List Byte),
    body = [x, a, BitVec.ofNat 8 pointer.length, BitVec.ofNat 8 mask.length, ph, pl] ++ pointer ++ mask →
    s.takes p 0x11 q body = true → (s.session p).state = .opened → x.toNat = b.val →
    (s.bus b).config.enabled = true → 0x08 ≤ a.toNat → a.toNat ≤ 0x77 →
    (s.bus b).config.own ≠ some (a.setWidth 7) → pointer.length ≤ 2 → 1 ≤ mask.length → mask.length ≤ 4 →
    10 ≤ (ph ++ pl).toNat → (ph ++ pl).toNat ≤ 60000 →
    (∀ i, lowestFree s.watches = some i → exec (.watchAdd p q body) s = .next (((s.arrived p).putWatch i
      { owner := some p, bus := b, addr := a.setWidth 7, pointer := pointer, readLen := mask.length, mask := mask,
        period := ph ++ pl, state := .running, nextPeriod := some (s.clock + (ph ++ pl).setWidth 32), read := .none,
        lastReported := none, failures := 0, lastFailure := none, skipped := 0, valueReport := none,
        suspensionReport := none, suspensionFirst := false }).replied p 0x11 q [0x00, s.watchId i])) ∧
    (lowestFree s.watches = none → exec (.watchAdd p q body) s = .next ((s.arrived p).replied p 0x11 q [0x32]))) ∧
  ∀ (s : State) (p : PortIx) (q id : Byte) (i : Fin 12) (w : Watch), s.takes p 0x13 q [id] = true →
    (s.session p).state = .opened → s.findWatch id = some (i, w) → w.owner = some p →
    (w.state ≠ .suspended → exec (.watchResume p q [id]) s = .next ((s.arrived p).replied p 0x13 q [0x22])) ∧
    (w.state = .suspended → exec (.watchResume p q [id]) s = .next (((s.arrived p).putWatch i { w with
      state := .running
      failures := 0
      nextPeriod := some (s.clock + w.period.setWidth 32) }).replied p 0x13 q [0x00]))) ∧
  ∀ (s : State) (p : PortIx) (q x a ph pl : Byte) (pointer mask body : List Byte),
    body = [x, a, BitVec.ofNat 8 pointer.length, BitVec.ofNat 8 mask.length, ph, pl] ++ pointer ++ mask →
    s.takes p 0x11 q body = true → (s.session p).state = .opened →
    (3 < x.toNat → exec (.watchAdd p q body) s = .next ((s.arrived p).replied p 0x11 q [0x12])) ∧
    ∀ b : BusIx, x.toNat = b.val →
    ((s.bus b).config.enabled = false → exec (.watchAdd p q body) s = .next ((s.arrived p).replied p 0x11 q [0x16])) ∧
    ((s.bus b).config.enabled = true →
    ((a.toNat < 0x08 ∨ 0x77 < a.toNat ∨ (s.bus b).config.own = some (a.setWidth 7)) →
      exec (.watchAdd p q body) s = .next ((s.arrived p).replied p 0x11 q [0x13])) ∧
    (0x08 ≤ a.toNat → a.toNat ≤ 0x77 → (s.bus b).config.own ≠ some (a.setWidth 7) →
    ((2 < pointer.length ∨ mask = [] ∨ 4 < mask.length) →
      exec (.watchAdd p q body) s = .next ((s.arrived p).replied p 0x11 q [0x14])) ∧
    (pointer.length ≤ 2 → 1 ≤ mask.length → mask.length ≤ 4 → ((ph ++ pl).toNat < 10 ∨ 60000 < (ph ++ pl).toNat) →
      exec (.watchAdd p q body) s = .next ((s.arrived p).replied p 0x11 q [0x15]))))

/-- WATCH_REMOVE by the owner (R126): the pending reports and the place in the admission list go; with its read ACTIVE the
entry becomes REMOVING, else its queued read leaves its queue and the slot is FREE with the next generation. A REMOVING entry
is WRONG_STATE; before that, an id that resolves to nothing is UNKNOWN_ID, and an entry of another session, or of none,
WRONG_OWNER (R119). -/
def Obligations.WatchRemove : Prop :=
  (∀ (s : State) (p : PortIx) (q id : Byte), s.takes p 0x12 q [id] = true → (s.session p).state = .opened →
    (s.findWatch id = none → exec (.watchRemove p q [id]) s = .next ((s.arrived p).replied p 0x12 q [0x20])) ∧
    ∀ i e, s.findWatch id = some (i, e) → e.owner ≠ some p →
      exec (.watchRemove p q [id]) s = .next ((s.arrived p).replied p 0x12 q [0x21])) ∧
  ∀ (s : State) (p : PortIx) (q id : Byte) (i : Fin 12) (w : Watch), s.takes p 0x12 q [id] = true →
    (s.session p).state = .opened → s.findWatch id = some (i, w) → w.owner = some p →
    (w.state = .removing → exec (.watchRemove p q [id]) s = .next ((s.arrived p).replied p 0x12 q [0x22])) ∧
    (w.state ≠ .removing → w.read = .active → exec (.watchRemove p q [id]) s =
      .next ((((s.arrived p).putWatch i { w with
          state := .removing
          nextPeriod := none
          valueReport := none
          suspensionReport := none
          suspensionFirst := false }).modSession p fun x =>
        { x with admission := x.admission.filter fun y => decide (y ≠ .watch i) }).replied p 0x12 q [0x00, 1])) ∧
    (w.state ≠ .removing → w.read ≠ .active → exec (.watchRemove p q [id]) s =
      .next (((((s.arrived p).modSession p fun x =>
        { x with admission := x.admission.filter fun y => decide (y ≠ .watch i) }).setQueue w.bus
          ((s.bus w.bus).queue.filter fun y => !y.isWatch i)).freeWatch i).replied p 0x12 q [0x00, 0]))

/-- WATCH_PERIOD_EXPIRY of a RUNNING watch (R120): the next period lies one period on; on an enabled bus with read NONE a BULK
read joins the queue with the expiry time as its entry time; with a read QUEUED that read leaves the queue and the period is
skipped; with a read ACTIVE, or on a disabled bus, the period is skipped. And the end of a watch read (R121 to R124): at its
stop, which follows the NACK of its last byte, a value that differs under the mask from the pending report's, or with none
pending from the last reported, makes or renews the report, and an equal one does not (`ReadLeaves`); a failed read is
counted, and the third in a row suspends the watch with its report (`FailureLeaves`); the read of a REMOVING entry is
discarded and its slot freed; an attempt stopped by an abort leaves the failures as they are. Whatever command ends the
attempt (`EndsAttempt`: its stop, a loss, a bus error, a stretch timeout, a stuck line), its outcome reaches the watch in that
event, and the engine goes on as that end says, or into DISABLED on a disabled bus (R58, R70). Logs 17, 18, 27, 33 and 36. -/
def Obligations.WatchPeriodExpiry : Prop :=
  (∀ (s : State) (i : Fin 12) (w : Watch) (t : Clock), s.watch i = some w → w.state = .running →
    w.nextPeriod = some t → (s.clock - t).toNat < 2 ^ 31 →
    ((s.bus w.bus).config.enabled = true → w.read = .none → exec (.watchPeriodExpiry i) s =
      .next (((s.putWatch i { w with nextPeriod := some (t + w.period.setWidth 32), read := .queued }).join w.bus
        (.watchRead i .bulk t false)).settle)) ∧
    ((s.bus w.bus).config.enabled = true → w.read = .queued → exec (.watchPeriodExpiry i) s =
      .next (((s.putWatch i { w with
          nextPeriod := some (t + w.period.setWidth 32)
          skipped := satInc w.skipped
          read := .none }).setQueue w.bus ((s.bus w.bus).queue.filter fun y => !y.isWatch i)).settle)) ∧
    ((s.bus w.bus).config.enabled = false ∨ w.read = .active → exec (.watchPeriodExpiry i) s =
      .next ((s.putWatch i { w with
          nextPeriod := some (t + w.period.setWidth 32)
          skipped := satInc w.skipped }).settle))) ∧
  (∀ (s : State) (b : BusIx) (place : Place) (a : Attempt) (i : Fin 12) (w w' : Watch) (p : PortIx) (put : State),
    (s.bus b).engine = .active (some a) →
    (a.phase = .stop .naturalEnd ∨ (place ≠ .inByte 8 ∧ ∃ nack, a.phase = .readAck nack (.stop .naturalEnd))) →
    a.item = .watch i → s.watch i = some w → w.state ≠ .removing → w.owner = some p → (s.bus b).config.enabled = true →
    a.underDisable = false → ReadLeaves w a.readBytes s.clock w' →
    put = ((s.modBus b fun x => { x with
      line := .free
      counters := { x.counters with completedOk := satInc x.counters.completedOk } }).putWatch i w') →
    exec (.stopSeen b place) s = .next ((((if w'.valueReport = none ∧ w'.suspensionReport = none then put
      else put.offer p (.watch i)).setEngine b .idle).wake b).settle)) ∧
  (∀ (s : State) (b : BusIx) (place : Place) (a : Attempt) (i : Fin 12) (w w' : Watch) (p : PortIx) (put : State),
    (s.bus b).engine = .active (some a) → a.phase = .stop .addressNack → a.item = .watch i →
    s.watch i = some w → w.state ≠ .removing → w.bus = b → w.owner = some p → (s.bus b).config.enabled = true →
    a.underDisable = false → FailureLeaves w .nackAddress w' →
    put = ((s.modBus b fun x => { x with
      line := .free
      counters := { x.counters with failedFinal := satInc x.counters.failedFinal } }).putWatch i w') →
    exec (.stopSeen b place) s = .next ((((if w'.valueReport = none ∧ w'.suspensionReport = none then put
      else put.offer p (.watch i)).setEngine b .idle).wake b).settle)) ∧
  (∀ (s : State) (b : BusIx) (place : Place) (a : Attempt) (i : Fin 12) (w : Watch),
    (s.bus b).engine = .active (some a) →
    (a.phase = .stop .naturalEnd ∨ (place ≠ .inByte 8 ∧ ∃ nack, a.phase = .readAck nack (.stop .naturalEnd))) →
    a.item = .watch i → s.watch i = some w → w.state = .removing → (s.bus b).config.enabled = true →
    a.underDisable = false →
    exec (.stopSeen b place) s = .next (((((s.modBus b fun x => { x with
      line := .free
      counters := { x.counters with completedOk := satInc x.counters.completedOk } }).freeWatch i).setEngine b
        .idle).wake b).settle)) ∧
  (∀ (s : State) (a : Attempt) (e : AttemptEnd) (i : Fin 12) (w : Watch), s.watch i = some w →
    (w.state = .removing → s.watchOutcome i a e = s.freeWatch i) ∧
    (w.state ≠ .removing → e = .stoppedByAbort → s.watchOutcome i a e = s.putWatch i { w with read := .none }) ∧
    ∀ (p : PortIx) (w' : Watch) (status : Status) (put : State), w.state ≠ .removing → w.owner = some p →
      ((e = .ok ∧ ReadLeaves w a.readBytes s.clock w' ∧ put = s.putWatch i w') ∨
        (FailedRead e status ∧ FailureLeaves w status w' ∧ put = ((s.modBus w.bus fun x => { x with
          counters := { x.counters with failedFinal := satInc x.counters.failedFinal } }).putWatch i w'))) →
      s.watchOutcome i a e =
        if w'.valueReport = none ∧ w'.suspensionReport = none then put else put.offer p (.watch i)) ∧
  ∀ (s t : State) (b : BusIx) (a a' : Attempt) (i : Fin 12) (c : Instr) (e : AttemptEnd) (before : Bus → Bus)
    (next : State → State), (s.bus b).engine = .active (some a) → a.item = .watch i →
    EndsAttempt s b a c a' e before next → t = (s.modBus b before).watchOutcome i a' e →
    exec c s = .next (if (s.bus b).config.enabled = true then next t else toDisabled b t).settle

/-! ## Target service requests -/

/-- TARGET_OWN_ON and TARGET_OWN_OFF (R132, R141): an unowned unit is taken, the owner's own request changes nothing,
another's is IN_USE; the owner's release drops the outbound buffer, the deferred replacement, COMPLETE slots and the tally,
and marks a transfer in progress for discard; anyone else's is WRONG_OWNER. Before these, a bus above 3 is BAD_BUS and an
on/off value above 1 BAD_FIELD, whatever row carries the frame (log 4). -/
def Obligations.TargetOwn : Prop :=
  (∀ (c : Instr) (s : State) (p : PortIx) (q x on : Byte), frameOf c = some (p, 0x14, q, [x, on]) →
    s.takes p 0x14 q [x, on] = true → (s.session p).state = .opened →
    (3 < x.toNat → exec c s = .next ((s.arrived p).replied p 0x14 q [0x12])) ∧
    (x.toNat ≤ 3 → 1 < on.toNat → exec c s = .next ((s.arrived p).replied p 0x14 q [0x15]))) ∧
  ∀ (s : State) (p : PortIx) (q : Byte) (b : BusIx), (s.session p).state = .opened →
    (s.takes p 0x14 q [BitVec.ofNat 8 b.val, 1] = true →
      ((s.bus b).target.owner = none → exec (.targetOwnOn p q (BitVec.ofNat 8 b.val)) s =
        .next (((s.arrived p).modTarget b fun t => { t with owner := some p }).replied p 0x14 q [0x00])) ∧
      ((s.bus b).target.owner = some p →
        exec (.targetOwnOn p q (BitVec.ofNat 8 b.val)) s = .next ((s.arrived p).replied p 0x14 q [0x00])) ∧
      (∀ o, (s.bus b).target.owner = some o → o ≠ p →
        exec (.targetOwnOn p q (BitVec.ofNat 8 b.val)) s = .next ((s.arrived p).replied p 0x14 q [0x25]))) ∧
    (s.takes p 0x14 q [BitVec.ofNat 8 b.val, 0] = true →
      ((s.bus b).target.owner ≠ some p →
        exec (.targetOwnOff p q (BitVec.ofNat 8 b.val)) s = .next ((s.arrived p).replied p 0x14 q [0x21])) ∧
      ((s.bus b).target.owner = some p → ∃ u : State,
        exec (.targetOwnOff p q (BitVec.ofNat 8 b.val)) s = .next (u.replied p 0x14 q [0x00]) ∧
        u = ((s.arrived p).modTarget b fun _ => (u.bus b).target).modSession p (fun x =>
          { x with admission := x.admission.filter fun y => match y with
            | .inbound c _ => decide (c ≠ b)
            | .tally c => decide (c ≠ b)
            | _ => true }) ∧
        (u.bus b).target.owner = none ∧ (u.bus b).target.outbound = [] ∧ (u.bus b).target.deferred = none ∧
        (u.bus b).target.tally = none ∧ (u.bus b).target.reading = (s.bus b).target.reading ∧
        (∀ k : Fin 4, (u.bus b).target.slots[k] =
          if (s.bus b).target.slots[k].state = .complete then InSlot.empty else (s.bus b).target.slots[k]) ∧
        (u.bus b).target.discard = ((s.bus b).target.discard ||
          ((s.bus b).target.reading.isSome || decide (∃ k : Fin 4, (s.bus b).target.slots[k].state = .filling)))))

/-- TARGET_LOAD_REPLACE and TARGET_LOAD_APPEND by the owner (R139): at most 32 bytes; REPLACE sets the live buffer, or during
a read the deferred replacement; APPEND extends the deferred replacement when there is one, else the live buffer, and is
NO_ROOM past 32 bytes. Before these, for both modes and whatever row carries the frame (log 4): a bus above 3 is BAD_BUS,
another session WRONG_OWNER, a mode above 1 BAD_FIELD and a load of more than 32 bytes BAD_LENGTH; first of all, a body whose
length is not the one its byte count implies is MALFORMED (R182). -/
def Obligations.TargetLoad : Prop :=
  (∀ (c : Instr) (s : State) (p : PortIx) (q : Byte) (body : List Byte), frameOf c = some (p, 0x15, q, body) →
    s.takes p 0x15 q body = true → (s.session p).state = .opened →
    (body.length < 3 ∨ ∃ x mode count bytes, body = x :: mode :: count :: bytes ∧ bytes.length ≠ count.toNat) →
    exec c s = .next ((s.arrived p).replied p 0x15 q [0x10])) ∧
  (∀ (c : Instr) (s : State) (p : PortIx) (q x mode : Byte) (bytes body : List Byte),
    body = x :: mode :: BitVec.ofNat 8 bytes.length :: bytes → frameOf c = some (p, 0x15, q, body) →
    s.takes p 0x15 q body = true → (s.session p).state = .opened →
    (3 < x.toNat → exec c s = .next ((s.arrived p).replied p 0x15 q [0x12])) ∧
    ∀ b : BusIx, x.toNat = b.val →
      ((s.bus b).target.owner ≠ some p → exec c s = .next ((s.arrived p).replied p 0x15 q [0x21])) ∧
      ((s.bus b).target.owner = some p → 1 < mode.toNat → exec c s = .next ((s.arrived p).replied p 0x15 q [0x15])) ∧
      ((s.bus b).target.owner = some p → mode.toNat ≤ 1 → 32 < bytes.length →
        exec c s = .next ((s.arrived p).replied p 0x15 q [0x14]))) ∧
  ∀ (s : State) (p : PortIx) (q : Byte) (b : BusIx) (bytes : List Byte), (s.session p).state = .opened →
    (s.takes p 0x15 q (BitVec.ofNat 8 b.val :: 0 :: BitVec.ofNat 8 bytes.length :: bytes) = true →
      ((s.bus b).target.owner ≠ some p →
        exec (.targetLoadReplace p q (BitVec.ofNat 8 b.val) (BitVec.ofNat 8 bytes.length) bytes) s =
          .next ((s.arrived p).replied p 0x15 q [0x21])) ∧
      ((s.bus b).target.owner = some p → 32 < bytes.length →
        exec (.targetLoadReplace p q (BitVec.ofNat 8 b.val) (BitVec.ofNat 8 bytes.length) bytes) s =
          .next ((s.arrived p).replied p 0x15 q [0x14])) ∧
      ((s.bus b).target.owner = some p → bytes.length ≤ 32 → (s.bus b).target.reading = none →
        exec (.targetLoadReplace p q (BitVec.ofNat 8 b.val) (BitVec.ofNat 8 bytes.length) bytes) s =
          .next (((s.arrived p).modTarget b fun t => { t with outbound := bytes }).replied p 0x15 q
            [0x00, BitVec.ofNat 8 bytes.length])) ∧
      ((s.bus b).target.owner = some p → bytes.length ≤ 32 → (s.bus b).target.reading ≠ none →
        exec (.targetLoadReplace p q (BitVec.ofNat 8 b.val) (BitVec.ofNat 8 bytes.length) bytes) s =
          .next (((s.arrived p).modTarget b fun t => { t with deferred := some bytes }).replied p 0x15 q
            [0x03, BitVec.ofNat 8 bytes.length]))) ∧
    (s.takes p 0x15 q (BitVec.ofNat 8 b.val :: 1 :: BitVec.ofNat 8 bytes.length :: bytes) = true →
      (s.bus b).target.owner = some p → bytes.length ≤ 32 →
      ((s.bus b).target.deferred = none → (s.bus b).target.outbound.length + bytes.length ≤ 32 →
        exec (.targetLoadAppend p q (BitVec.ofNat 8 b.val) (BitVec.ofNat 8 bytes.length) bytes) s =
          .next (((s.arrived p).modTarget b fun t => { t with outbound := t.outbound ++ bytes }).replied p 0x15 q
            [0x00, BitVec.ofNat 8 ((s.bus b).target.outbound.length + bytes.length)])) ∧
      ((s.bus b).target.deferred = none → 32 < (s.bus b).target.outbound.length + bytes.length →
        exec (.targetLoadAppend p q (BitVec.ofNat 8 b.val) (BitVec.ofNat 8 bytes.length) bytes) s =
          .next ((s.arrived p).replied p 0x15 q [0x32])) ∧
      ∀ d, (s.bus b).target.deferred = some d →
        (d.length + bytes.length ≤ 32 →
          exec (.targetLoadAppend p q (BitVec.ofNat 8 b.val) (BitVec.ofNat 8 bytes.length) bytes) s =
            .next (((s.arrived p).modTarget b fun t => { t with deferred := some (d ++ bytes) }).replied p 0x15 q
              [0x03, BitVec.ofNat 8 (d.length + bytes.length)])) ∧
        (32 < d.length + bytes.length →
          exec (.targetLoadAppend p q (BitVec.ofNat 8 b.val) (BitVec.ofNat 8 bytes.length) bytes) s =
            .next ((s.arrived p).replied p 0x15 q [0x32])))

/-! ## Buses: requests -/

/-- BUS_CONFIGURE from the primary session with valid values (R174 to R177): the reply carries the configuration, engine state
and line state after it. An enabled bus left enabled keeps its rate class and own address or the request is WRONG_STATE; the
other values apply, nothing else changes, and a changed aging limit promotes the BULK items that reach it in this event (R33,
R175; TimesReached says how). Enabling a disabled bus brings its engine out of DISABLED and its monitor to UNKNOWN. Disabling
an enabled bus empties its queue; its engine and monitor are DISABLED and OFF at once, unless an attempt must finish under
abort. No other bus changes its configuration, engine or monitor. A disable ends each QUEUED record BUS_OFF and discards each
queued watch read, in queue order, then cuts off a target transfer, and offers BUS_EVENT DISABLED when the engine enters
DISABLED (R142, R177); an enable while an attempt still finishes leaves engine and monitor, and no enable offers an event
(R176). A bus above 3 is BAD_BUS, an own address that is none and outside 0x08 to 0x77 BAD_ADDRESS, and any other value
outside its range BAD_FIELD, in this order. -/
def Obligations.BusConfigure : Prop :=
  (∀ (s : State) (q : Byte) (b : BusIx) (en rate st sp ah al own fill : Byte) (c : BusConfig) (body : List Byte),
    body = [BitVec.ofNat 8 b.val, en, rate, st, sp, ah, al, own, fill] →
    s.takes 0 0x16 q body = true → (s.session 0).state = .opened →
    c = { enabled := decide (en = 1),
          rate := if rate = 1 then .c1 else if rate = 2 then .c2 else .c3,
          stretch := st, spacing := sp, aging := ah ++ al,
          own := if own = 0xFF then none else some (own.setWidth 7), fill := fill } →
    en.toNat ≤ 1 → 1 ≤ rate.toNat → rate.toNat ≤ 3 → st ≠ 0 → (ah ++ al = 0#16 ∨ 10 ≤ (ah ++ al).toNat) →
    (ah ++ al).toNat ≤ 10000 → (own = 0xFF ∨ (0x08 ≤ own.toNat ∧ own.toNat ≤ 0x77)) → s.busesCoherent →
    ((s.bus b).config.enabled = true → en = 1 →
      ((s.bus b).config.rate ≠ c.rate ∨ (s.bus b).config.own ≠ c.own) →
      exec (.busConfigure 0 q body) s = .next ((s.arrived 0).replied 0 0x16 q [0x22])) ∧
    (((s.bus b).config.enabled = true → en = 1 →
        (s.bus b).config.rate = c.rate ∧ (s.bus b).config.own = c.own) →
      ∃ u : State, exec (.busConfigure 0 q body) s = .next (u.replied 0 0x16 q
          (0x00 :: body ++ [engineCode (u.bus b).engine, lineCode (u.bus b).line])) ∧
        (u.bus b).config = c ∧
        ((s.bus b).config.enabled = true → en = 1 →
          (u.bus b).engine = (s.bus b).engine ∧ (u.bus b).line = (s.bus b).line) ∧
        ((s.bus b).config.enabled = false → (s.bus b).engine = .disabled → en = 1 →
          (u.bus b).line = .unknown ∧ ((u.bus b).engine = .idle ∨ (u.bus b).engine = .reserved false)) ∧
        ((s.bus b).config.enabled = false → (s.bus b).engine ≠ .disabled → en = 1 →
          (u.bus b).line = (s.bus b).line ∧ (u.bus b).engine = (s.bus b).engine) ∧
        (en = 1 → u.sessions = s.sessions) ∧
        ((s.bus b).config.enabled = true → en = 0 → (u.bus b).queue = [] ∧
          ((∀ a, (s.bus b).engine ≠ .active (some a)) →
            (u.bus b).engine = .disabled ∧ (u.bus b).line = .off ∧ (u.bus b).faultReason = none) ∧
          (∀ a, (s.bus b).engine = .active (some a) →
            (u.bus b).engine = .active (some { a with abortPending := true, underDisable := true }) ∧
            (u.bus b).line = (s.bus b).line)) ∧
        (∀ n, n ≠ b → (u.bus n).config = (s.bus n).config ∧ (u.bus n).engine = (s.bus n).engine ∧
          (u.bus n).line = (s.bus n).line) ∧
        u.leases = s.leases ∧ u.groups = s.groups ∧ u.clock = s.clock) ∧
    (∀ kept : State, (s.bus b).config.enabled = true → en = 1 → (s.bus b).config.rate = c.rate →
      (s.bus b).config.own = c.own → kept = ((s.arrived 0).modBus b fun x => { x with config := c }) →
      exec (.busConfigure 0 q body) s =
        .next ((if c.aging = (s.bus b).config.aging then kept else kept.promoteDue b).replied 0 0x16 q
          (0x00 :: body ++ [engineCode (s.bus b).engine, lineCode (s.bus b).line]))) ∧
    ∀ off cleared : State, (s.bus b).config.enabled = true → en = 0 →
      off = ((s.arrived 0).modBus b fun x => { x with config := { x.config with enabled := false }, queue := [] }) →
      cleared = (s.bus b).queue.foldl (fun acc it => match it with
        | .record i => acc.finishRecord i .busOff none 0 []
        | .watchRead w _ _ _ => match acc.watch w with
          | none => acc
          | some y => acc.putWatch w { y with read := .none }) off →
      (∀ a w, (s.bus b).engine = .active (some a) → a.item = .watch w → exec (.busConfigure 0 q body) s = .next
        ((cleared.modBus b fun x => { x with
          config := c
          engine := .active (some { a with abortPending := true, underDisable := true }) }).replied 0 0x16 q
          (0x00 :: body ++ [3, lineCode (s.bus b).line]))) ∧
      (∀ a i r, (s.bus b).engine = .active (some a) → a.item = .record i → cleared.record i = some r →
        exec (.busConfigure 0 q body) s = .next
        (((cleared.putRecord i { r with abortPending := true }).modBus b fun x => { x with
          config := c
          engine := .active (some { a with abortPending := true, underDisable := true }) }).replied 0 0x16 q
          (0x00 :: body ++ [3, lineCode (s.bus b).line]))) ∧
      ∀ cut : State, ((s.bus b).engine = .target → cut = cleared.cutOff b) →
        ((s.bus b).engine ≠ .target → cut = cleared) → (∀ a, (s.bus b).engine ≠ .active (some a)) →
        exec (.busConfigure 0 q body) s = .next ((((cut.modBus b fun x => { x with
          engine := .disabled
          line := .off
          following := false
          faultReason := none }).offerBusEvent b .disabled).modBus b fun x => { x with config := c }).replied 0 0x16 q
          (0x00 :: body ++ [0, 0]))) ∧
  (∀ (s : State) (b : BusIx),
    ((s.bus b).target.reading = none → (∀ j : Fin 4, (s.bus b).target.slots[j].state ≠ .filling) → s.cutOff b = s) ∧
    (∀ k : Fin 4, (s.bus b).target.reading = none → (s.bus b).target.slots[k].state = .filling →
      (∀ j : Fin 4, j < k → (s.bus b).target.slots[j].state ≠ .filling) →
      (∀ p, (s.bus b).target.owner = some p → (s.bus b).target.discard = false → s.cutOff b = (s.modBus b fun x => { x with
        counters := { x.counters with targetWrites := satInc x.counters.targetWrites }
        target := { x.target with
          slots := x.target.slots.set k
            ({ x.target.slots[k] with
               state := .complete
               followedByRead := false
               completionTime := some s.clock } : InSlot) } }).offer p (.inbound b k)) ∧
      ((s.bus b).target.discard = true → s.cutOff b = s.modBus b fun x => { x with
        counters := { x.counters with targetWrites := satInc x.counters.targetWrites }
        target := { x.target with slots := x.target.slots.set k InSlot.empty, discard := false } })) ∧
    ((∀ j : Fin 4, (s.bus b).target.slots[j].state ≠ .filling) → ∀ r, (s.bus b).target.reading = some r →
      ∀ (buffer : List Byte) (ended : State),
      buffer = (match (s.bus b).target.deferred with | none => (s.bus b).target.outbound | some d => d) →
      ended = (s.modBus b fun x => { x with
        counters := { x.counters with targetReads := satInc x.counters.targetReads }
        target := { x.target with reading := none, deferred := none, outbound := buffer, discard := false } }) →
      (((s.bus b).target.discard = true ∨ (s.bus b).target.owner = none) → s.cutOff b = ended) ∧
      ∀ p, (s.bus b).target.discard = false → (s.bus b).target.owner = some p →
        ((s.session p).maskTargetRead = false → s.cutOff b = ended) ∧
        ∀ tally : Tally, (s.session p).maskTargetRead = true →
          tally = (match (s.bus b).target.tally with
            | none =>
              { reads := 1, fromBuffer := satOf r.fromBuffer, fillBytes := satOf r.fillBytes, lastEnd := s.clock,
                remaining := buffer.length }
            | some t =>
              { reads := satInc t.reads, fromBuffer := satOf (t.fromBuffer.toNat + r.fromBuffer),
                fillBytes := satOf (t.fillBytes.toNat + r.fillBytes), lastEnd := s.clock, remaining := buffer.length }) →
          s.cutOff b = (ended.modBus b fun x => { x with
            target := { x.target with tally := some tally } }).offer p (.tally b))) ∧
  ∀ (s : State) (q x en rate st sp ah al own fill : Byte) (body : List Byte),
    body = [x, en, rate, st, sp, ah, al, own, fill] → s.takes 0 0x16 q body = true → (s.session 0).state = .opened →
    (3 < x.toNat → exec (.busConfigure 0 q body) s = .next ((s.arrived 0).replied 0 0x16 q [0x12])) ∧
    (x.toNat ≤ 3 → own ≠ 0xFF → (own.toNat < 0x08 ∨ 0x77 < own.toNat) →
      exec (.busConfigure 0 q body) s = .next ((s.arrived 0).replied 0 0x16 q [0x13])) ∧
    (x.toNat ≤ 3 → (own = 0xFF ∨ (0x08 ≤ own.toNat ∧ own.toNat ≤ 0x77)) →
      (1 < en.toNat ∨ rate = 0 ∨ 3 < rate.toNat ∨ st = 0 ∨ (1 ≤ (ah ++ al).toNat ∧ (ah ++ al).toNat ≤ 9) ∨
        10000 < (ah ++ al).toNat) →
      exec (.busConfigure 0 q body) s = .next ((s.arrived 0).replied 0 0x16 q [0x15]))

/-- BUS_RECOVER (R80, R86): on an enabled bus whose engine is IDLE, RESERVED or FAULT the engine enters RECOVERY with no
pulses, marked as begun from FAULT or not, and the counter moves. With CLK low at entry it stays in WAIT_CLOCK; with CLK high
the wait ends in the same event: in PULSING with DAT low, in STOPPING with DAT high, and on a FREE bus with the end of
recovery, whose event RECOVERED RELEASED is offered after a FAULT alone. In any other engine state it is WRONG_STATE, on a
disabled bus BUS_OFF, for a bus above 3 BAD_BUS. That the levels at entry come with the command is log 28. -/
def Obligations.BusRecover : Prop :=
  (∀ (s : State) (p : PortIx) (q x : Byte) (lines : Option Bool), s.takes p 0x17 q [x] = true →
    (s.session p).state = .opened → 3 < x.toNat →
    exec (.busRecover p q { bytes := [x], atEntry := lines }) s = .next ((s.arrived p).replied p 0x17 q [0x12])) ∧
  ∀ (s : State) (p : PortIx) (q : Byte) (b : BusIx) (lines : Option Bool),
    s.takes p 0x17 q [BitVec.ofNat 8 b.val] = true → (s.session p).state = .opened →
    ((s.bus b).config.enabled = false →
      exec (.busRecover p q { bytes := [BitVec.ofNat 8 b.val], atEntry := lines }) s =
        .next ((s.arrived p).replied p 0x17 q [0x16])) ∧
    ((s.bus b).config.enabled = true → (s.bus b).line ≠ .free →
      ((s.bus b).engine = .idle ∨ (∃ w, (s.bus b).engine = .reserved w) ∨ (s.bus b).engine = .fault) →
      exec (.busRecover p q { bytes := [BitVec.ofNat 8 b.val], atEntry := lines }) s = .next ((((s.arrived p).respond p 0x17 q
        (replyTo 0x17 q [0x00])).modBus b fun x => { x with
          engine := .recovery
            { step := match lines with | none => .waitClock | some false => .pulsing | some true => .stopping
              pulses := 0
              fromFault := decide ((s.bus b).engine = .fault) }
          following := false
          counters := { x.counters with recoveries := satInc x.counters.recoveries } }).settle)) ∧
    ((s.bus b).config.enabled = true → (s.bus b).line = .free →
      ((s.bus b).engine = .idle ∨ (∃ w, (s.bus b).engine = .reserved w) ∨ (s.bus b).engine = .fault) →
      ∀ ended : State, ended = ((s.arrived p).modBus b fun x => { x with
          engine := .idle
          following := false
          faultReason := none
          counters := { x.counters with recoveries := satInc x.counters.recoveries } }) →
      exec (.busRecover p q { bytes := [BitVec.ofNat 8 b.val], atEntry := lines }) s =
        .next (((if (s.bus b).engine = .fault then ended.offerBusEvent b (.recovered .released) else ended).wake
          b).replied p 0x17 q [0x00])) ∧
    ((s.bus b).config.enabled = true →
      ((∃ a, (s.bus b).engine = .active a) ∨ (s.bus b).engine = .target ∨ ∃ r, (s.bus b).engine = .recovery r) →
      exec (.busRecover p q { bytes := [BitVec.ofNat 8 b.val], atEntry := lines }) s =
        .next ((s.arrived p).replied p 0x17 q [0x22]))

/-! ## Times reached -/

/-- DEADLINE_EXPIRY, NOT_BEFORE_REACHED and AGING_PROMOTION (R17, R31 to R34): a QUEUED record whose deadline time is reached
leaves its queue and ends EXPIRED; a QUEUED record's not-before time is a wake event when reached: an IDLE engine reserves for
that record, when no lease keeps it back; BULK items whose age reaches the limit become NORMAL in that one event, records and
watch reads, the first of them in the queue first: each leaves its place, joins the NORMAL items with its entry time, and the
rest follow (R32, R33). A RUNNING watch whose next period time is reached, with read NONE on an enabled bus, adds its BULK
read (R120; the other cases are WatchPeriodExpiry's). -/
def Obligations.TimesReached : Prop :=
  (∀ (s : State) (i : Fin 64) (r : Record) (t : Clock), s.record i = some r → r.state = .queued →
    r.deadlineTime = some t → (s.clock - t).toNat < 2 ^ 31 →
    exec (.deadlineExpiry i) s =
      .next (((s.setQueue r.bus ((s.bus r.bus).queue.filter fun y => decide (y ≠ .record i))).finishRecord i .expired
        none 0 []).settle)) ∧
  (∀ (s : State) (i : Fin 64) (r : Record) (t : Clock), s.record i = some r → r.state = .queued →
    r.notBefore = some t → ((s.clock - t).toNat < 2 ^ 31 ∨ r.spacingOver = true) →
    exec (.notBeforeReached i) s = .next (s.wake r.bus).settle) ∧
  (∀ (s : State) (i : Fin 64) (r : Record) (t : Clock), s.record i = some r → r.state = .queued →
    r.notBefore = some t → (s.clock - t).toNat < 2 ^ 31 → (s.bus r.bus).engine = .idle →
    .record i ∈ (s.bus r.bus).queue → s.leasedAway r.bus (.record i) = false →
    exec (.notBeforeReached i) s =
      .next (s.modBus r.bus fun x => { x with engine := .reserved (decide (x.line = .free)) }).settle) ∧
  (∀ (s : State) (b : BusIx) (before after : List QItem) (i : Fin 64) (r : Record),
    (s.bus b).queue = before ++ .record i :: after → s.record i = some r → r.cls = .bulk →
    (s.bus b).config.aging ≠ 0 → (s.bus b).config.aging.toNat ≤ s.itemAge (.record i) →
    (∀ y ∈ before ++ after, y ≠ .record i ∧
      ¬(s.itemClass y = .bulk ∧ (s.bus b).config.aging.toNat ≤ s.itemAge y)) →
    exec (.agingPromotion b) s =
      .next ((((s.setQueue b (before ++ after)).putRecord i { r with cls := .normal }).enqueue b (.record i)).settle)) ∧
  (∀ (s : State) (b : BusIx), (s.bus b).config.aging = 0 → exec (.agingPromotion b) s = .next s.settle) ∧
  (∀ (s : State) (b : BusIx), exec (.agingPromotion b) s = .next (s.promoteDue b).settle) ∧
  (∀ (s promoted : State) (b : BusIx) (due : QItem → Prop) (before after : List QItem) (it : QItem),
    (∀ y, due y ↔ s.itemClass y = .bulk ∧ (s.bus b).config.aging ≠ 0 ∧ (s.bus b).config.aging.toNat ≤ s.itemAge y) →
    (s.bus b).queue = before ++ it :: after → it ∉ before ++ after → due it → (∀ y ∈ before, ¬due y) →
    ((∃ i r, it = .record i ∧ s.record i = some r ∧
        promoted = ((s.setQueue b (before ++ after)).putRecord i { r with cls := .normal }).enqueue b (.record i)) ∨
      ∃ w entry stopped, it = .watchRead w .bulk entry stopped ∧
        promoted = (s.setQueue b (before ++ after)).enqueue b (.watchRead w .normal entry stopped)) →
    s.promoteDue b = promoted.promoteDue b) ∧
  (∀ (s : State) (b : BusIx),
    (∀ y ∈ (s.bus b).queue, ¬(s.itemClass y = .bulk ∧ (s.bus b).config.aging ≠ 0 ∧
      (s.bus b).config.aging.toNat ≤ s.itemAge y)) → s.promoteDue b = s) ∧
  ∀ (s : State) (i : Fin 12) (w : Watch) (t : Clock), s.watch i = some w → w.state = .running →
    w.nextPeriod = some t → (s.clock - t).toNat < 2 ^ 31 → (s.bus w.bus).config.enabled = true → w.read = .none →
    exec (.watchPeriodExpiry i) s =
      .next ((s.putWatch i { w with nextPeriod := some (t + w.period.setWidth 32), read := .queued }).join w.bus
        (.watchRead i .bulk t false)).settle

/-- An item that joins a queue is added to it, before the first item that does not stand before it: every item ahead of it is
of a higher class, or of its own class and as old or older, and the next one is not; a queue in that order stays in it (R27,
R28, ties included). Joining is a wake event, and on a wake event an IDLE engine with an eligible item reserves, with the
bus-free wait running on a FREE bus; any other engine, and any other queue, is left as it is (R36, R37). -/
def Obligations.JoiningKeepsQueueOrder : Prop :=
  (∀ (s : State) (x : QItem) (q : List QItem),
    q.Pairwise (fun y z => s.standsBefore y z = true) →
    (s.insertItem x q).Pairwise fun y z => s.standsBefore y z = true) ∧
  (∀ (s : State) (x : QItem) (q : List QItem), ∃ front back, q = front ++ back ∧
    s.insertItem x q = front ++ x :: back ∧ (∀ y ∈ front, s.standsBefore y x = true) ∧
    ∀ y, back.head? = some y → s.standsBefore y x = false) ∧
  (∀ (s : State) (y x : QItem), s.standsBefore y x = true ↔
    (s.itemClass y).rank < (s.itemClass x).rank ∨ (s.itemClass y = s.itemClass x ∧ s.itemAge x ≤ s.itemAge y)) ∧
  Cls.rank .urgent < Cls.rank .normal ∧ Cls.rank .normal < Cls.rank .bulk ∧
  (∀ (s : State) (b : BusIx) (x : QItem),
    s.join b x = (s.modBus b fun y => { y with queue := s.insertItem x y.queue }).wake b) ∧
  ∀ (s : State) (b : BusIx),
    ((s.bus b).engine = .idle → (∃ y ∈ (s.bus b).queue, s.isEligible b y = true) →
      s.wake b = s.modBus b fun y => { y with engine := .reserved (decide (y.line = .free)) }) ∧
    ((s.bus b).engine ≠ .idle ∨ (∀ y ∈ (s.bus b).queue, s.isEligible b y = false) → s.wake b = s)

/-! ## Bus events -/

/-- BUS_FREE_WAIT_END (R40, R41, R60, R61): the first eligible item in queue order leaves the queue and becomes the engine's
fresh attempt, a record ACTIVE with one attempt more and no not-before time, a watch's read ACTIVE; the monitor goes BUSY.
With no eligible item the engine goes IDLE. -/
def Obligations.BusFreeWaitEnd : Prop :=
  ∀ (s : State) (b : BusIx), (s.bus b).engine = .reserved true →
    (∀ (before after : List QItem) (i : Fin 64) (r : Record), (s.bus b).queue = before ++ .record i :: after →
      (∀ y ∈ before, s.isEligible b y = false) → s.isEligible b (.record i) = true → s.record i = some r →
      exec (.busFreeWaitEnd b) s = .next (((s.putRecord i { r with
          state := .active
          notBefore := none
          spacingOver := false
          attempts := r.attempts + 1 }).modBus b fun x => { x with
            queue := x.queue.filter fun y => decide (y ≠ .record i)
            engine := .active (some (
              { item := .record i, segments := r.segments, rate := x.config.rate, segIndex := 1,
                byteIndex := 0, anyAcked := false, abortPending := false, written := 0, readBytes := [],
                phase := .inByte, underDisable := false } : Attempt))
            line := .busy
            following := false }).settle)) ∧
    (∀ (before after : List QItem) (i : Fin 12) (c : Cls) (t : Clock) (z : Bool) (w : Watch),
      (s.bus b).queue = before ++ .watchRead i c t z :: after →
      (∀ y ∈ before, s.isEligible b y = false) → s.isEligible b (.watchRead i c t z) = true → s.watch i = some w →
      exec (.busFreeWaitEnd b) s = .next (((s.putWatch i { w with read := .active }).modBus b fun x => { x with
            queue := x.queue.filter fun y => !y.isWatch i
            engine := .active (some (
              { item := .watch i,
                segments := if w.pointer = [] then [.read w.addr w.readLen]
                  else [.write w.addr w.pointer, .read w.addr w.readLen],
                rate := x.config.rate, segIndex := 1, byteIndex := 0, anyAcked := false, abortPending := false,
                written := 0, readBytes := [], phase := .inByte, underDisable := false } : Attempt))
            line := .busy
            following := false }).settle)) ∧
    ((∀ y ∈ (s.bus b).queue, s.isEligible b y = false) →
      exec (.busFreeWaitEnd b) s = .next ((s.modBus b fun x => { x with engine := .idle }).settle))

/-- Eligibility and what selection makes of it (R30): an item is eligible exactly when its not-before time, if any, has been
reached, now or at an earlier tick (R31, log 9), and no address of it lies in another session's GRANTED lease on the bus; a
record is judged by all its segment addresses for its owner, a watch read by the watch's address for the watch's owner; and
the end of a bus-free wait passes over the ineligible items, which stay where they stand, as they are. When it gives the
engine a record's or a watch's attempt, the bus is enabled, its monitor was FREE, and the record, or the watch's read, was
eligible (the law of R40 and R61, with the bus laws as premise). -/
def Obligations.EligibilityAndSelection : Prop :=
  (∀ (s : State) (b : BusIx) (it : QItem), s.isEligible b it = true ↔
    (∀ n, s.itemNotBefore it = some n → s.itemSpacingOver it = true ∨ (s.clock - n).toNat < 2 ^ 31) ∧
    ∀ j e, s.lease j = some e → e.state = .granted → e.bus = b → s.itemOwner it ≠ some e.owner →
      ∀ a ∈ s.itemAddrs it, ¬(e.low.toNat ≤ a.toNat ∧ a.toNat ≤ e.high.toNat)) ∧
  (∀ (s : State) (i : Fin 64) (r : Record), s.record i = some r →
    s.itemNotBefore (.record i) = r.notBefore ∧ s.itemSpacingOver (.record i) = r.spacingOver ∧
      s.itemOwner (.record i) = some r.owner ∧
      s.itemAddrs (.record i) = r.segments.map Segment.addr) ∧
  (∀ (s : State) (i : Fin 12) (c : Cls) (t : Clock) (z : Bool) (w : Watch), s.watch i = some w →
    s.itemNotBefore (.watchRead i c t z) = none ∧ s.itemOwner (.watchRead i c t z) = w.owner ∧
      s.itemAddrs (.watchRead i c t z) = [w.addr]) ∧
  (∀ (s t : State) (b : BusIx), exec (.busFreeWaitEnd b) s = .next t →
    (t.bus b).queue.filter (fun y => !s.isEligible b y) = ((s.bus b).queue.filter fun y => !s.isEligible b y) ∧
      ∀ i, s.isEligible b (.record i) = false → t.record i = s.record i) ∧
  (∀ (s t : State) (b : BusIx) (i : Fin 64), s.busesCoherent → (∀ a, (s.bus b).engine ≠ .active a) →
    exec (.busFreeWaitEnd b) s = .next t → (t.bus b).engine.runs (.record i) = true →
    (s.bus b).config.enabled = true ∧ (s.bus b).line = .free ∧ s.isEligible b (.record i) = true) ∧
  ∀ (s t : State) (b : BusIx) (i : Fin 12), s.busesCoherent → (∀ a, (s.bus b).engine ≠ .active a) →
    exec (.busFreeWaitEnd b) s = .next t → (t.bus b).engine.runs (.watch i) = true →
    (s.bus b).config.enabled = true ∧ (s.bus b).line = .free ∧
      ∃ c entry z, .watchRead i c entry z ∈ (s.bus b).queue ∧ s.isEligible b (.watchRead i c entry z) = true

/-- ADDRESS_BYTE_ACKNOWLEDGE, WRITE_BYTE_ACKNOWLEDGE and READ_BYTE_RECEIVED (R62 to R65, R68): what each acknowledge or byte
does to the attempt. At a segment's end: the natural end after the last segment, else a stop under abort, else a repeated
start. Inside a segment: a stop under abort, else the next byte. A later byte of a READ segment follows the acknowledge bit of
the one before it. Where the 3400's own repeated start was not reported, the end of the next segment's address byte is
reported with it made: segment index one more (log 7). The engine sends the segment's address and direction as its address
byte, and the data bytes of a WRITE in order (R47); it sends no byte of a READ. -/
def Obligations.AttemptBytes : Prop :=
  (∀ (s : State) (b : BusIx) (a : Attempt) (g : Segment) (inside ended : Boundary),
    (s.bus b).engine = .active (some a) → a.phase = .inByte → a.segments[a.segIndex - 1]? = some g →
    inside = (if a.abortPending = true then .stop .aborted else .nextByte) →
    ended = (if a.segments.length ≤ a.segIndex then .stop .naturalEnd
      else if a.abortPending = true then .stop .aborted else .repeatedStart) →
    (a.byteIndex = 0 → exec (.addressByteAcknowledge b false) s = .next (s.modBus b fun x => { x with
        counters := { x.counters with addressNacks := satInc x.counters.addressNacks }
        engine := .active (some { a with byteIndex := 1, phase := .stop .addressNack }) }).settle) ∧
    (a.byteIndex = 0 → exec (.addressByteAcknowledge b true) s = .next (s.modBus b fun x => { x with
        engine := .active (some { a with
          byteIndex := 1
          phase := (if g.count = 0 then ended else inside).phase }) }).settle) ∧
    (a.byteIndex ≠ 0 → g.dir = .write → exec (.writeByteAcknowledge b false) s = .next (s.modBus b fun x => { x with
        counters := { x.counters with dataNacks := satInc x.counters.dataNacks }
        engine := .active (some { a with byteIndex := a.byteIndex + 1, phase := .stop .dataNack }) }).settle) ∧
    (a.byteIndex ≠ 0 → g.dir = .write → exec (.writeByteAcknowledge b true) s = .next (s.modBus b fun x => { x with
        engine := .active (some { a with
          byteIndex := a.byteIndex + 1
          written := a.written + 1
          anyAcked := true
          phase := (if g.count ≤ a.byteIndex then ended else inside).phase }) }).settle) ∧
    ∀ y : Byte, a.byteIndex ≠ 0 → g.dir = .read → exec (.readByteReceived b y) s = .next (s.modBus b fun x => { x with
        engine := .active (some { a with
          byteIndex := a.byteIndex + 1
          readBytes := a.readBytes ++ [y]
          phase := .readAck (decide (g.count ≤ a.byteIndex) || a.abortPending)
            (if g.count ≤ a.byteIndex then ended else inside) }) }).settle) ∧
  (∀ (s : State) (b : BusIx) (a : Attempt) (addr : Addr) (n : Nat) (nack : Bool) (inside ended : Boundary) (y : Byte),
    (s.bus b).engine = .active (some a) → a.phase = .readAck nack .nextByte →
    a.segments[a.segIndex - 1]? = some (.read addr n) → a.byteIndex ≠ 0 →
    inside = (if a.abortPending = true then .stop .aborted else .nextByte) →
    ended = (if a.segments.length ≤ a.segIndex then .stop .naturalEnd
      else if a.abortPending = true then .stop .aborted else .repeatedStart) →
    exec (.readByteReceived b y) s = .next (s.modBus b fun x => { x with
        engine := .active (some { a with
          byteIndex := a.byteIndex + 1
          readBytes := a.readBytes ++ [y]
          phase := .readAck (decide (n ≤ a.byteIndex) || a.abortPending)
            (if n ≤ a.byteIndex then ended else inside) }) }).settle) ∧
  (∀ (s : State) (b : BusIx) (a : Attempt) (g : Segment) (inside ended : Boundary),
    (s.bus b).engine = .active (some a) →
    (a.phase = .repeatedStart ∨ ∃ nack, a.phase = .readAck nack .repeatedStart) → a.segments[a.segIndex]? = some g →
    inside = (if a.abortPending = true then .stop .aborted else .nextByte) →
    ended = (if a.segments.length ≤ a.segIndex + 1 then .stop .naturalEnd
      else if a.abortPending = true then .stop .aborted else .repeatedStart) →
    exec (.addressByteAcknowledge b false) s = .next (s.modBus b fun x => { x with
        counters := { x.counters with addressNacks := satInc x.counters.addressNacks }
        engine := .active (some { a with
          segIndex := a.segIndex + 1
          byteIndex := 1
          phase := .stop .addressNack }) }).settle ∧
    exec (.addressByteAcknowledge b true) s = .next (s.modBus b fun x => { x with
        engine := .active (some { a with
          segIndex := a.segIndex + 1
          byteIndex := 1
          phase := (if g.count = 0 then ended else inside).phase }) }).settle) ∧
  ∀ (x : Bus) (a : Attempt) (g : Segment), x.engine = .active (some a) → a.phase = .inByte →
    a.segments[a.segIndex - 1]? = some g →
    (a.byteIndex = 0 → ∃ sent : Byte, x.drive = .asMaster a.rate (some sent) ∧
      sent.toNat = 2 * g.addr.toNat + (if g.dir = .read then 1 else 0)) ∧
    (∀ addr data, a.byteIndex ≠ 0 → g = .write addr data → x.drive = .asMaster a.rate data[a.byteIndex - 1]?) ∧
    (∀ addr n, a.byteIndex ≠ 0 → g = .read addr n → x.drive = .asMaster a.rate none)

/-- START_SEEN and STOP_SEEN (R38, R39, R51, R65, R66): a foreign start makes the monitor BUSY, the engine follows the address
byte, and a running bus-free wait is abandoned; the 3400's own repeated start begins the next segment's address byte. A stop
makes the monitor FREE; the attempt's own stop ends it, after the NACK of a READ's last byte too: at a natural end the
completed OK counter moves and the record of an OPEN session ends OK with its bytes; after a data NACK it ends NACK_DATA at
its segment and failed final moves; the engine goes IDLE and looks at its queue. After an address NACK the record is retried
or ends by R76 (one that expires as it joins moves no failed final counter and is promoted all the same: log 20); stopped by
an abort it ends ABORTED, or BUS_OFF on a disabled bus, whose engine and monitor then are DISABLED and OFF (R19, R58); a
record whose session is not OPEN is freed silently, and the last one closes a CLOSING session (R22, R149). An abort honoured
by the NACK of a read byte, and one taken in that bit, stops the attempt at that boundary (R68; log 36). A stop seen while the
engine makes its stop is its own, wherever it is seen (log 33). A reservation begins its bus-free wait. In an address tail a
start or a stop abandons the tail: the engine goes IDLE and looks at its queue, and the monitor follows what it sees (R74). A
start of the 3400's own on an engine without an attempt belongs to the event that began the attempt (log 7). -/
def Obligations.StartsAndStops : Prop :=
  (∀ (s : State) (b : BusIx) (place : Place), (s.bus b).engine = .active none →
    exec (.startSeen b .foreign place) s =
      .next ((s.modBus b fun x => { x with line := .busy, following := true, engine := .idle }).wake b).settle ∧
    exec (.stopSeen b place) s = .next ((s.modBus b fun x => { x with line := .free, engine := .idle }).wake b).settle) ∧
  (∀ (s : State) (b : BusIx) (place : Place), (∀ a, (s.bus b).engine ≠ .active (some a)) →
    exec (.startSeen b .broker place) s = .next s.settle) ∧
  (∀ (s : State) (b : BusIx) (place : Place) (a : Attempt) (i : Fin 64) (r : Record) (ended : State),
    (s.bus b).engine = .active (some a) → a.item = .record i → s.record i = some r → r.bus = b →
    (s.session r.owner).state = .opened →
    (((a.phase = .stop .naturalEnd ∨ (place ≠ .inByte 8 ∧ a.makesStop .naturalEnd (place = .boundary))) ∧
        ended = ((s.modBus b fun x => { x with
          line := .free
          counters := { x.counters with completedOk := satInc x.counters.completedOk } }).finishRecord i .ok none
            (a.written + a.readBytes.length) a.readBytes)) ∨
      (a.phase = .stop .dataNack ∧
        ended = ((s.modBus b fun x => { x with
          line := .free
          counters := { x.counters with failedFinal := satInc x.counters.failedFinal } }).finishRecord i .nackData
            (some a.segIndex) (a.written + a.readBytes.length) a.readBytes)) ∨
      ((a.phase = .stop .aborted ∨ (place ≠ .inByte 8 ∧ a.makesStop .aborted (place = .boundary))) ∧
        ended = ((s.modBus b fun x => { x with
          line := .free
          counters := { x.counters with failedFinal := satInc x.counters.failedFinal } }).finishRecord i
            (if (s.bus b).config.enabled = true then .aborted else .busOff) (some a.segIndex)
            (a.written + a.readBytes.length) a.readBytes))) →
    ((s.bus b).config.enabled = true → a.underDisable = false →
      exec (.stopSeen b place) s = .next ((ended.setEngine b .idle).wake b).settle) ∧
    ((s.bus b).config.enabled = true → a.underDisable = true →
      exec (.stopSeen b place) s =
        .next (((ended.modBus b fun x => { x with line := .unknown, engine := .idle }).wake b).settle)) ∧
    ((s.bus b).config.enabled = false →
      exec (.stopSeen b place) s = .next ((ended.modBus b fun x => { x with
        engine := .disabled
        line := .off
        following := false
        faultReason := none }).offerBusEvent b .disabled).settle)) ∧
  (∀ (s : State) (b : BusIx) (place : Place), (s.bus b).engine = .idle ∨ (s.bus b).engine = .fault →
    exec (.stopSeen b place) s = .next (s.modBus b fun x => { x with line := .free, following := false }).settle) ∧
  (∀ (s : State) (b : BusIx) (place : Place) (w : Bool), (s.bus b).engine = .reserved w →
    exec (.stopSeen b place) s = .next (s.modBus b fun x => { x with
      line := .free
      following := false
      engine := .reserved true }).settle) ∧
  (∀ (s : State) (b : BusIx) (place : Place), (s.bus b).engine = .disabled →
    exec (.stopSeen b place) s = .next s.settle) ∧
  (∀ (s : State) (b : BusIx) (place : Place), (s.bus b).engine = .idle ∨ (s.bus b).engine = .fault →
    exec (.startSeen b .foreign place) s =
      .next (s.modBus b fun x => { x with line := .busy, following := true }).settle) ∧
  (∀ (s : State) (b : BusIx) (place : Place) (w : Bool), (s.bus b).engine = .reserved w →
    exec (.startSeen b .foreign place) s = .next (s.modBus b fun x => { x with
      line := .busy
      following := true
      engine := .reserved false }).settle) ∧
  (∀ (s : State) (b : BusIx) (place : Place) (a : Attempt), (s.bus b).engine = .active (some a) →
    (a.phase = .repeatedStart ∨ ∃ nack, a.phase = .readAck nack .repeatedStart) →
    exec (.startSeen b .broker place) s = .next (s.modBus b fun x => { x with
      line := .busy
      engine := .active (some { a with segIndex := a.segIndex + 1, byteIndex := 0, phase := .inByte }) }).settle) ∧
  (∀ (s : State) (b : BusIx) (maker : Maker) (place : Place), (s.bus b).engine = .disabled →
    exec (.startSeen b maker place) s = .next s.settle) ∧
  (∀ (s : State) (b : BusIx) (place : Place) (a : Attempt) (i : Fin 64) (r : Record) (free : State) (c : Cls) (n : Nat),
    (s.bus b).engine = .active (some a) → a.phase = .stop .addressNack → a.item = .record i → s.record i = some r →
    r.bus = b → (s.session r.owner).state = .opened → (s.bus b).config.enabled = true → a.underDisable = false →
    free = (s.modBus b fun x => { x with line := .free }) → n = a.written + a.readBytes.length →
    c = (if r.cls = .bulk ∧ (s.bus b).config.aging ≠ 0 ∧ (s.bus b).config.aging.toNat ≤ s.itemAge (.record i) then .normal
      else r.cls) →
    ((r.retryNack = false ∨ (r.abortPending = false ∧ r.budget < r.attempts)) → exec (.stopSeen b place) s =
      .next (((((free.countBus b fun k => { k with failedFinal := satInc k.failedFinal }).finishRecord i .nackAddress
        (some a.segIndex) n a.readBytes).setEngine b .idle).wake b).settle)) ∧
    (r.retryNack = true → r.abortPending = true → exec (.stopSeen b place) s =
      .next (((((free.countBus b fun k => { k with failedFinal := satInc k.failedFinal }).finishRecord i .aborted
        (some a.segIndex) n a.readBytes).setEngine b .idle).wake b).settle)) ∧
    (r.retryNack = true → r.abortPending = false → r.attempts ≤ r.budget →
      (∀ d, r.deadlineTime = some d → 2 ^ 31 ≤ (s.clock - d).toNat) → exec (.stopSeen b place) s =
      .next (((((free.putRecord i { r with
          state := .queued
          notBefore := some (s.clock + (s.bus b).config.spacing.setWidth 32)
          spacingOver := false
          lastRetry := some .nackAddress
          cls := c }).enqueue b (.record i)).setEngine b .idle).wake b).settle)) ∧
    (∀ d, r.retryNack = true → r.abortPending = false → r.attempts ≤ r.budget → r.deadlineTime = some d →
      (s.clock - d).toNat < 2 ^ 31 → exec (.stopSeen b place) s =
      .next (((((free.putRecord i { r with lastRetry := some .nackAddress, cls := c }).finishRecord i .expired none 0
        []).setEngine b .idle).wake b).settle))) ∧
  ∀ (s : State) (b : BusIx) (place : Place) (a : Attempt) (i : Fin 64) (r : Record) (why : StopCause) (freed : State),
    (s.bus b).engine = .active (some a) →
    (a.phase = .stop why ∨ (place ≠ .inByte 8 ∧ a.makesStop why (place = .boundary))) → a.item = .record i →
    s.record i = some r →
    (s.session r.owner).state ≠ .opened → (s.bus b).config.enabled = true → a.underDisable = false →
    freed = ((s.modBus b fun x => { x with
      line := .free
      counters := if why = .naturalEnd then { x.counters with completedOk := satInc x.counters.completedOk }
        else x.counters }).freeRecord i) →
    exec (.stopSeen b place) s = .next ((((if (s.session r.owner).state = .closing ∧ freed.activeCount r.owner = 0 then
      freed.modSession r.owner fun x => { x with state := .closed } else freed).setEngine b .idle).wake b).settle)

/-- CLK_LOW_ON_FREE_BUS, IDLE_DETECT and STUCK_DETECTED (R38, R39, R51, R52, R53, R57, R80, R85): a clock pulled low on a FREE
bus makes it BUSY, counts a bus error and abandons a bus-free wait; idle detect makes the bus FREE, begins a reservation's
wait and releases a FAULT; a stuck line makes the bus STUCK and takes an IDLE or RESERVED engine into RECOVERY, in WAIT_CLOCK
with CLK held low; with CLK high the wait for the clock ends at once, in PULSING with DAT held low and in STOPPING with DAT
high (R80, log 28). In FAULT and in RECOVERY the report changes the monitor alone. An ACTIVE attempt ends by it with
STRETCH_TIMEOUT, and the engine enters RECOVERY, or DISABLED on a disabled bus (R57, R58, R67); an address tail enters
RECOVERY, with no outcome (R74); in TARGET the transfer in progress is cut off first, the 3400 lets go of both lines, and DAT
that it alone held low is found high (R142). Idle detect in TARGET and in an address tail moves the monitor alone (log 19); it
cannot arise while an attempt is clocked (log 2), and a monitor that is OFF reports none (R52). -/
def Obligations.MonitorEvents : Prop :=
  (∀ (s : State) (b : BusIx), (s.bus b).line = .free →
    exec (.clkLowOnFreeBus b) s = .next (s.modBus b fun x => { x with
      line := .busy
      counters := { x.counters with busErrors := satInc x.counters.busErrors }
      engine := match x.engine with | .reserved _ => .reserved false | e => e }).settle) ∧
  (∀ (s : State) (b : BusIx), (s.bus b).line ≠ .free → exec (.clkLowOnFreeBus b) s = .next s.settle) ∧
  (∀ (s : State) (b : BusIx), (s.bus b).line ≠ .off →
    ((s.bus b).engine = .idle → exec (.idleDetect b) s =
      .next (s.modBus b fun x => { x with line := .free, following := false }).settle) ∧
    (∀ w, (s.bus b).engine = .reserved w → exec (.idleDetect b) s = .next (s.modBus b fun x => { x with
      line := .free
      following := false
      engine := .reserved true }).settle) ∧
    ((s.bus b).engine = .fault → exec (.idleDetect b) s = .next ((((s.modBus b fun x => { x with
      line := .free
      following := false
      engine := .idle
      faultReason := none }).offerBusEvent b (.recovered .released)).wake b).settle))) ∧
  (∀ (s : State) (b : BusIx), (s.bus b).line = .unknown ∨ (s.bus b).line = .busy →
    ((s.bus b).engine = .idle ∨ (s.bus b).engine = .active none ∨ ∃ w, (s.bus b).engine = .reserved w) →
    ∀ atEntry : Option Bool, exec (.stuckDetected { bus := b, atEntry := atEntry }) s = .next (s.modBus b fun x => { x with
      line := .stuck
      following := false
      counters := { x.counters with recoveries := satInc x.counters.recoveries }
      engine := .recovery
        { step := (match atEntry with
            | none => .waitClock
            | some false => .pulsing
            | some true => .stopping)
          pulses := 0
          fromFault := false } }).settle) ∧
  (∀ (s : State) (b : BusIx) (atEntry : Option Bool), (s.bus b).line = .unknown ∨ (s.bus b).line = .busy →
    ((s.bus b).engine = .fault ∨ ∃ r, (s.bus b).engine = .recovery r) →
    exec (.stuckDetected { bus := b, atEntry := atEntry }) s = .next (s.modBus b fun x => { x with line := .stuck }).settle) ∧
  (∀ (s : State) (b : BusIx) (atEntry : Option Bool),
    (s.bus b).line = .off ∨ (s.bus b).line = .free ∨ (s.bus b).line = .stuck →
    exec (.stuckDetected { bus := b, atEntry := atEntry }) s = .next s.settle) ∧
  (∀ (s ended : State) (b : BusIx) (a : Attempt) (atEntry : Option Bool), (s.bus b).line = .unknown ∨ (s.bus b).line = .busy →
    (s.bus b).engine = .active (some a) →
    ((∃ i r, a.item = .record i ∧ s.record i = some r ∧ r.bus = b ∧ (s.session r.owner).state = .opened ∧
        ended = ((s.modBus b fun x => { x with
          line := .stuck
          counters := { x.counters with
            stretchTimeouts := satInc x.counters.stretchTimeouts
            failedFinal := satInc x.counters.failedFinal } }).finishRecord i .stretchTimeout (some a.segIndex)
              (a.written + a.readBytes.length) a.readBytes)) ∨
      ∃ i w w' p put, a.item = .watch i ∧ s.watch i = some w ∧ w.bus = b ∧ w.state ≠ .removing ∧ w.owner = some p ∧
        FailureLeaves w .stretchTimeout w' ∧
        put = ((s.modBus b fun x => { x with
          line := .stuck
          counters := { x.counters with
            stretchTimeouts := satInc x.counters.stretchTimeouts
            failedFinal := satInc x.counters.failedFinal } }).putWatch i w') ∧
        ended = if w'.valueReport = none ∧ w'.suspensionReport = none then put else put.offer p (.watch i)) →
    exec (.stuckDetected { bus := b, atEntry := atEntry }) s =
      .next (if (s.bus b).config.enabled = true then toRecovery b atEntry ended else toDisabled b ended).settle) ∧
  (∀ (s ended : State) (b : BusIx) (atEntry : Option Bool), (s.bus b).line = .unknown ∨ (s.bus b).line = .busy →
    (s.bus b).engine = .target → TransferEnds (s.modBus b fun x => { x with line := .stuck }) b ended →
    exec (.stuckDetected { bus := b, atEntry := atEntry }) s = .next (toRecovery b atEntry ended).settle) ∧
  (∀ (s : State) (b : BusIx), (s.bus b).line ≠ .off → (s.bus b).engine = .active none ∨ (s.bus b).engine = .target →
    exec (.idleDetect b) s = .next (s.modBus b fun x => { x with line := .free }).settle) ∧
  ∀ (s : State) (b : BusIx), (s.bus b).line = .off ∨ (∃ a, (s.bus b).engine = .active (some a)) →
    exec (.idleDetect b) s = .next s.settle

/-- ARBITRATION_LOSS in a bit of an address byte sent as 1, LOSS_IN_REPEATED_START_OR_STOP, STRETCH_TIMEOUT and bus errors,
for a record of an OPEN session on an enabled bus (R67, R71 to R79): a loss with budget left and no abort pending sends the
record back to its queue with a not-before time; without budget it ends LOST; with data acknowledged and no-replay it ends
LOST_PARTIAL, and with abort pending else ABORTED; a loss in a stop lets the outcome stand, and is no completed attempt (log
18); a loss in the direction bit enters the address tail like any other of the address byte (log 40); a bit sent as 0 cannot
be lost, and no condition falls in it, so that these commands have no effect there (logs 2 and 6); a loss in a repeated start
is decided like one in a bit, whatever abort is pending, also after a read byte whose acknowledge bit is over, and an abort
taken in that bit makes the condition a stop (log 36); a start or stop in a bit the engine does not drive is a bus error,
which is final; an attempt on a bus enabled again ends so by the ordinary rule (log 17); a stretch timeout is final and the
engine enters RECOVERY, in whatever phase the attempt is, the stop and the repeated start included (log 27), and in a repeated
start it fails at the segment before (log 8). Each moves its counter. And whatever command ends an attempt (`EndsAttempt`:
also the loss of a stop after a READ, the loss of the NACK after a read byte, a start or a stop in a bit sent as 1 or in that
NACK, and the condition that is met before the repeated start is reported: logs 7, 33 and 36), on a bus enabled or not, the
record is freed where its session is not OPEN (R22), ends, or is retried, by the first row of R19, R75 or R76 that applies
(`EndsRecord`, `RetriesRecord`), and the engine goes on as that end says, or into DISABLED on a disabled bus (R58, R70). A
retry promotes as it joins (R33) and ends EXPIRED where its deadline time is reached (R77; log 20). -/
def Obligations.AttemptLosses : Prop :=
  (∀ (s : State) (b : BusIx) (a : Attempt) (g : Segment) (bit : Fin 8) (i : Fin 64) (r : Record) (lost : State),
    (s.bus b).engine = .active (some a) → a.segments[a.segIndex - 1]? = some g → a.item = .record i → s.record i = some r → r.bus = b →
    (s.session r.owner).state = .opened → (s.bus b).config.enabled = true →
    lost = (s.modBus b fun x => { x with
      counters := { x.counters with arbitrationLosses := satInc x.counters.arbitrationLosses } }) →
    (a.phase = .inByte → a.byteIndex = 0 → g.addressByte.getMsbD bit.val = true →
      (r.noReplay = false ∨ a.anyAcked = false) → r.abortPending = false → r.attempts ≤ r.budget →
      r.cls ≠ .bulk → r.deadlineTime = none →
      exec (.arbitrationLoss b (.addressByte bit)) s = .next (((lost.putRecord i { r with
          state := .queued
          notBefore := some (s.clock + (s.bus b).config.spacing.setWidth 32)
          spacingOver := false
          lastRetry := some .lost }).enqueue b (.record i)).modBus b fun x => { x with
            engine := .active none
            following := false }).settle) ∧
    (a.phase = .inByte → a.byteIndex = 0 → g.addressByte.getMsbD bit.val = true →
      (r.noReplay = false ∨ a.anyAcked = false) → r.abortPending = false → r.budget < r.attempts →
      exec (.arbitrationLoss b (.addressByte bit)) s = .next (((lost.countBus b fun c =>
        { c with failedFinal := satInc c.failedFinal }).finishRecord i .lost (some a.segIndex)
          (a.written + a.readBytes.length) a.readBytes).modBus b fun x => { x with
            engine := .active none
            following := false }).settle) ∧
    (a.phase = .inByte → a.byteIndex = 0 → g.addressByte.getMsbD bit.val = true → a.anyAcked = true → r.noReplay = true →
      exec (.arbitrationLoss b (.addressByte bit)) s = .next (((lost.countBus b fun c =>
        { c with failedFinal := satInc c.failedFinal }).finishRecord i .lostPartial (some a.segIndex)
          (a.written + a.readBytes.length) a.readBytes).modBus b fun x => { x with
            engine := .active none
            following := false }).settle) ∧
    (a.phase = .inByte → a.byteIndex = 0 → g.addressByte.getMsbD bit.val = true →
      (r.noReplay = false ∨ a.anyAcked = false) → r.abortPending = true →
      exec (.arbitrationLoss b (.addressByte bit)) s = .next (((lost.countBus b fun c =>
        { c with failedFinal := satInc c.failedFinal }).finishRecord i .aborted (some a.segIndex)
          (a.written + a.readBytes.length) a.readBytes).modBus b fun x => { x with
            engine := .active none
            following := false }).settle) ∧
    (a.phase = .inByte → a.byteIndex = 0 → g.addressByte.getMsbD bit.val = false →
      exec (.arbitrationLoss b (.addressByte bit)) s = .next s.settle ∧
      exec (.startSeen b .foreign (.inByte (bit.castLE (by decide)))) s = .next s.settle ∧
      exec (.stopSeen b (.inByte (bit.castLE (by decide)))) s = .next s.settle) ∧
    (∀ addr data x, a.phase = .inByte → a.byteIndex ≠ 0 → g = .write addr data → data[a.byteIndex - 1]? = some x →
      (x.getMsbD bit.val = false → exec (.arbitrationLoss b (.writtenByte bit)) s = .next s.settle ∧
        exec (.startSeen b .foreign (.inByte (bit.castLE (by decide)))) s = .next s.settle ∧
        exec (.stopSeen b (.inByte (bit.castLE (by decide)))) s = .next s.settle) ∧
      (x.getMsbD bit.val = true → (r.noReplay = false ∨ a.anyAcked = false) → r.abortPending = false →
        r.budget < r.attempts →
        exec (.arbitrationLoss b (.writtenByte bit)) s = .next ((((lost.countBus b fun c =>
          { c with failedFinal := satInc c.failedFinal }).finishRecord i .lost (some a.segIndex)
            (a.written + a.readBytes.length) a.readBytes).setEngine b .idle).wake b).settle)) ∧
    (a.phase = .stop .naturalEnd →
      ∀ inStart, exec (.lossInRepeatedStartOrStop { bus := b, inRepeatedStart := inStart }) s =
        .next ((((lost.finishRecord i .ok none (a.written + a.readBytes.length) a.readBytes).setEngine b
          .idle).wake b).settle)) ∧
    (∀ (final : Status) (nack : Bool) (busy : Bool → State),
      (a.phase = .repeatedStart ∨ a.phase = .readAck nack .repeatedStart) →
      ((a.anyAcked = true ∧ r.noReplay = true ∧ final = .lostPartial) ∨
        ((a.anyAcked = false ∨ r.noReplay = false) ∧
          ((r.abortPending = true ∧ final = .aborted) ∨
            (r.abortPending = false ∧ r.budget < r.attempts ∧ final = .lost)))) →
      (∀ start, busy start = (((lost.countBus b fun c => { c with failedFinal := satInc c.failedFinal }).finishRecord i
        final (some a.segIndex) (a.written + a.readBytes.length) a.readBytes).setEngine b .idle).modBus b fun x => { x with
          line := if start = true then .busy else .free
          following := if start = true then true else x.following }) →
      exec (.lossInRepeatedStartOrStop { bus := b, inRepeatedStart := true }) s =
        .next (((((lost.countBus b fun c => { c with failedFinal := satInc c.failedFinal }).finishRecord i final
          (some a.segIndex) (a.written + a.readBytes.length) a.readBytes).setEngine b .idle).wake b).settle) ∧
      exec (.startSeen b .foreign .inRepeatedStart) s = .next ((busy true).wake b).settle ∧
      exec (.stopSeen b .inRepeatedStart) s = .next ((busy false).wake b).settle) ∧
    (∀ nack, (a.phase = .readAck nack .nextByte ∨ a.phase = .readAck nack .repeatedStart) → a.abortPending = true →
      exec (.lossInRepeatedStartOrStop { bus := b, inRepeatedStart := false }) s =
        .next (((((lost.countBus b fun c => { c with failedFinal := satInc c.failedFinal }).finishRecord i .aborted
          (some a.segIndex) (a.written + a.readBytes.length) a.readBytes).setEngine b .idle).wake b).settle)) ∧
    (a.phase = .inByte →
      exec (.stopSeen b (.inByte 8)) s = .next ((((s.modBus b fun x => { x with
          line := .free
          counters := { x.counters with
            busErrors := satInc x.counters.busErrors
            failedFinal := satInc x.counters.failedFinal } }).finishRecord i .busError (some a.segIndex)
        (a.written + a.readBytes.length) a.readBytes).setEngine b .idle).wake b).settle ∧
      exec (.startSeen b .foreign (.inByte 8)) s = .next ((((s.modBus b fun x => { x with
          line := .busy
          following := true
          counters := { x.counters with
            busErrors := satInc x.counters.busErrors
            failedFinal := satInc x.counters.failedFinal } }).finishRecord i .busError (some a.segIndex)
        (a.written + a.readBytes.length) a.readBytes).setEngine b .idle).wake b).settle) ∧
    exec (.stretchTimeout b) s = .next ((((s.modBus b fun x => { x with
        counters := { x.counters with
          stretchTimeouts := satInc x.counters.stretchTimeouts
          failedFinal := satInc x.counters.failedFinal } }).finishRecord i .stretchTimeout (some a.segIndex)
        (a.written + a.readBytes.length) a.readBytes).modBus b fun x => { x with
          counters := { x.counters with recoveries := satInc x.counters.recoveries }
          engine := .recovery { step := .waitClock, pulses := 0, fromFault := false }
          following := false }).settle)) ∧
  (∀ (s : State) (a : Attempt) (e : AttemptEnd) (i : Fin 64) (r : Record) (n : Nat) (freed : State), s.record i = some r →
    n = a.written + a.readBytes.length → freed = s.freeRecord i →
    ((s.session r.owner).state ≠ .opened → s.recordOutcome i a e =
      if (s.session r.owner).state = .closing ∧ freed.activeCount r.owner = 0 then
        freed.modSession r.owner fun x => { x with state := .closed } else freed) ∧
    ((s.session r.owner).state = .opened → e = .ok → s.recordOutcome i a e = s.finishRecord i .ok none n a.readBytes) ∧
    (∀ status, (s.session r.owner).state = .opened → EndsRecord r a (s.bus r.bus).config.enabled e status →
      s.recordOutcome i a e = ((s.modBus r.bus fun x => { x with
        counters := { x.counters with failedFinal := satInc x.counters.failedFinal } }).finishRecord i status
          (some a.segIndex) n a.readBytes)) ∧
    ∀ (why : Status) (c : Cls), (s.session r.owner).state = .opened → RetriesRecord r a e why →
      c = (if r.cls = .bulk ∧ (s.bus r.bus).config.aging ≠ 0 ∧
        (s.bus r.bus).config.aging.toNat ≤ (r.entryTime.elim 0 fun x => ageOf s.clock x r.ageStopped) then .normal
        else r.cls) →
      ((∀ x, r.deadlineTime = some x → 2 ^ 31 ≤ (s.clock - x).toNat) → s.recordOutcome i a e =
        (s.putRecord i { r with
          state := .queued
          notBefore := some (s.clock + (s.bus r.bus).config.spacing.setWidth 32)
          spacingOver := false
          lastRetry := some why
          cls := c }).enqueue r.bus (.record i)) ∧
      ∀ x, r.deadlineTime = some x → (s.clock - x).toNat < 2 ^ 31 → s.recordOutcome i a e =
        (s.putRecord i { r with lastRetry := some why, cls := c }).finishRecord i .expired none 0 []) ∧
  ∀ (s t : State) (b : BusIx) (a a' : Attempt) (i : Fin 64) (c : Instr) (e : AttemptEnd) (before : Bus → Bus)
    (next : State → State), (s.bus b).engine = .active (some a) → a.item = .record i →
    EndsAttempt s b a c a' e before next → t = (s.modBus b before).recordOutcome i a' e →
    exec c s = .next (if (s.bus b).config.enabled = true then next t else toDisabled b t).settle

/-- ADDRESS_TAIL_DIRECTION_BIT, FOREIGN_OWN_ADDRESS and FOREIGN_ADDRESS_OTHER (R74, R133, R134, R135): the own address takes
the engine into TARGET; a write takes the lowest EMPTY slot of an owned unit, a read begins on an owned unit, anything else is
counted as a refusal; another address after a loss takes the engine to IDLE, and otherwise completes the slot that a write
left FILLING, followed by no read. The own address after a repeated start in a write transfer completes that slot first,
followed by a read when it asks for one, and is then judged like any other (R133, R135, R137); a slot under the discard mark
is emptied instead, without a report (R134, R141). A byte that the engine does not follow has no effect (the flag `following`
is log 16, no effect log 2), nor has the own address where none is set. -/
def Obligations.ForeignAddresses : Prop :=
  (∀ (s : State) (b : BusIx) (addr : Addr) (dir : Direction), (s.bus b).engine = .active none →
    ((s.bus b).config.own ≠ some addr → exec (.addressTailDirectionBit b addr dir) s =
      .next (((s.modBus b fun x => { x with engine := .idle }).wake b).settle)) ∧
    ((s.bus b).config.own = some addr → (s.bus b).target.owner = none →
      exec (.addressTailDirectionBit b addr dir) s = .next (s.modBus b fun x => { x with
        engine := .target
        counters := { x.counters with targetRefusals := satInc x.counters.targetRefusals } }).settle) ∧
    (∀ o, (s.bus b).config.own = some addr → (s.bus b).target.owner = some o → dir = .read →
      exec (.addressTailDirectionBit b addr dir) s = .next (s.modBus b fun x => { x with
        engine := .target
        target := { x.target with
          reading := some { fromBuffer := 0, fillBytes := 0, sending := none, released := false } } }).settle) ∧
    (∀ o k, (s.bus b).config.own = some addr → (s.bus b).target.owner = some o → dir = .write →
      (s.bus b).target.slots[k].state = .empty → (∀ j : Fin 4, j < k → (s.bus b).target.slots[j].state ≠ .empty) →
      exec (.addressTailDirectionBit b addr dir) s = .next (s.modBus b fun x => { x with
        engine := .target
        target := { x.target with
          slots := x.target.slots.set k
            ({ state := .filling, data := [], overflow := false, followedByRead := false,
               completionTime := none } : InSlot) } }).settle) ∧
    (∀ o, (s.bus b).config.own = some addr → (s.bus b).target.owner = some o → dir = .write →
      (∀ j : Fin 4, (s.bus b).target.slots[j].state ≠ .empty) →
      exec (.addressTailDirectionBit b addr dir) s = .next (s.modBus b fun x => { x with
        engine := .target
        counters := { x.counters with targetRefusals := satInc x.counters.targetRefusals } }).settle)) ∧
  (∀ (s : State) (b : BusIx) (addr : Addr) (o : PortIx),
    (s.bus b).engine = .idle ∨ (∃ w, (s.bus b).engine = .reserved w) ∨ (s.bus b).engine = .fault ∨
      (s.bus b).engine = .target →
    (s.bus b).following = true → (s.bus b).config.own = some addr → (s.bus b).target.owner = some o →
    (∀ j : Fin 4, (s.bus b).target.slots[j].state ≠ .filling) →
    exec (.foreignOwnAddress b .read) s = .next (s.modBus b fun x => { x with
      engine := .target
      following := false
      target := { x.target with
        reading := some { fromBuffer := 0, fillBytes := 0, sending := none, released := false } } }).settle) ∧
  (∀ (s : State) (b : BusIx) (dir : Direction),
    (s.bus b).config.own = none ∨ (s.bus b).following = false →
    exec (.foreignOwnAddress b dir) s = .next s.settle) ∧
  (∀ (s : State) (b : BusIx) (addr : Addr) (dir : Direction),
    (s.bus b).config.own = some addr ∨ (s.bus b).following = false →
    exec (.foreignAddressOther b addr dir) s = .next s.settle) ∧
  (∀ (s u : State) (b : BusIx) (addr : Addr) (dir : Direction) (o : PortIx) (k : Fin 4),
    (s.bus b).engine = .target → (s.bus b).following = true → (s.bus b).config.own = some addr →
    (s.bus b).target.owner = some o → (s.bus b).target.discard = false →
    (s.bus b).target.slots[k].state = .filling → (∀ j : Fin 4, j < k → (s.bus b).target.slots[j].state ≠ .filling) →
    u = ((s.modBus b fun x => { x with
      following := false
      counters := { x.counters with targetWrites := satInc x.counters.targetWrites }
      target := { x.target with
        slots := x.target.slots.set k
          ({ x.target.slots[k] with
             state := .complete
             followedByRead := decide (dir = .read)
             completionTime := some s.clock } : InSlot) } }).offer o (.inbound b k)) →
    (dir = .read → exec (.foreignOwnAddress b dir) s = .next (u.modBus b fun x => { x with
      target := { x.target with
        reading := some { fromBuffer := 0, fillBytes := 0, sending := none, released := false } } }).settle) ∧
    (∀ m : Fin 4, dir = .write → (u.bus b).target.slots[m].state = .empty →
      (∀ j : Fin 4, j < m → (u.bus b).target.slots[j].state ≠ .empty) →
      exec (.foreignOwnAddress b dir) s = .next (u.modBus b fun x => { x with
        target := { x.target with
          slots := x.target.slots.set m
            ({ state := .filling, data := [], overflow := false, followedByRead := false,
               completionTime := none } : InSlot) } }).settle) ∧
    (dir = .write → (∀ j : Fin 4, (u.bus b).target.slots[j].state ≠ .empty) →
      exec (.foreignOwnAddress b dir) s = .next (u.modBus b fun x => { x with
        counters := { x.counters with targetRefusals := satInc x.counters.targetRefusals } }).settle)) ∧
  (∀ (s u : State) (b : BusIx) (addr : Addr) (dir : Direction) (k : Fin 4),
    (s.bus b).engine = .target → (s.bus b).following = true → (s.bus b).target.discard = true →
    (s.bus b).target.slots[k].state = .filling → (∀ j : Fin 4, j < k → (s.bus b).target.slots[j].state ≠ .filling) →
    u = (s.modBus b fun x => { x with
      following := false
      counters := { x.counters with targetWrites := satInc x.counters.targetWrites }
      target := { x.target with slots := x.target.slots.set k InSlot.empty, discard := false } }) →
    ((s.bus b).config.own ≠ some addr → exec (.foreignAddressOther b addr dir) s = .next u.settle) ∧
    ((s.bus b).config.own = some addr → (s.bus b).target.owner = none →
      exec (.foreignOwnAddress b dir) s = .next (u.modBus b fun x => { x with
        counters := { x.counters with targetRefusals := satInc x.counters.targetRefusals } }).settle) ∧
    ∀ o, (s.bus b).config.own = some addr → (s.bus b).target.owner = some o →
      (dir = .read → exec (.foreignOwnAddress b dir) s = .next (u.modBus b fun x => { x with
        target := { x.target with
          reading := some { fromBuffer := 0, fillBytes := 0, sending := none, released := false } } }).settle) ∧
      ∀ m : Fin 4, dir = .write → (u.bus b).target.slots[m].state = .empty →
        (∀ j : Fin 4, j < m → (u.bus b).target.slots[j].state ≠ .empty) →
        exec (.foreignOwnAddress b dir) s = .next (u.modBus b fun x => { x with
          target := { x.target with
            slots := x.target.slots.set m
              ({ state := .filling, data := [], overflow := false, followedByRead := false,
                 completionTime := none } : InSlot) } }).settle) ∧
  (∀ (s : State) (b : BusIx) (addr : Addr) (o : PortIx) (k : Fin 4),
    (s.bus b).engine = .idle ∨ (∃ w, (s.bus b).engine = .reserved w) ∨ (s.bus b).engine = .fault ∨
      (s.bus b).engine = .target →
    (s.bus b).following = true → (s.bus b).config.own = some addr → (s.bus b).target.owner = some o →
    (s.bus b).target.slots[k].state = .empty → (∀ j : Fin 4, j < k → (s.bus b).target.slots[j].state = .complete) →
    (∀ j : Fin 4, (s.bus b).target.slots[j].state ≠ .filling) →
    exec (.foreignOwnAddress b .write) s = .next (s.modBus b fun x => { x with
      engine := .target
      following := false
      target := { x.target with
        slots := x.target.slots.set k
          ({ state := .filling, data := [], overflow := false, followedByRead := false,
             completionTime := none } : InSlot) } }).settle) ∧
  (∀ (s : State) (b : BusIx) (addr : Addr) (dir : Direction),
    (s.bus b).engine = .idle ∨ (∃ w, (s.bus b).engine = .reserved w) ∨ (s.bus b).engine = .fault ∨
      (s.bus b).engine = .target →
    (s.bus b).following = true → (s.bus b).config.own = some addr →
    ((s.bus b).target.owner = none ∨ (dir = .write ∧ ∀ j : Fin 4, (s.bus b).target.slots[j].state = .complete)) →
    (∀ j : Fin 4, (s.bus b).target.slots[j].state ≠ .filling) →
    exec (.foreignOwnAddress b dir) s = .next (s.modBus b fun x => { x with
      engine := .target
      following := false
      counters := { x.counters with targetRefusals := satInc x.counters.targetRefusals } }).settle) ∧
  (∀ (s : State) (b : BusIx) (addr : Addr) (dir : Direction), (s.bus b).config.own ≠ some addr →
    (s.bus b).following = true →
    ((s.bus b).engine = .idle ∨ (∃ w, (s.bus b).engine = .reserved w) ∨ (s.bus b).engine = .fault ∨
      (s.bus b).engine = .target) →
    (∀ j : Fin 4, (s.bus b).target.slots[j].state ≠ .filling) →
    exec (.foreignAddressOther b addr dir) s = .next (s.modBus b fun x => { x with following := false }).settle) ∧
  ∀ (s : State) (b : BusIx) (addr : Addr) (dir : Direction) (o : PortIx) (k : Fin 4),
    (s.bus b).config.own ≠ some addr → (s.bus b).following = true → (s.bus b).engine = .target →
    (s.bus b).target.owner = some o → (s.bus b).target.discard = false →
    (s.bus b).target.slots[k].state = .filling → (∀ j : Fin 4, j < k → (s.bus b).target.slots[j].state ≠ .filling) →
    exec (.foreignAddressOther b addr dir) s = .next ((s.modBus b fun x => { x with
      following := false
      counters := { x.counters with targetWrites := satInc x.counters.targetWrites }
      target := { x.target with
        slots := x.target.slots.set k
          ({ x.target.slots[k] with
             state := .complete
             followedByRead := false
             completionTime := some s.clock } : InSlot) } }).offer o (.inbound b k)).settle

/-- TARGET_WRITE_BYTE and TARGET_READ_BYTE_TAKEN (R135, R137): a data byte is stored while its slot holds fewer than 32 bytes,
and sets overflow otherwise; after an ACK the byte to send is the oldest of the outbound buffer, or the fill byte, counted as
an underrun; after the master's NACK no byte is sent in that transfer. And the end of a transfer (R135, R137 to R142): a stop
completes the slot of a write, followed by no read, and ends a read, whose counts go to the tally of an owner that asks for it
and whose deferred replacement is applied; a repeated start ends a read and leaves a write to the next direction bit; in the
middle of a byte either cuts the transfer off and counts a bus error (log 14), but counts none in the address byte after a
repeated start (log 15), and neither can arise in a bit that the 3400 holds low: an acknowledge bit it gives, or a bit of a
read byte that it sends as 0 (R142; no effect, log 2). At the stop the engine leaves TARGET. The same is said of every
transfer (`TransferEnds`): also of one whose unit lost its owner and which carries the discard mark, which ends without a
report (R141), and of one that the engine entered from FAULT, after whose reports the fault reason is cleared and RECOVERED is
offered (R85; log 24). -/
def Obligations.TargetBytes : Prop :=
  (∀ (s : State) (b : BusIx) (y : Byte) (k : Fin 4), (s.bus b).engine = .target → (s.bus b).following = false →
    (s.bus b).target.slots[k].state = .filling → (∀ j : Fin 4, j < k → (s.bus b).target.slots[j].state ≠ .filling) →
    exec (.targetWriteByte b y) s = .next (s.modBus b fun x => { x with
      target := { x.target with
        slots := x.target.slots.set k (if x.target.slots[k].data.length < 32 then
            ({ x.target.slots[k] with data := x.target.slots[k].data ++ [y] } : InSlot)
          else { x.target.slots[k] with overflow := true }) } }).settle) ∧
  (∀ (s : State) (b : BusIx) (r : ReadProgress) (y : Byte) (rest : List Byte), (s.bus b).engine = .target →
    (s.bus b).target.reading = some r → r.released = false → (s.bus b).target.outbound = y :: rest →
    exec (.targetReadByteTaken { bus := b, ack := true }) s = .next (s.modBus b fun x => { x with
      target := { x.target with
        outbound := rest
        reading := some { r with fromBuffer := r.fromBuffer + 1, sending := some y } } }).settle) ∧
  (∀ (s : State) (b : BusIx) (r : ReadProgress), (s.bus b).engine = .target →
    (s.bus b).target.reading = some r → r.released = false → (s.bus b).target.outbound = [] →
    exec (.targetReadByteTaken { bus := b, ack := true }) s = .next (s.modBus b fun x => { x with
      counters := { x.counters with underruns := satInc x.counters.underruns }
      target := { x.target with
        reading := some { r with fillBytes := r.fillBytes + 1, sending := some x.config.fill } } }).settle) ∧
  (∀ (s : State) (b : BusIx) (r : ReadProgress), (s.bus b).engine = .target → (s.bus b).target.reading = some r →
    (∀ y, r.released = false → r.sending = some y →
      exec (.targetReadByteTaken { bus := b, ack := false }) s = .next (s.modBus b fun x => { x with
        target := { x.target with reading := some { r with sending := none, released := true } } }).settle) ∧
    ∀ ack, r.released = true → exec (.targetReadByteTaken { bus := b, ack := ack }) s = .next s.settle) ∧
  (∀ (s : State) (b : BusIx) (bit : Fin 9), (s.bus b).engine = .target → (s.bus b).following = false →
    (s.bus b).target.holdsLow bit = true →
    exec (.startSeen b .foreign (.inByte bit)) s = .next s.settle ∧ exec (.stopSeen b (.inByte bit)) s = .next s.settle) ∧
  (∀ (t : Target) (bit : Fin 9),
    (∀ k : Fin 4, t.slots[k].state = .filling → (∀ j : Fin 4, j < k → t.slots[j].state ≠ .filling) →
      (t.holdsLow bit = true ↔ bit.val = 8 ∧ t.slots[k].overflow = false)) ∧
    ((∀ j : Fin 4, t.slots[j].state ≠ .filling) →
      (t.reading = none → t.holdsLow bit = false) ∧
      ∀ r, t.reading = some r →
        (∀ y, r.sending = some y → (t.holdsLow bit = true ↔ bit.val < 8 ∧ y.getMsbD bit.val = false)) ∧
        (r.sending = none → t.holdsLow bit = !r.released))) ∧
  (∀ (s u : State) (b : BusIx) (place : Place) (errors : Half) (p : PortIx) (k : Fin 4), (s.bus b).engine = .target →
    (((place = .boundary ∨ (s.bus b).following = true) ∧ errors = (s.bus b).counters.busErrors) ∨
      ((s.bus b).following = false ∧ errors = satInc (s.bus b).counters.busErrors ∧
        ∃ bit, place = .inByte bit ∧ (s.bus b).target.holdsLow bit = false)) →
    (s.bus b).target.slots[k].state = .filling →
    (∀ j : Fin 4, j < k → (s.bus b).target.slots[j].state ≠ .filling) → (s.bus b).target.reading = none →
    (s.bus b).target.owner = some p → (s.bus b).faultReason = none →
    ((s.bus b).target.discard = false → u = ((s.modBus b fun x => { x with
        line := .free
        counters := { x.counters with busErrors := errors, targetWrites := satInc x.counters.targetWrites }
        target := { x.target with
          slots := x.target.slots.set k
            ({ x.target.slots[k] with
               state := .complete
               followedByRead := false
               completionTime := some s.clock } : InSlot) } }).offer p (.inbound b k))) →
    ((s.bus b).target.discard = true → u = (s.modBus b fun x => { x with
        line := .free
        counters := { x.counters with busErrors := errors, targetWrites := satInc x.counters.targetWrites }
        target := { x.target with slots := x.target.slots.set k InSlot.empty, discard := false } })) →
    exec (.stopSeen b place) s =
      .next ((((u.setEngine b .idle).wake b).modBus b fun x => { x with following := false }).settle)) ∧
  (∀ (s u : State) (b : BusIx) (p : PortIx) (r : ReadProgress) (buffer : List Byte) (place : Place)
    (errors : Half), (s.bus b).engine = .target →
    (∀ j : Fin 4, (s.bus b).target.slots[j].state ≠ .filling) → (s.bus b).target.reading = some r →
    (s.bus b).target.owner = some p → (s.bus b).faultReason = none → (s.bus b).following = false →
    ((place = .boundary ∧ errors = (s.bus b).counters.busErrors) ∨ (errors = satInc (s.bus b).counters.busErrors ∧
      ∃ bit, place = .inByte bit ∧ (s.bus b).target.holdsLow bit = false)) →
    buffer = (match (s.bus b).target.deferred with | none => (s.bus b).target.outbound | some d => d) →
    (∀ line following, ((s.bus b).target.discard = true ∨ (s.session p).maskTargetRead = false) →
      u = (s.modBus b fun x => { x with
        line := line
        following := following
        counters := { x.counters with busErrors := errors, targetReads := satInc x.counters.targetReads }
        target := { x.target with reading := none, deferred := none, outbound := buffer, discard := false } }) →
      (line = .free → following = false → exec (.stopSeen b place) s = .next (((u.setEngine b .idle).wake b).settle)) ∧
      (line = .busy → following = true → exec (.startSeen b .foreign place) s = .next u.settle)) ∧
    (∀ line following tally, (s.bus b).target.discard = false → (s.session p).maskTargetRead = true →
      tally = (match (s.bus b).target.tally with
        | none =>
          { reads := 1, fromBuffer := satOf r.fromBuffer, fillBytes := satOf r.fillBytes, lastEnd := s.clock,
            remaining := buffer.length }
        | some t =>
          { reads := satInc t.reads, fromBuffer := satOf (t.fromBuffer.toNat + r.fromBuffer),
            fillBytes := satOf (t.fillBytes.toNat + r.fillBytes), lastEnd := s.clock, remaining := buffer.length }) →
      u = ((s.modBus b fun x => { x with
        line := line
        following := following
        counters := { x.counters with busErrors := errors, targetReads := satInc x.counters.targetReads }
        target := { x.target with
          reading := none, deferred := none, outbound := buffer, discard := false, tally := some tally }
        }).offer p (.tally b)) →
      (line = .free → following = false → exec (.stopSeen b place) s = .next (((u.setEngine b .idle).wake b).settle)) ∧
      (line = .busy → following = true → exec (.startSeen b .foreign place) s = .next u.settle))) ∧
  (∀ (s : State) (b : BusIx) (place : Place), (s.bus b).engine = .target → (s.bus b).target.reading = none →
    (place = .boundary ∨ (s.bus b).following = true) →
    exec (.startSeen b .foreign place) s =
      .next (s.modBus b fun x => { x with line := .busy, following := true }).settle) ∧
  (∀ (s u : State) (b : BusIx) (bit : Fin 9) (p : PortIx) (k : Fin 4), (s.bus b).engine = .target →
    (s.bus b).following = false → (s.bus b).target.slots[k].state = .filling →
    (∀ j : Fin 4, j < k → (s.bus b).target.slots[j].state ≠ .filling) → (s.bus b).target.reading = none →
    (s.bus b).target.owner = some p → (s.bus b).target.holdsLow bit = false →
    ((s.bus b).target.discard = false → u = ((s.modBus b fun x => { x with
        line := .busy
        counters := { x.counters with
          busErrors := satInc x.counters.busErrors
          targetWrites := satInc x.counters.targetWrites }
        target := { x.target with
          slots := x.target.slots.set k
            ({ x.target.slots[k] with
               state := .complete
               followedByRead := false
               completionTime := some s.clock } : InSlot) } }).offer p (.inbound b k))) →
    ((s.bus b).target.discard = true → u = (s.modBus b fun x => { x with
        line := .busy
        counters := { x.counters with
          busErrors := satInc x.counters.busErrors
          targetWrites := satInc x.counters.targetWrites }
        target := { x.target with slots := x.target.slots.set k InSlot.empty, discard := false } })) →
    exec (.startSeen b .foreign (.inByte bit)) s = .next (u.modBus b fun x => { x with following := true }).settle) ∧
  (∀ (s ended : State) (b : BusIx) (place : Place) (errors : Half), (s.bus b).engine = .target →
    (((place = .boundary ∨ place = .inRepeatedStart ∨ (s.bus b).following = true ∨ (s.bus b).target.inTransfer = false) ∧
        errors = (s.bus b).counters.busErrors) ∨
      ((s.bus b).following = false ∧ (s.bus b).target.inTransfer = true ∧
        errors = satInc (s.bus b).counters.busErrors ∧
        ∃ bit, place = .inByte bit ∧ (s.bus b).target.holdsLow bit = false)) →
    (TransferEnds (s.modBus b fun x => { x with
        line := .free
        counters := { x.counters with busErrors := errors } }) b ended →
      exec (.stopSeen b place) s = .next (leaveTarget b ended).settle) ∧
    (((s.bus b).target.reading ≠ none ∨ ((s.bus b).following = false ∧ ∃ bit, place = .inByte bit)) →
      TransferEnds (s.modBus b fun x => { x with
        line := .busy
        counters := { x.counters with busErrors := errors } }) b ended →
      exec (.startSeen b .foreign place) s = .next (ended.setFollowing b true).settle)) ∧
  ∀ (s : State) (b : BusIx) (place : Place), (s.bus b).engine = .target → (s.bus b).target.reading = none →
    (∀ j : Fin 4, (s.bus b).target.slots[j].state ≠ .filling) →
    ((s.bus b).faultReason = none → exec (.stopSeen b place) s =
      .next ((((s.modBus b fun x => { x with line := .free, engine := .idle }).wake b).modBus b fun x =>
        { x with following := false }).settle)) ∧
    ((s.bus b).faultReason ≠ none → exec (.stopSeen b place) s =
      .next (((((s.modBus b fun x => { x with line := .free, engine := .idle, faultReason := none }).offerBusEvent b
        (.recovered .released)).wake b).modBus b fun x => { x with following := false }).settle))

/-- RECOVERY_CLOCK_RISE, RECOVERY_PULSE_END, RECOVERY_CLOCK_TIMEOUT and RECOVERY_STOP_DATA_HELD (R80 to R83): WAIT_CLOCK goes
to PULSING with DAT low, and with DAT high to STOPPING or, on a FREE bus, to its end; each pulse counts, a high DAT goes to
STOPPING, the ninth low one to FAULT DATA_HELD; a clock that does not rise ends in FAULT CLOCK_HELD, in each of the three
steps (log 5); a DAT held in STOPPING in FAULT DATA_HELD. A FAULT moves its counter and offers its bus event. A stop, its own
or a foreign one, a foreign start and an idle detect end a recovery in IDLE with the fault reason cleared, and offer
RECOVERED, with reason PULSED when pulses were issued, else RELEASED when it began from FAULT, else nothing (R82, R84; when a
pulse counts is log 37). A bus event is offered to every OPEN session whose mask enables it: it is admitted when the outbox
has room, and otherwise waits in its slot, where a later one takes its place and counts it as missed (R153, R154, R155). -/
def Obligations.RecoverySteps : Prop :=
  (∀ (s : State) (b : BusIx) (r : Recovery), (s.bus b).engine = .recovery r →
    (r.step = .waitClock → exec (.recoveryClockRise b false) s =
      .next (s.modBus b fun x => { x with engine := .recovery { r with step := .pulsing } }).settle) ∧
    (r.step = .waitClock → (s.bus b).line ≠ .free → exec (.recoveryClockRise b true) s =
      .next (s.modBus b fun x => { x with engine := .recovery { r with step := .stopping } }).settle) ∧
    (r.step = .waitClock → (s.bus b).line = .free → r.pulses = 0 → exec (.recoveryClockRise b true) s =
      .next (((if r.fromFault = true then
          (s.modBus b fun x => { x with engine := .idle, faultReason := none }).offerBusEvent b (.recovered .released)
        else s.modBus b fun x => { x with engine := .idle, faultReason := none }).wake b).settle)) ∧
    (r.step = .pulsing → exec (.recoveryPulseEnd b true) s = .next (s.modBus b fun x => { x with
      engine := .recovery { r with step := .stopping, pulses := r.pulses + 1 } }).settle) ∧
    (r.step = .pulsing → r.pulses < 8 → exec (.recoveryPulseEnd b false) s = .next (s.modBus b fun x => { x with
      engine := .recovery { r with pulses := r.pulses + 1 } }).settle) ∧
    (r.step = .pulsing → r.pulses = 8 → exec (.recoveryPulseEnd b false) s = .next ((s.modBus b fun x => { x with
      counters := { x.counters with faults := satInc x.counters.faults }
      engine := .fault
      faultReason := some .dataHeld }).offerBusEvent b (.fault .dataHeld)).settle) ∧
    exec (.recoveryClockTimeout b) s = .next ((s.modBus b fun x => { x with
      counters := { x.counters with faults := satInc x.counters.faults }
      engine := .fault
      faultReason := some .clockHeld }).offerBusEvent b (.fault .clockHeld)).settle ∧
    (r.step = .stopping → exec (.recoveryStopDataHeld b) s = .next ((s.modBus b fun x => { x with
      counters := { x.counters with faults := satInc x.counters.faults }
      engine := .fault
      faultReason := some .dataHeld }).offerBusEvent b (.fault .dataHeld)).settle)) ∧
  (∀ (s : State) (b : BusIx) (r : Recovery) (ended : LineState → Bool → State), (s.bus b).engine = .recovery r →
    (∀ line following, ended line following =
      (let u := s.modBus b fun x => { x with line := line, following := following, engine := .idle, faultReason := none }
       (if 0 < r.pulses then u.offerBusEvent b (.recovered .pulsed)
        else if r.fromFault = true then u.offerBusEvent b (.recovered .released) else u).wake b)) →
    (∀ place, exec (.stopSeen b place) s = .next (ended .free (s.bus b).following).settle) ∧
    (∀ place, exec (.startSeen b .foreign place) s = .next (ended .busy true).settle) ∧
    ((s.bus b).line ≠ .off → exec (.idleDetect b) s = .next (ended .free (s.bus b).following).settle)) ∧
  ∀ (s : State) (b : BusIx) (kind : BusEventKind), ∃ t : State, s.offerBusEvent b kind = t ∧
    t = { s with sessions := t.sessions } ∧
    ∀ p, ∀ e : BusEvent, e.kind = kind → e.time = s.clock →
      e.missed = (match (s.session p).busEvents[b] with | none => 0 | some old => satInc old.missed) →
      (((s.session p).state ≠ .opened ∨ (s.session p).maskBusEvent = false) → t.session p = s.session p) ∧
      ((s.session p).state = .opened → (s.session p).maskBusEvent = true →
        Source.busEvent b ∉ (s.session p).admission →
        ((s.session p).outbox.length < 16 → t.session p = { s.session p with
          busEvents := (s.session p).busEvents.set b none
          nextSeq := (s.session p).nextSeq + 1
          outbox := (s.session p).outbox ++ [
            ({ seq := (s.session p).nextSeq, report := .busEvent b e, sent := false, everSent := false } :
              OutboxEntry)] }) ∧
        (16 ≤ (s.session p).outbox.length → t.session p = { s.session p with
          busEvents := (s.session p).busEvents.set b (some e)
          admission := (s.session p).admission ++ [.busEvent b] })) ∧
      ((s.session p).state = .opened → (s.session p).maskBusEvent = true →
        Source.busEvent b ∈ (s.session p).admission →
        t.session p = { s.session p with busEvents := (s.session p).busEvents.set b (some e) })
end

