-- ==== Sys2Proof/Laws/State.lean ====
section
/-! SUPPORT. What each update of the state leaves as it is, field by field, and what it puts where it writes. -/

namespace Sys2Proof.Machine.State

variable (s : State)

/-! ### setBus -/

@[simp] theorem setBus_clock (c : BusIx) (x : Bus) : (s.setBus c x).clock = s.clock := rfl
@[simp] theorem setBus_rateHigh (c : BusIx) (x : Bus) : (s.setBus c x).rateHigh = s.rateHigh := rfl
@[simp] theorem setBus_ports (c : BusIx) (x : Bus) : (s.setBus c x).ports = s.ports := rfl
@[simp] theorem setBus_sessions (c : BusIx) (x : Bus) : (s.setBus c x).sessions = s.sessions := rfl
@[simp] theorem setBus_records (c : BusIx) (x : Bus) : (s.setBus c x).records = s.records := rfl
@[simp] theorem setBus_leases (c : BusIx) (x : Bus) : (s.setBus c x).leases = s.leases := rfl
@[simp] theorem setBus_waiting (c : BusIx) (x : Bus) : (s.setBus c x).waiting = s.waiting := rfl
@[simp] theorem setBus_groups (c : BusIx) (x : Bus) : (s.setBus c x).groups = s.groups := rfl
@[simp] theorem setBus_watches (c : BusIx) (x : Bus) : (s.setBus c x).watches = s.watches := rfl
@[simp] theorem setBus_levels (c : BusIx) (x : Bus) : (s.setBus c x).levels = s.levels := rfl
@[simp] theorem setBus_freeIndex (c : BusIx) (x : Bus) : (s.setBus c x).freeIndex = s.freeIndex := rfl
@[simp] theorem setBus_pending (c : BusIx) (x : Bus) : (s.setBus c x).pending = s.pending := rfl
@[simp] theorem setBus_port (c : BusIx) (x : Bus) (n : PortIx) : (s.setBus c x).port n = s.port n := rfl
@[simp] theorem setBus_session (c : BusIx) (x : Bus) (n : PortIx) : (s.setBus c x).session n = s.session n := rfl
@[simp] theorem setBus_record (c : BusIx) (x : Bus) (k : Fin 64) : (s.setBus c x).record k = s.record k := rfl
@[simp] theorem setBus_lease (c : BusIx) (x : Bus) (k : Fin 16) : (s.setBus c x).lease k = s.lease k := rfl
@[simp] theorem setBus_waitingOrder (c : BusIx) (x : Bus) (b : BusIx) : (s.setBus c x).waitingOrder b = s.waitingOrder b := rfl
@[simp] theorem setBus_group (c : BusIx) (x : Bus) (k : Fin 8) : (s.setBus c x).group k = s.group k := rfl
@[simp] theorem setBus_watch (c : BusIx) (x : Bus) (k : Fin 12) : (s.setBus c x).watch k = s.watch k := rfl

/-! ### modBus -/

@[simp] theorem modBus_clock (c : BusIx) (f : Bus → Bus) : (s.modBus c f).clock = s.clock := rfl
@[simp] theorem modBus_rateHigh (c : BusIx) (f : Bus → Bus) : (s.modBus c f).rateHigh = s.rateHigh := rfl
@[simp] theorem modBus_ports (c : BusIx) (f : Bus → Bus) : (s.modBus c f).ports = s.ports := rfl
@[simp] theorem modBus_sessions (c : BusIx) (f : Bus → Bus) : (s.modBus c f).sessions = s.sessions := rfl
@[simp] theorem modBus_records (c : BusIx) (f : Bus → Bus) : (s.modBus c f).records = s.records := rfl
@[simp] theorem modBus_leases (c : BusIx) (f : Bus → Bus) : (s.modBus c f).leases = s.leases := rfl
@[simp] theorem modBus_waiting (c : BusIx) (f : Bus → Bus) : (s.modBus c f).waiting = s.waiting := rfl
@[simp] theorem modBus_groups (c : BusIx) (f : Bus → Bus) : (s.modBus c f).groups = s.groups := rfl
@[simp] theorem modBus_watches (c : BusIx) (f : Bus → Bus) : (s.modBus c f).watches = s.watches := rfl
@[simp] theorem modBus_levels (c : BusIx) (f : Bus → Bus) : (s.modBus c f).levels = s.levels := rfl
@[simp] theorem modBus_freeIndex (c : BusIx) (f : Bus → Bus) : (s.modBus c f).freeIndex = s.freeIndex := rfl
@[simp] theorem modBus_pending (c : BusIx) (f : Bus → Bus) : (s.modBus c f).pending = s.pending := rfl
@[simp] theorem modBus_port (c : BusIx) (f : Bus → Bus) (n : PortIx) : (s.modBus c f).port n = s.port n := rfl
@[simp] theorem modBus_session (c : BusIx) (f : Bus → Bus) (n : PortIx) : (s.modBus c f).session n = s.session n := rfl
@[simp] theorem modBus_record (c : BusIx) (f : Bus → Bus) (k : Fin 64) : (s.modBus c f).record k = s.record k := rfl
@[simp] theorem modBus_lease (c : BusIx) (f : Bus → Bus) (k : Fin 16) : (s.modBus c f).lease k = s.lease k := rfl
@[simp] theorem modBus_waitingOrder (c : BusIx) (f : Bus → Bus) (b : BusIx) : (s.modBus c f).waitingOrder b = s.waitingOrder b := rfl
@[simp] theorem modBus_group (c : BusIx) (f : Bus → Bus) (k : Fin 8) : (s.modBus c f).group k = s.group k := rfl
@[simp] theorem modBus_watch (c : BusIx) (f : Bus → Bus) (k : Fin 12) : (s.modBus c f).watch k = s.watch k := rfl

/-! ### modPort -/

@[simp] theorem modPort_clock (p : PortIx) (f : Port → Port) : (s.modPort p f).clock = s.clock := rfl
@[simp] theorem modPort_rateHigh (p : PortIx) (f : Port → Port) : (s.modPort p f).rateHigh = s.rateHigh := rfl
@[simp] theorem modPort_sessions (p : PortIx) (f : Port → Port) : (s.modPort p f).sessions = s.sessions := rfl
@[simp] theorem modPort_records (p : PortIx) (f : Port → Port) : (s.modPort p f).records = s.records := rfl
@[simp] theorem modPort_leases (p : PortIx) (f : Port → Port) : (s.modPort p f).leases = s.leases := rfl
@[simp] theorem modPort_waiting (p : PortIx) (f : Port → Port) : (s.modPort p f).waiting = s.waiting := rfl
@[simp] theorem modPort_groups (p : PortIx) (f : Port → Port) : (s.modPort p f).groups = s.groups := rfl
@[simp] theorem modPort_watches (p : PortIx) (f : Port → Port) : (s.modPort p f).watches = s.watches := rfl
@[simp] theorem modPort_levels (p : PortIx) (f : Port → Port) : (s.modPort p f).levels = s.levels := rfl
@[simp] theorem modPort_buses (p : PortIx) (f : Port → Port) : (s.modPort p f).buses = s.buses := rfl
@[simp] theorem modPort_freeIndex (p : PortIx) (f : Port → Port) : (s.modPort p f).freeIndex = s.freeIndex := rfl
@[simp] theorem modPort_pending (p : PortIx) (f : Port → Port) : (s.modPort p f).pending = s.pending := rfl
@[simp] theorem modPort_bus (p : PortIx) (f : Port → Port) (b : BusIx) : (s.modPort p f).bus b = s.bus b := rfl
@[simp] theorem modPort_session (p : PortIx) (f : Port → Port) (n : PortIx) : (s.modPort p f).session n = s.session n := rfl
@[simp] theorem modPort_record (p : PortIx) (f : Port → Port) (k : Fin 64) : (s.modPort p f).record k = s.record k := rfl
@[simp] theorem modPort_lease (p : PortIx) (f : Port → Port) (k : Fin 16) : (s.modPort p f).lease k = s.lease k := rfl
@[simp] theorem modPort_waitingOrder (p : PortIx) (f : Port → Port) (b : BusIx) : (s.modPort p f).waitingOrder b = s.waitingOrder b := rfl
@[simp] theorem modPort_group (p : PortIx) (f : Port → Port) (k : Fin 8) : (s.modPort p f).group k = s.group k := rfl
@[simp] theorem modPort_watch (p : PortIx) (f : Port → Port) (k : Fin 12) : (s.modPort p f).watch k = s.watch k := rfl

/-! ### modSession -/

@[simp] theorem modSession_clock (p : PortIx) (f : Session → Session) : (s.modSession p f).clock = s.clock := rfl
@[simp] theorem modSession_rateHigh (p : PortIx) (f : Session → Session) : (s.modSession p f).rateHigh = s.rateHigh := rfl
@[simp] theorem modSession_ports (p : PortIx) (f : Session → Session) : (s.modSession p f).ports = s.ports := rfl
@[simp] theorem modSession_records (p : PortIx) (f : Session → Session) : (s.modSession p f).records = s.records := rfl
@[simp] theorem modSession_leases (p : PortIx) (f : Session → Session) : (s.modSession p f).leases = s.leases := rfl
@[simp] theorem modSession_waiting (p : PortIx) (f : Session → Session) : (s.modSession p f).waiting = s.waiting := rfl
@[simp] theorem modSession_groups (p : PortIx) (f : Session → Session) : (s.modSession p f).groups = s.groups := rfl
@[simp] theorem modSession_watches (p : PortIx) (f : Session → Session) : (s.modSession p f).watches = s.watches := rfl
@[simp] theorem modSession_levels (p : PortIx) (f : Session → Session) : (s.modSession p f).levels = s.levels := rfl
@[simp] theorem modSession_buses (p : PortIx) (f : Session → Session) : (s.modSession p f).buses = s.buses := rfl
@[simp] theorem modSession_freeIndex (p : PortIx) (f : Session → Session) : (s.modSession p f).freeIndex = s.freeIndex := rfl
@[simp] theorem modSession_pending (p : PortIx) (f : Session → Session) : (s.modSession p f).pending = s.pending := rfl
@[simp] theorem modSession_bus (p : PortIx) (f : Session → Session) (b : BusIx) : (s.modSession p f).bus b = s.bus b := rfl
@[simp] theorem modSession_port (p : PortIx) (f : Session → Session) (n : PortIx) : (s.modSession p f).port n = s.port n := rfl
@[simp] theorem modSession_record (p : PortIx) (f : Session → Session) (k : Fin 64) : (s.modSession p f).record k = s.record k := rfl
@[simp] theorem modSession_lease (p : PortIx) (f : Session → Session) (k : Fin 16) : (s.modSession p f).lease k = s.lease k := rfl
@[simp] theorem modSession_waitingOrder (p : PortIx) (f : Session → Session) (b : BusIx) : (s.modSession p f).waitingOrder b = s.waitingOrder b := rfl
@[simp] theorem modSession_group (p : PortIx) (f : Session → Session) (k : Fin 8) : (s.modSession p f).group k = s.group k := rfl
@[simp] theorem modSession_watch (p : PortIx) (f : Session → Session) (k : Fin 12) : (s.modSession p f).watch k = s.watch k := rfl

/-! ### putRecord -/

@[simp] theorem putRecord_clock (i : Fin 64) (r : Record) : (s.putRecord i r).clock = s.clock := rfl
@[simp] theorem putRecord_rateHigh (i : Fin 64) (r : Record) : (s.putRecord i r).rateHigh = s.rateHigh := rfl
@[simp] theorem putRecord_ports (i : Fin 64) (r : Record) : (s.putRecord i r).ports = s.ports := rfl
@[simp] theorem putRecord_sessions (i : Fin 64) (r : Record) : (s.putRecord i r).sessions = s.sessions := rfl
@[simp] theorem putRecord_leases (i : Fin 64) (r : Record) : (s.putRecord i r).leases = s.leases := rfl
@[simp] theorem putRecord_waiting (i : Fin 64) (r : Record) : (s.putRecord i r).waiting = s.waiting := rfl
@[simp] theorem putRecord_groups (i : Fin 64) (r : Record) : (s.putRecord i r).groups = s.groups := rfl
@[simp] theorem putRecord_watches (i : Fin 64) (r : Record) : (s.putRecord i r).watches = s.watches := rfl
@[simp] theorem putRecord_levels (i : Fin 64) (r : Record) : (s.putRecord i r).levels = s.levels := rfl
@[simp] theorem putRecord_buses (i : Fin 64) (r : Record) : (s.putRecord i r).buses = s.buses := rfl
@[simp] theorem putRecord_freeIndex (i : Fin 64) (r : Record) : (s.putRecord i r).freeIndex = s.freeIndex := rfl
@[simp] theorem putRecord_pending (i : Fin 64) (r : Record) : (s.putRecord i r).pending = s.pending := rfl
@[simp] theorem putRecord_bus (i : Fin 64) (r : Record) (b : BusIx) : (s.putRecord i r).bus b = s.bus b := rfl
@[simp] theorem putRecord_port (i : Fin 64) (r : Record) (n : PortIx) : (s.putRecord i r).port n = s.port n := rfl
@[simp] theorem putRecord_session (i : Fin 64) (r : Record) (n : PortIx) : (s.putRecord i r).session n = s.session n := rfl
@[simp] theorem putRecord_lease (i : Fin 64) (r : Record) (k : Fin 16) : (s.putRecord i r).lease k = s.lease k := rfl
@[simp] theorem putRecord_waitingOrder (i : Fin 64) (r : Record) (b : BusIx) : (s.putRecord i r).waitingOrder b = s.waitingOrder b := rfl
@[simp] theorem putRecord_group (i : Fin 64) (r : Record) (k : Fin 8) : (s.putRecord i r).group k = s.group k := rfl
@[simp] theorem putRecord_watch (i : Fin 64) (r : Record) (k : Fin 12) : (s.putRecord i r).watch k = s.watch k := rfl

/-! ### freeRecord -/

@[simp] theorem freeRecord_clock (i : Fin 64) : (s.freeRecord i).clock = s.clock := rfl
@[simp] theorem freeRecord_rateHigh (i : Fin 64) : (s.freeRecord i).rateHigh = s.rateHigh := rfl
@[simp] theorem freeRecord_ports (i : Fin 64) : (s.freeRecord i).ports = s.ports := rfl
@[simp] theorem freeRecord_sessions (i : Fin 64) : (s.freeRecord i).sessions = s.sessions := rfl
@[simp] theorem freeRecord_leases (i : Fin 64) : (s.freeRecord i).leases = s.leases := rfl
@[simp] theorem freeRecord_waiting (i : Fin 64) : (s.freeRecord i).waiting = s.waiting := rfl
@[simp] theorem freeRecord_groups (i : Fin 64) : (s.freeRecord i).groups = s.groups := rfl
@[simp] theorem freeRecord_watches (i : Fin 64) : (s.freeRecord i).watches = s.watches := rfl
@[simp] theorem freeRecord_levels (i : Fin 64) : (s.freeRecord i).levels = s.levels := rfl
@[simp] theorem freeRecord_buses (i : Fin 64) : (s.freeRecord i).buses = s.buses := rfl
@[simp] theorem freeRecord_freeIndex (i : Fin 64) : (s.freeRecord i).freeIndex = s.freeIndex := rfl
@[simp] theorem freeRecord_pending (i : Fin 64) : (s.freeRecord i).pending = s.pending := rfl
@[simp] theorem freeRecord_bus (i : Fin 64) (b : BusIx) : (s.freeRecord i).bus b = s.bus b := rfl
@[simp] theorem freeRecord_port (i : Fin 64) (n : PortIx) : (s.freeRecord i).port n = s.port n := rfl
@[simp] theorem freeRecord_session (i : Fin 64) (n : PortIx) : (s.freeRecord i).session n = s.session n := rfl
@[simp] theorem freeRecord_lease (i : Fin 64) (k : Fin 16) : (s.freeRecord i).lease k = s.lease k := rfl
@[simp] theorem freeRecord_waitingOrder (i : Fin 64) (b : BusIx) : (s.freeRecord i).waitingOrder b = s.waitingOrder b := rfl
@[simp] theorem freeRecord_group (i : Fin 64) (k : Fin 8) : (s.freeRecord i).group k = s.group k := rfl
@[simp] theorem freeRecord_watch (i : Fin 64) (k : Fin 12) : (s.freeRecord i).watch k = s.watch k := rfl

/-! ### putLease -/

@[simp] theorem putLease_clock (i : Fin 16) (e : Lease) : (s.putLease i e).clock = s.clock := rfl
@[simp] theorem putLease_rateHigh (i : Fin 16) (e : Lease) : (s.putLease i e).rateHigh = s.rateHigh := rfl
@[simp] theorem putLease_ports (i : Fin 16) (e : Lease) : (s.putLease i e).ports = s.ports := rfl
@[simp] theorem putLease_sessions (i : Fin 16) (e : Lease) : (s.putLease i e).sessions = s.sessions := rfl
@[simp] theorem putLease_records (i : Fin 16) (e : Lease) : (s.putLease i e).records = s.records := rfl
@[simp] theorem putLease_waiting (i : Fin 16) (e : Lease) : (s.putLease i e).waiting = s.waiting := rfl
@[simp] theorem putLease_groups (i : Fin 16) (e : Lease) : (s.putLease i e).groups = s.groups := rfl
@[simp] theorem putLease_watches (i : Fin 16) (e : Lease) : (s.putLease i e).watches = s.watches := rfl
@[simp] theorem putLease_levels (i : Fin 16) (e : Lease) : (s.putLease i e).levels = s.levels := rfl
@[simp] theorem putLease_buses (i : Fin 16) (e : Lease) : (s.putLease i e).buses = s.buses := rfl
@[simp] theorem putLease_freeIndex (i : Fin 16) (e : Lease) : (s.putLease i e).freeIndex = s.freeIndex := rfl
@[simp] theorem putLease_pending (i : Fin 16) (e : Lease) : (s.putLease i e).pending = s.pending := rfl
@[simp] theorem putLease_bus (i : Fin 16) (e : Lease) (b : BusIx) : (s.putLease i e).bus b = s.bus b := rfl
@[simp] theorem putLease_port (i : Fin 16) (e : Lease) (n : PortIx) : (s.putLease i e).port n = s.port n := rfl
@[simp] theorem putLease_session (i : Fin 16) (e : Lease) (n : PortIx) : (s.putLease i e).session n = s.session n := rfl
@[simp] theorem putLease_record (i : Fin 16) (e : Lease) (k : Fin 64) : (s.putLease i e).record k = s.record k := rfl
@[simp] theorem putLease_waitingOrder (i : Fin 16) (e : Lease) (b : BusIx) : (s.putLease i e).waitingOrder b = s.waitingOrder b := rfl
@[simp] theorem putLease_group (i : Fin 16) (e : Lease) (k : Fin 8) : (s.putLease i e).group k = s.group k := rfl
@[simp] theorem putLease_watch (i : Fin 16) (e : Lease) (k : Fin 12) : (s.putLease i e).watch k = s.watch k := rfl

/-! ### freeLease -/

@[simp] theorem freeLease_clock (i : Fin 16) : (s.freeLease i).clock = s.clock := rfl
@[simp] theorem freeLease_rateHigh (i : Fin 16) : (s.freeLease i).rateHigh = s.rateHigh := rfl
@[simp] theorem freeLease_ports (i : Fin 16) : (s.freeLease i).ports = s.ports := rfl
@[simp] theorem freeLease_sessions (i : Fin 16) : (s.freeLease i).sessions = s.sessions := rfl
@[simp] theorem freeLease_records (i : Fin 16) : (s.freeLease i).records = s.records := rfl
@[simp] theorem freeLease_waiting (i : Fin 16) : (s.freeLease i).waiting = s.waiting := rfl
@[simp] theorem freeLease_groups (i : Fin 16) : (s.freeLease i).groups = s.groups := rfl
@[simp] theorem freeLease_watches (i : Fin 16) : (s.freeLease i).watches = s.watches := rfl
@[simp] theorem freeLease_levels (i : Fin 16) : (s.freeLease i).levels = s.levels := rfl
@[simp] theorem freeLease_buses (i : Fin 16) : (s.freeLease i).buses = s.buses := rfl
@[simp] theorem freeLease_freeIndex (i : Fin 16) : (s.freeLease i).freeIndex = s.freeIndex := rfl
@[simp] theorem freeLease_pending (i : Fin 16) : (s.freeLease i).pending = s.pending := rfl
@[simp] theorem freeLease_bus (i : Fin 16) (b : BusIx) : (s.freeLease i).bus b = s.bus b := rfl
@[simp] theorem freeLease_port (i : Fin 16) (n : PortIx) : (s.freeLease i).port n = s.port n := rfl
@[simp] theorem freeLease_session (i : Fin 16) (n : PortIx) : (s.freeLease i).session n = s.session n := rfl
@[simp] theorem freeLease_record (i : Fin 16) (k : Fin 64) : (s.freeLease i).record k = s.record k := rfl
@[simp] theorem freeLease_waitingOrder (i : Fin 16) (b : BusIx) : (s.freeLease i).waitingOrder b = s.waitingOrder b := rfl
@[simp] theorem freeLease_group (i : Fin 16) (k : Fin 8) : (s.freeLease i).group k = s.group k := rfl
@[simp] theorem freeLease_watch (i : Fin 16) (k : Fin 12) : (s.freeLease i).watch k = s.watch k := rfl

/-! ### setWaiting -/

@[simp] theorem setWaiting_clock (c : BusIx) (w : List (Fin 16)) : (s.setWaiting c w).clock = s.clock := rfl
@[simp] theorem setWaiting_rateHigh (c : BusIx) (w : List (Fin 16)) : (s.setWaiting c w).rateHigh = s.rateHigh := rfl
@[simp] theorem setWaiting_ports (c : BusIx) (w : List (Fin 16)) : (s.setWaiting c w).ports = s.ports := rfl
@[simp] theorem setWaiting_sessions (c : BusIx) (w : List (Fin 16)) : (s.setWaiting c w).sessions = s.sessions := rfl
@[simp] theorem setWaiting_records (c : BusIx) (w : List (Fin 16)) : (s.setWaiting c w).records = s.records := rfl
@[simp] theorem setWaiting_leases (c : BusIx) (w : List (Fin 16)) : (s.setWaiting c w).leases = s.leases := rfl
@[simp] theorem setWaiting_groups (c : BusIx) (w : List (Fin 16)) : (s.setWaiting c w).groups = s.groups := rfl
@[simp] theorem setWaiting_watches (c : BusIx) (w : List (Fin 16)) : (s.setWaiting c w).watches = s.watches := rfl
@[simp] theorem setWaiting_levels (c : BusIx) (w : List (Fin 16)) : (s.setWaiting c w).levels = s.levels := rfl
@[simp] theorem setWaiting_buses (c : BusIx) (w : List (Fin 16)) : (s.setWaiting c w).buses = s.buses := rfl
@[simp] theorem setWaiting_freeIndex (c : BusIx) (w : List (Fin 16)) : (s.setWaiting c w).freeIndex = s.freeIndex := rfl
@[simp] theorem setWaiting_pending (c : BusIx) (w : List (Fin 16)) : (s.setWaiting c w).pending = s.pending := rfl
@[simp] theorem setWaiting_bus (c : BusIx) (w : List (Fin 16)) (b : BusIx) : (s.setWaiting c w).bus b = s.bus b := rfl
@[simp] theorem setWaiting_port (c : BusIx) (w : List (Fin 16)) (n : PortIx) : (s.setWaiting c w).port n = s.port n := rfl
@[simp] theorem setWaiting_session (c : BusIx) (w : List (Fin 16)) (n : PortIx) : (s.setWaiting c w).session n = s.session n := rfl
@[simp] theorem setWaiting_record (c : BusIx) (w : List (Fin 16)) (k : Fin 64) : (s.setWaiting c w).record k = s.record k := rfl
@[simp] theorem setWaiting_lease (c : BusIx) (w : List (Fin 16)) (k : Fin 16) : (s.setWaiting c w).lease k = s.lease k := rfl
@[simp] theorem setWaiting_group (c : BusIx) (w : List (Fin 16)) (k : Fin 8) : (s.setWaiting c w).group k = s.group k := rfl
@[simp] theorem setWaiting_watch (c : BusIx) (w : List (Fin 16)) (k : Fin 12) : (s.setWaiting c w).watch k = s.watch k := rfl

/-! ### putGroup -/

@[simp] theorem putGroup_clock (i : Fin 8) (g : GroupEntry) : (s.putGroup i g).clock = s.clock := rfl
@[simp] theorem putGroup_rateHigh (i : Fin 8) (g : GroupEntry) : (s.putGroup i g).rateHigh = s.rateHigh := rfl
@[simp] theorem putGroup_ports (i : Fin 8) (g : GroupEntry) : (s.putGroup i g).ports = s.ports := rfl
@[simp] theorem putGroup_sessions (i : Fin 8) (g : GroupEntry) : (s.putGroup i g).sessions = s.sessions := rfl
@[simp] theorem putGroup_records (i : Fin 8) (g : GroupEntry) : (s.putGroup i g).records = s.records := rfl
@[simp] theorem putGroup_leases (i : Fin 8) (g : GroupEntry) : (s.putGroup i g).leases = s.leases := rfl
@[simp] theorem putGroup_waiting (i : Fin 8) (g : GroupEntry) : (s.putGroup i g).waiting = s.waiting := rfl
@[simp] theorem putGroup_watches (i : Fin 8) (g : GroupEntry) : (s.putGroup i g).watches = s.watches := rfl
@[simp] theorem putGroup_levels (i : Fin 8) (g : GroupEntry) : (s.putGroup i g).levels = s.levels := rfl
@[simp] theorem putGroup_buses (i : Fin 8) (g : GroupEntry) : (s.putGroup i g).buses = s.buses := rfl
@[simp] theorem putGroup_freeIndex (i : Fin 8) (g : GroupEntry) : (s.putGroup i g).freeIndex = s.freeIndex := rfl
@[simp] theorem putGroup_pending (i : Fin 8) (g : GroupEntry) : (s.putGroup i g).pending = s.pending := rfl
@[simp] theorem putGroup_bus (i : Fin 8) (g : GroupEntry) (b : BusIx) : (s.putGroup i g).bus b = s.bus b := rfl
@[simp] theorem putGroup_port (i : Fin 8) (g : GroupEntry) (n : PortIx) : (s.putGroup i g).port n = s.port n := rfl
@[simp] theorem putGroup_session (i : Fin 8) (g : GroupEntry) (n : PortIx) : (s.putGroup i g).session n = s.session n := rfl
@[simp] theorem putGroup_record (i : Fin 8) (g : GroupEntry) (k : Fin 64) : (s.putGroup i g).record k = s.record k := rfl
@[simp] theorem putGroup_lease (i : Fin 8) (g : GroupEntry) (k : Fin 16) : (s.putGroup i g).lease k = s.lease k := rfl
@[simp] theorem putGroup_waitingOrder (i : Fin 8) (g : GroupEntry) (b : BusIx) : (s.putGroup i g).waitingOrder b = s.waitingOrder b := rfl
@[simp] theorem putGroup_watch (i : Fin 8) (g : GroupEntry) (k : Fin 12) : (s.putGroup i g).watch k = s.watch k := rfl

/-! ### freeGroup -/

@[simp] theorem freeGroup_clock (i : Fin 8) : (s.freeGroup i).clock = s.clock := rfl
@[simp] theorem freeGroup_rateHigh (i : Fin 8) : (s.freeGroup i).rateHigh = s.rateHigh := rfl
@[simp] theorem freeGroup_ports (i : Fin 8) : (s.freeGroup i).ports = s.ports := rfl
@[simp] theorem freeGroup_sessions (i : Fin 8) : (s.freeGroup i).sessions = s.sessions := rfl
@[simp] theorem freeGroup_records (i : Fin 8) : (s.freeGroup i).records = s.records := rfl
@[simp] theorem freeGroup_leases (i : Fin 8) : (s.freeGroup i).leases = s.leases := rfl
@[simp] theorem freeGroup_waiting (i : Fin 8) : (s.freeGroup i).waiting = s.waiting := rfl
@[simp] theorem freeGroup_watches (i : Fin 8) : (s.freeGroup i).watches = s.watches := rfl
@[simp] theorem freeGroup_levels (i : Fin 8) : (s.freeGroup i).levels = s.levels := rfl
@[simp] theorem freeGroup_buses (i : Fin 8) : (s.freeGroup i).buses = s.buses := rfl
@[simp] theorem freeGroup_freeIndex (i : Fin 8) : (s.freeGroup i).freeIndex = s.freeIndex := rfl
@[simp] theorem freeGroup_pending (i : Fin 8) : (s.freeGroup i).pending = s.pending := rfl
@[simp] theorem freeGroup_bus (i : Fin 8) (b : BusIx) : (s.freeGroup i).bus b = s.bus b := rfl
@[simp] theorem freeGroup_port (i : Fin 8) (n : PortIx) : (s.freeGroup i).port n = s.port n := rfl
@[simp] theorem freeGroup_session (i : Fin 8) (n : PortIx) : (s.freeGroup i).session n = s.session n := rfl
@[simp] theorem freeGroup_record (i : Fin 8) (k : Fin 64) : (s.freeGroup i).record k = s.record k := rfl
@[simp] theorem freeGroup_lease (i : Fin 8) (k : Fin 16) : (s.freeGroup i).lease k = s.lease k := rfl
@[simp] theorem freeGroup_waitingOrder (i : Fin 8) (b : BusIx) : (s.freeGroup i).waitingOrder b = s.waitingOrder b := rfl
@[simp] theorem freeGroup_watch (i : Fin 8) (k : Fin 12) : (s.freeGroup i).watch k = s.watch k := rfl

/-! ### putWatch -/

@[simp] theorem putWatch_clock (i : Fin 12) (w : Watch) : (s.putWatch i w).clock = s.clock := rfl
@[simp] theorem putWatch_rateHigh (i : Fin 12) (w : Watch) : (s.putWatch i w).rateHigh = s.rateHigh := rfl
@[simp] theorem putWatch_ports (i : Fin 12) (w : Watch) : (s.putWatch i w).ports = s.ports := rfl
@[simp] theorem putWatch_sessions (i : Fin 12) (w : Watch) : (s.putWatch i w).sessions = s.sessions := rfl
@[simp] theorem putWatch_records (i : Fin 12) (w : Watch) : (s.putWatch i w).records = s.records := rfl
@[simp] theorem putWatch_leases (i : Fin 12) (w : Watch) : (s.putWatch i w).leases = s.leases := rfl
@[simp] theorem putWatch_waiting (i : Fin 12) (w : Watch) : (s.putWatch i w).waiting = s.waiting := rfl
@[simp] theorem putWatch_groups (i : Fin 12) (w : Watch) : (s.putWatch i w).groups = s.groups := rfl
@[simp] theorem putWatch_levels (i : Fin 12) (w : Watch) : (s.putWatch i w).levels = s.levels := rfl
@[simp] theorem putWatch_buses (i : Fin 12) (w : Watch) : (s.putWatch i w).buses = s.buses := rfl
@[simp] theorem putWatch_freeIndex (i : Fin 12) (w : Watch) : (s.putWatch i w).freeIndex = s.freeIndex := rfl
@[simp] theorem putWatch_pending (i : Fin 12) (w : Watch) : (s.putWatch i w).pending = s.pending := rfl
@[simp] theorem putWatch_bus (i : Fin 12) (w : Watch) (b : BusIx) : (s.putWatch i w).bus b = s.bus b := rfl
@[simp] theorem putWatch_port (i : Fin 12) (w : Watch) (n : PortIx) : (s.putWatch i w).port n = s.port n := rfl
@[simp] theorem putWatch_session (i : Fin 12) (w : Watch) (n : PortIx) : (s.putWatch i w).session n = s.session n := rfl
@[simp] theorem putWatch_record (i : Fin 12) (w : Watch) (k : Fin 64) : (s.putWatch i w).record k = s.record k := rfl
@[simp] theorem putWatch_lease (i : Fin 12) (w : Watch) (k : Fin 16) : (s.putWatch i w).lease k = s.lease k := rfl
@[simp] theorem putWatch_waitingOrder (i : Fin 12) (w : Watch) (b : BusIx) : (s.putWatch i w).waitingOrder b = s.waitingOrder b := rfl
@[simp] theorem putWatch_group (i : Fin 12) (w : Watch) (k : Fin 8) : (s.putWatch i w).group k = s.group k := rfl

/-! ### freeWatch -/

@[simp] theorem freeWatch_clock (i : Fin 12) : (s.freeWatch i).clock = s.clock := rfl
@[simp] theorem freeWatch_rateHigh (i : Fin 12) : (s.freeWatch i).rateHigh = s.rateHigh := rfl
@[simp] theorem freeWatch_ports (i : Fin 12) : (s.freeWatch i).ports = s.ports := rfl
@[simp] theorem freeWatch_sessions (i : Fin 12) : (s.freeWatch i).sessions = s.sessions := rfl
@[simp] theorem freeWatch_records (i : Fin 12) : (s.freeWatch i).records = s.records := rfl
@[simp] theorem freeWatch_leases (i : Fin 12) : (s.freeWatch i).leases = s.leases := rfl
@[simp] theorem freeWatch_waiting (i : Fin 12) : (s.freeWatch i).waiting = s.waiting := rfl
@[simp] theorem freeWatch_groups (i : Fin 12) : (s.freeWatch i).groups = s.groups := rfl
@[simp] theorem freeWatch_levels (i : Fin 12) : (s.freeWatch i).levels = s.levels := rfl
@[simp] theorem freeWatch_buses (i : Fin 12) : (s.freeWatch i).buses = s.buses := rfl
@[simp] theorem freeWatch_freeIndex (i : Fin 12) : (s.freeWatch i).freeIndex = s.freeIndex := rfl
@[simp] theorem freeWatch_pending (i : Fin 12) : (s.freeWatch i).pending = s.pending := rfl
@[simp] theorem freeWatch_bus (i : Fin 12) (b : BusIx) : (s.freeWatch i).bus b = s.bus b := rfl
@[simp] theorem freeWatch_port (i : Fin 12) (n : PortIx) : (s.freeWatch i).port n = s.port n := rfl
@[simp] theorem freeWatch_session (i : Fin 12) (n : PortIx) : (s.freeWatch i).session n = s.session n := rfl
@[simp] theorem freeWatch_record (i : Fin 12) (k : Fin 64) : (s.freeWatch i).record k = s.record k := rfl
@[simp] theorem freeWatch_lease (i : Fin 12) (k : Fin 16) : (s.freeWatch i).lease k = s.lease k := rfl
@[simp] theorem freeWatch_waitingOrder (i : Fin 12) (b : BusIx) : (s.freeWatch i).waitingOrder b = s.waitingOrder b := rfl
@[simp] theorem freeWatch_group (i : Fin 12) (k : Fin 8) : (s.freeWatch i).group k = s.group k := rfl

/-! ### countBus -/

@[simp] theorem countBus_clock (c : BusIx) (f : BusCounters → BusCounters) : (s.countBus c f).clock = s.clock := rfl
@[simp] theorem countBus_rateHigh (c : BusIx) (f : BusCounters → BusCounters) : (s.countBus c f).rateHigh = s.rateHigh := rfl
@[simp] theorem countBus_ports (c : BusIx) (f : BusCounters → BusCounters) : (s.countBus c f).ports = s.ports := rfl
@[simp] theorem countBus_sessions (c : BusIx) (f : BusCounters → BusCounters) : (s.countBus c f).sessions = s.sessions := rfl
@[simp] theorem countBus_records (c : BusIx) (f : BusCounters → BusCounters) : (s.countBus c f).records = s.records := rfl
@[simp] theorem countBus_leases (c : BusIx) (f : BusCounters → BusCounters) : (s.countBus c f).leases = s.leases := rfl
@[simp] theorem countBus_waiting (c : BusIx) (f : BusCounters → BusCounters) : (s.countBus c f).waiting = s.waiting := rfl
@[simp] theorem countBus_groups (c : BusIx) (f : BusCounters → BusCounters) : (s.countBus c f).groups = s.groups := rfl
@[simp] theorem countBus_watches (c : BusIx) (f : BusCounters → BusCounters) : (s.countBus c f).watches = s.watches := rfl
@[simp] theorem countBus_levels (c : BusIx) (f : BusCounters → BusCounters) : (s.countBus c f).levels = s.levels := rfl
@[simp] theorem countBus_freeIndex (c : BusIx) (f : BusCounters → BusCounters) : (s.countBus c f).freeIndex = s.freeIndex := rfl
@[simp] theorem countBus_pending (c : BusIx) (f : BusCounters → BusCounters) : (s.countBus c f).pending = s.pending := rfl
@[simp] theorem countBus_port (c : BusIx) (f : BusCounters → BusCounters) (n : PortIx) : (s.countBus c f).port n = s.port n := rfl
@[simp] theorem countBus_session (c : BusIx) (f : BusCounters → BusCounters) (n : PortIx) : (s.countBus c f).session n = s.session n := rfl
@[simp] theorem countBus_record (c : BusIx) (f : BusCounters → BusCounters) (k : Fin 64) : (s.countBus c f).record k = s.record k := rfl
@[simp] theorem countBus_lease (c : BusIx) (f : BusCounters → BusCounters) (k : Fin 16) : (s.countBus c f).lease k = s.lease k := rfl
@[simp] theorem countBus_waitingOrder (c : BusIx) (f : BusCounters → BusCounters) (b : BusIx) : (s.countBus c f).waitingOrder b = s.waitingOrder b := rfl
@[simp] theorem countBus_group (c : BusIx) (f : BusCounters → BusCounters) (k : Fin 8) : (s.countBus c f).group k = s.group k := rfl
@[simp] theorem countBus_watch (c : BusIx) (f : BusCounters → BusCounters) (k : Fin 12) : (s.countBus c f).watch k = s.watch k := rfl

/-! ### countPort -/

@[simp] theorem countPort_clock (p : PortIx) (f : PortCounters → PortCounters) : (s.countPort p f).clock = s.clock := rfl
@[simp] theorem countPort_rateHigh (p : PortIx) (f : PortCounters → PortCounters) : (s.countPort p f).rateHigh = s.rateHigh := rfl
@[simp] theorem countPort_sessions (p : PortIx) (f : PortCounters → PortCounters) : (s.countPort p f).sessions = s.sessions := rfl
@[simp] theorem countPort_records (p : PortIx) (f : PortCounters → PortCounters) : (s.countPort p f).records = s.records := rfl
@[simp] theorem countPort_leases (p : PortIx) (f : PortCounters → PortCounters) : (s.countPort p f).leases = s.leases := rfl
@[simp] theorem countPort_waiting (p : PortIx) (f : PortCounters → PortCounters) : (s.countPort p f).waiting = s.waiting := rfl
@[simp] theorem countPort_groups (p : PortIx) (f : PortCounters → PortCounters) : (s.countPort p f).groups = s.groups := rfl
@[simp] theorem countPort_watches (p : PortIx) (f : PortCounters → PortCounters) : (s.countPort p f).watches = s.watches := rfl
@[simp] theorem countPort_levels (p : PortIx) (f : PortCounters → PortCounters) : (s.countPort p f).levels = s.levels := rfl
@[simp] theorem countPort_buses (p : PortIx) (f : PortCounters → PortCounters) : (s.countPort p f).buses = s.buses := rfl
@[simp] theorem countPort_freeIndex (p : PortIx) (f : PortCounters → PortCounters) : (s.countPort p f).freeIndex = s.freeIndex := rfl
@[simp] theorem countPort_pending (p : PortIx) (f : PortCounters → PortCounters) : (s.countPort p f).pending = s.pending := rfl
@[simp] theorem countPort_bus (p : PortIx) (f : PortCounters → PortCounters) (b : BusIx) : (s.countPort p f).bus b = s.bus b := rfl
@[simp] theorem countPort_session (p : PortIx) (f : PortCounters → PortCounters) (n : PortIx) : (s.countPort p f).session n = s.session n := rfl
@[simp] theorem countPort_record (p : PortIx) (f : PortCounters → PortCounters) (k : Fin 64) : (s.countPort p f).record k = s.record k := rfl
@[simp] theorem countPort_lease (p : PortIx) (f : PortCounters → PortCounters) (k : Fin 16) : (s.countPort p f).lease k = s.lease k := rfl
@[simp] theorem countPort_waitingOrder (p : PortIx) (f : PortCounters → PortCounters) (b : BusIx) : (s.countPort p f).waitingOrder b = s.waitingOrder b := rfl
@[simp] theorem countPort_group (p : PortIx) (f : PortCounters → PortCounters) (k : Fin 8) : (s.countPort p f).group k = s.group k := rfl
@[simp] theorem countPort_watch (p : PortIx) (f : PortCounters → PortCounters) (k : Fin 12) : (s.countPort p f).watch k = s.watch k := rfl

/-! ### setEngine -/

@[simp] theorem setEngine_clock (c : BusIx) (e : Engine) : (s.setEngine c e).clock = s.clock := rfl
@[simp] theorem setEngine_rateHigh (c : BusIx) (e : Engine) : (s.setEngine c e).rateHigh = s.rateHigh := rfl
@[simp] theorem setEngine_ports (c : BusIx) (e : Engine) : (s.setEngine c e).ports = s.ports := rfl
@[simp] theorem setEngine_sessions (c : BusIx) (e : Engine) : (s.setEngine c e).sessions = s.sessions := rfl
@[simp] theorem setEngine_records (c : BusIx) (e : Engine) : (s.setEngine c e).records = s.records := rfl
@[simp] theorem setEngine_leases (c : BusIx) (e : Engine) : (s.setEngine c e).leases = s.leases := rfl
@[simp] theorem setEngine_waiting (c : BusIx) (e : Engine) : (s.setEngine c e).waiting = s.waiting := rfl
@[simp] theorem setEngine_groups (c : BusIx) (e : Engine) : (s.setEngine c e).groups = s.groups := rfl
@[simp] theorem setEngine_watches (c : BusIx) (e : Engine) : (s.setEngine c e).watches = s.watches := rfl
@[simp] theorem setEngine_levels (c : BusIx) (e : Engine) : (s.setEngine c e).levels = s.levels := rfl
@[simp] theorem setEngine_freeIndex (c : BusIx) (e : Engine) : (s.setEngine c e).freeIndex = s.freeIndex := rfl
@[simp] theorem setEngine_pending (c : BusIx) (e : Engine) : (s.setEngine c e).pending = s.pending := rfl
@[simp] theorem setEngine_port (c : BusIx) (e : Engine) (n : PortIx) : (s.setEngine c e).port n = s.port n := rfl
@[simp] theorem setEngine_session (c : BusIx) (e : Engine) (n : PortIx) : (s.setEngine c e).session n = s.session n := rfl
@[simp] theorem setEngine_record (c : BusIx) (e : Engine) (k : Fin 64) : (s.setEngine c e).record k = s.record k := rfl
@[simp] theorem setEngine_lease (c : BusIx) (e : Engine) (k : Fin 16) : (s.setEngine c e).lease k = s.lease k := rfl
@[simp] theorem setEngine_waitingOrder (c : BusIx) (e : Engine) (b : BusIx) : (s.setEngine c e).waitingOrder b = s.waitingOrder b := rfl
@[simp] theorem setEngine_group (c : BusIx) (e : Engine) (k : Fin 8) : (s.setEngine c e).group k = s.group k := rfl
@[simp] theorem setEngine_watch (c : BusIx) (e : Engine) (k : Fin 12) : (s.setEngine c e).watch k = s.watch k := rfl

/-! ### setLine -/

@[simp] theorem setLine_clock (c : BusIx) (l : LineState) : (s.setLine c l).clock = s.clock := rfl
@[simp] theorem setLine_rateHigh (c : BusIx) (l : LineState) : (s.setLine c l).rateHigh = s.rateHigh := rfl
@[simp] theorem setLine_ports (c : BusIx) (l : LineState) : (s.setLine c l).ports = s.ports := rfl
@[simp] theorem setLine_sessions (c : BusIx) (l : LineState) : (s.setLine c l).sessions = s.sessions := rfl
@[simp] theorem setLine_records (c : BusIx) (l : LineState) : (s.setLine c l).records = s.records := rfl
@[simp] theorem setLine_leases (c : BusIx) (l : LineState) : (s.setLine c l).leases = s.leases := rfl
@[simp] theorem setLine_waiting (c : BusIx) (l : LineState) : (s.setLine c l).waiting = s.waiting := rfl
@[simp] theorem setLine_groups (c : BusIx) (l : LineState) : (s.setLine c l).groups = s.groups := rfl
@[simp] theorem setLine_watches (c : BusIx) (l : LineState) : (s.setLine c l).watches = s.watches := rfl
@[simp] theorem setLine_levels (c : BusIx) (l : LineState) : (s.setLine c l).levels = s.levels := rfl
@[simp] theorem setLine_freeIndex (c : BusIx) (l : LineState) : (s.setLine c l).freeIndex = s.freeIndex := rfl
@[simp] theorem setLine_pending (c : BusIx) (l : LineState) : (s.setLine c l).pending = s.pending := rfl
@[simp] theorem setLine_port (c : BusIx) (l : LineState) (n : PortIx) : (s.setLine c l).port n = s.port n := rfl
@[simp] theorem setLine_session (c : BusIx) (l : LineState) (n : PortIx) : (s.setLine c l).session n = s.session n := rfl
@[simp] theorem setLine_record (c : BusIx) (l : LineState) (k : Fin 64) : (s.setLine c l).record k = s.record k := rfl
@[simp] theorem setLine_lease (c : BusIx) (l : LineState) (k : Fin 16) : (s.setLine c l).lease k = s.lease k := rfl
@[simp] theorem setLine_waitingOrder (c : BusIx) (l : LineState) (b : BusIx) : (s.setLine c l).waitingOrder b = s.waitingOrder b := rfl
@[simp] theorem setLine_group (c : BusIx) (l : LineState) (k : Fin 8) : (s.setLine c l).group k = s.group k := rfl
@[simp] theorem setLine_watch (c : BusIx) (l : LineState) (k : Fin 12) : (s.setLine c l).watch k = s.watch k := rfl

/-! ### setFollowing -/

@[simp] theorem setFollowing_clock (c : BusIx) (y : Bool) : (s.setFollowing c y).clock = s.clock := rfl
@[simp] theorem setFollowing_rateHigh (c : BusIx) (y : Bool) : (s.setFollowing c y).rateHigh = s.rateHigh := rfl
@[simp] theorem setFollowing_ports (c : BusIx) (y : Bool) : (s.setFollowing c y).ports = s.ports := rfl
@[simp] theorem setFollowing_sessions (c : BusIx) (y : Bool) : (s.setFollowing c y).sessions = s.sessions := rfl
@[simp] theorem setFollowing_records (c : BusIx) (y : Bool) : (s.setFollowing c y).records = s.records := rfl
@[simp] theorem setFollowing_leases (c : BusIx) (y : Bool) : (s.setFollowing c y).leases = s.leases := rfl
@[simp] theorem setFollowing_waiting (c : BusIx) (y : Bool) : (s.setFollowing c y).waiting = s.waiting := rfl
@[simp] theorem setFollowing_groups (c : BusIx) (y : Bool) : (s.setFollowing c y).groups = s.groups := rfl
@[simp] theorem setFollowing_watches (c : BusIx) (y : Bool) : (s.setFollowing c y).watches = s.watches := rfl
@[simp] theorem setFollowing_levels (c : BusIx) (y : Bool) : (s.setFollowing c y).levels = s.levels := rfl
@[simp] theorem setFollowing_freeIndex (c : BusIx) (y : Bool) : (s.setFollowing c y).freeIndex = s.freeIndex := rfl
@[simp] theorem setFollowing_pending (c : BusIx) (y : Bool) : (s.setFollowing c y).pending = s.pending := rfl
@[simp] theorem setFollowing_port (c : BusIx) (y : Bool) (n : PortIx) : (s.setFollowing c y).port n = s.port n := rfl
@[simp] theorem setFollowing_session (c : BusIx) (y : Bool) (n : PortIx) : (s.setFollowing c y).session n = s.session n := rfl
@[simp] theorem setFollowing_record (c : BusIx) (y : Bool) (k : Fin 64) : (s.setFollowing c y).record k = s.record k := rfl
@[simp] theorem setFollowing_lease (c : BusIx) (y : Bool) (k : Fin 16) : (s.setFollowing c y).lease k = s.lease k := rfl
@[simp] theorem setFollowing_waitingOrder (c : BusIx) (y : Bool) (b : BusIx) : (s.setFollowing c y).waitingOrder b = s.waitingOrder b := rfl
@[simp] theorem setFollowing_group (c : BusIx) (y : Bool) (k : Fin 8) : (s.setFollowing c y).group k = s.group k := rfl
@[simp] theorem setFollowing_watch (c : BusIx) (y : Bool) (k : Fin 12) : (s.setFollowing c y).watch k = s.watch k := rfl

/-! ### setQueue -/

@[simp] theorem setQueue_clock (c : BusIx) (q : List QItem) : (s.setQueue c q).clock = s.clock := rfl
@[simp] theorem setQueue_rateHigh (c : BusIx) (q : List QItem) : (s.setQueue c q).rateHigh = s.rateHigh := rfl
@[simp] theorem setQueue_ports (c : BusIx) (q : List QItem) : (s.setQueue c q).ports = s.ports := rfl
@[simp] theorem setQueue_sessions (c : BusIx) (q : List QItem) : (s.setQueue c q).sessions = s.sessions := rfl
@[simp] theorem setQueue_records (c : BusIx) (q : List QItem) : (s.setQueue c q).records = s.records := rfl
@[simp] theorem setQueue_leases (c : BusIx) (q : List QItem) : (s.setQueue c q).leases = s.leases := rfl
@[simp] theorem setQueue_waiting (c : BusIx) (q : List QItem) : (s.setQueue c q).waiting = s.waiting := rfl
@[simp] theorem setQueue_groups (c : BusIx) (q : List QItem) : (s.setQueue c q).groups = s.groups := rfl
@[simp] theorem setQueue_watches (c : BusIx) (q : List QItem) : (s.setQueue c q).watches = s.watches := rfl
@[simp] theorem setQueue_levels (c : BusIx) (q : List QItem) : (s.setQueue c q).levels = s.levels := rfl
@[simp] theorem setQueue_freeIndex (c : BusIx) (q : List QItem) : (s.setQueue c q).freeIndex = s.freeIndex := rfl
@[simp] theorem setQueue_pending (c : BusIx) (q : List QItem) : (s.setQueue c q).pending = s.pending := rfl
@[simp] theorem setQueue_port (c : BusIx) (q : List QItem) (n : PortIx) : (s.setQueue c q).port n = s.port n := rfl
@[simp] theorem setQueue_session (c : BusIx) (q : List QItem) (n : PortIx) : (s.setQueue c q).session n = s.session n := rfl
@[simp] theorem setQueue_record (c : BusIx) (q : List QItem) (k : Fin 64) : (s.setQueue c q).record k = s.record k := rfl
@[simp] theorem setQueue_lease (c : BusIx) (q : List QItem) (k : Fin 16) : (s.setQueue c q).lease k = s.lease k := rfl
@[simp] theorem setQueue_waitingOrder (c : BusIx) (q : List QItem) (b : BusIx) : (s.setQueue c q).waitingOrder b = s.waitingOrder b := rfl
@[simp] theorem setQueue_group (c : BusIx) (q : List QItem) (k : Fin 8) : (s.setQueue c q).group k = s.group k := rfl
@[simp] theorem setQueue_watch (c : BusIx) (q : List QItem) (k : Fin 12) : (s.setQueue c q).watch k = s.watch k := rfl

/-! ### modTarget -/

@[simp] theorem modTarget_clock (c : BusIx) (f : Target → Target) : (s.modTarget c f).clock = s.clock := rfl
@[simp] theorem modTarget_rateHigh (c : BusIx) (f : Target → Target) : (s.modTarget c f).rateHigh = s.rateHigh := rfl
@[simp] theorem modTarget_ports (c : BusIx) (f : Target → Target) : (s.modTarget c f).ports = s.ports := rfl
@[simp] theorem modTarget_sessions (c : BusIx) (f : Target → Target) : (s.modTarget c f).sessions = s.sessions := rfl
@[simp] theorem modTarget_records (c : BusIx) (f : Target → Target) : (s.modTarget c f).records = s.records := rfl
@[simp] theorem modTarget_leases (c : BusIx) (f : Target → Target) : (s.modTarget c f).leases = s.leases := rfl
@[simp] theorem modTarget_waiting (c : BusIx) (f : Target → Target) : (s.modTarget c f).waiting = s.waiting := rfl
@[simp] theorem modTarget_groups (c : BusIx) (f : Target → Target) : (s.modTarget c f).groups = s.groups := rfl
@[simp] theorem modTarget_watches (c : BusIx) (f : Target → Target) : (s.modTarget c f).watches = s.watches := rfl
@[simp] theorem modTarget_levels (c : BusIx) (f : Target → Target) : (s.modTarget c f).levels = s.levels := rfl
@[simp] theorem modTarget_freeIndex (c : BusIx) (f : Target → Target) : (s.modTarget c f).freeIndex = s.freeIndex := rfl
@[simp] theorem modTarget_pending (c : BusIx) (f : Target → Target) : (s.modTarget c f).pending = s.pending := rfl
@[simp] theorem modTarget_port (c : BusIx) (f : Target → Target) (n : PortIx) : (s.modTarget c f).port n = s.port n := rfl
@[simp] theorem modTarget_session (c : BusIx) (f : Target → Target) (n : PortIx) : (s.modTarget c f).session n = s.session n := rfl
@[simp] theorem modTarget_record (c : BusIx) (f : Target → Target) (k : Fin 64) : (s.modTarget c f).record k = s.record k := rfl
@[simp] theorem modTarget_lease (c : BusIx) (f : Target → Target) (k : Fin 16) : (s.modTarget c f).lease k = s.lease k := rfl
@[simp] theorem modTarget_waitingOrder (c : BusIx) (f : Target → Target) (b : BusIx) : (s.modTarget c f).waitingOrder b = s.waitingOrder b := rfl
@[simp] theorem modTarget_group (c : BusIx) (f : Target → Target) (k : Fin 8) : (s.modTarget c f).group k = s.group k := rfl
@[simp] theorem modTarget_watch (c : BusIx) (f : Target → Target) (k : Fin 12) : (s.modTarget c f).watch k = s.watch k := rfl

/-! ### setLevel -/

@[simp] theorem setLevel_clock (l : TriggerLine) (h : Bool) : (s.setLevel l h).clock = s.clock := by cases l <;> rfl
@[simp] theorem setLevel_rateHigh (l : TriggerLine) (h : Bool) : (s.setLevel l h).rateHigh = s.rateHigh := by cases l <;> rfl
@[simp] theorem setLevel_ports (l : TriggerLine) (h : Bool) : (s.setLevel l h).ports = s.ports := by cases l <;> rfl
@[simp] theorem setLevel_sessions (l : TriggerLine) (h : Bool) : (s.setLevel l h).sessions = s.sessions := by cases l <;> rfl
@[simp] theorem setLevel_records (l : TriggerLine) (h : Bool) : (s.setLevel l h).records = s.records := by cases l <;> rfl
@[simp] theorem setLevel_leases (l : TriggerLine) (h : Bool) : (s.setLevel l h).leases = s.leases := by cases l <;> rfl
@[simp] theorem setLevel_waiting (l : TriggerLine) (h : Bool) : (s.setLevel l h).waiting = s.waiting := by cases l <;> rfl
@[simp] theorem setLevel_groups (l : TriggerLine) (h : Bool) : (s.setLevel l h).groups = s.groups := by cases l <;> rfl
@[simp] theorem setLevel_watches (l : TriggerLine) (h : Bool) : (s.setLevel l h).watches = s.watches := by cases l <;> rfl
@[simp] theorem setLevel_buses (l : TriggerLine) (h : Bool) : (s.setLevel l h).buses = s.buses := by cases l <;> rfl
@[simp] theorem setLevel_freeIndex (l : TriggerLine) (h : Bool) : (s.setLevel l h).freeIndex = s.freeIndex := by cases l <;> rfl
@[simp] theorem setLevel_pending (l : TriggerLine) (h : Bool) : (s.setLevel l h).pending = s.pending := by cases l <;> rfl
@[simp] theorem setLevel_bus (l : TriggerLine) (h : Bool) (b : BusIx) : (s.setLevel l h).bus b = s.bus b := by cases l <;> rfl
@[simp] theorem setLevel_port (l : TriggerLine) (h : Bool) (n : PortIx) : (s.setLevel l h).port n = s.port n := by cases l <;> rfl
@[simp] theorem setLevel_session (l : TriggerLine) (h : Bool) (n : PortIx) : (s.setLevel l h).session n = s.session n := by cases l <;> rfl
@[simp] theorem setLevel_record (l : TriggerLine) (h : Bool) (k : Fin 64) : (s.setLevel l h).record k = s.record k := by cases l <;> rfl
@[simp] theorem setLevel_lease (l : TriggerLine) (h : Bool) (k : Fin 16) : (s.setLevel l h).lease k = s.lease k := by cases l <;> rfl
@[simp] theorem setLevel_waitingOrder (l : TriggerLine) (h : Bool) (b : BusIx) : (s.setLevel l h).waitingOrder b = s.waitingOrder b := by cases l <;> rfl
@[simp] theorem setLevel_group (l : TriggerLine) (h : Bool) (k : Fin 8) : (s.setLevel l h).group k = s.group k := by cases l <;> rfl
@[simp] theorem setLevel_watch (l : TriggerLine) (h : Bool) (k : Fin 12) : (s.setLevel l h).watch k = s.watch k := by cases l <;> rfl

/-! ### unstage -/

@[simp] theorem unstage_clock (i : Fin 64) : (s.unstage i).clock = s.clock := rfl
@[simp] theorem unstage_rateHigh (i : Fin 64) : (s.unstage i).rateHigh = s.rateHigh := rfl
@[simp] theorem unstage_ports (i : Fin 64) : (s.unstage i).ports = s.ports := rfl
@[simp] theorem unstage_sessions (i : Fin 64) : (s.unstage i).sessions = s.sessions := rfl
@[simp] theorem unstage_records (i : Fin 64) : (s.unstage i).records = s.records := rfl
@[simp] theorem unstage_leases (i : Fin 64) : (s.unstage i).leases = s.leases := rfl
@[simp] theorem unstage_waiting (i : Fin 64) : (s.unstage i).waiting = s.waiting := rfl
@[simp] theorem unstage_watches (i : Fin 64) : (s.unstage i).watches = s.watches := rfl
@[simp] theorem unstage_levels (i : Fin 64) : (s.unstage i).levels = s.levels := rfl
@[simp] theorem unstage_buses (i : Fin 64) : (s.unstage i).buses = s.buses := rfl
@[simp] theorem unstage_freeIndex (i : Fin 64) : (s.unstage i).freeIndex = s.freeIndex := rfl
@[simp] theorem unstage_pending (i : Fin 64) : (s.unstage i).pending = s.pending := rfl
@[simp] theorem unstage_bus (i : Fin 64) (b : BusIx) : (s.unstage i).bus b = s.bus b := rfl
@[simp] theorem unstage_port (i : Fin 64) (n : PortIx) : (s.unstage i).port n = s.port n := rfl
@[simp] theorem unstage_session (i : Fin 64) (n : PortIx) : (s.unstage i).session n = s.session n := rfl
@[simp] theorem unstage_record (i : Fin 64) (k : Fin 64) : (s.unstage i).record k = s.record k := rfl
@[simp] theorem unstage_lease (i : Fin 64) (k : Fin 16) : (s.unstage i).lease k = s.lease k := rfl
@[simp] theorem unstage_waitingOrder (i : Fin 64) (b : BusIx) : (s.unstage i).waitingOrder b = s.waitingOrder b := rfl
@[simp] theorem unstage_watch (i : Fin 64) (k : Fin 12) : (s.unstage i).watch k = s.watch k := rfl

/-! ### freeLeasesOf -/

@[simp] theorem freeLeasesOf_clock (p : PortIx) : (s.freeLeasesOf p).clock = s.clock := rfl
@[simp] theorem freeLeasesOf_rateHigh (p : PortIx) : (s.freeLeasesOf p).rateHigh = s.rateHigh := rfl
@[simp] theorem freeLeasesOf_ports (p : PortIx) : (s.freeLeasesOf p).ports = s.ports := rfl
@[simp] theorem freeLeasesOf_sessions (p : PortIx) : (s.freeLeasesOf p).sessions = s.sessions := rfl
@[simp] theorem freeLeasesOf_records (p : PortIx) : (s.freeLeasesOf p).records = s.records := rfl
@[simp] theorem freeLeasesOf_groups (p : PortIx) : (s.freeLeasesOf p).groups = s.groups := rfl
@[simp] theorem freeLeasesOf_watches (p : PortIx) : (s.freeLeasesOf p).watches = s.watches := rfl
@[simp] theorem freeLeasesOf_levels (p : PortIx) : (s.freeLeasesOf p).levels = s.levels := rfl
@[simp] theorem freeLeasesOf_buses (p : PortIx) : (s.freeLeasesOf p).buses = s.buses := rfl
@[simp] theorem freeLeasesOf_freeIndex (p : PortIx) : (s.freeLeasesOf p).freeIndex = s.freeIndex := rfl
@[simp] theorem freeLeasesOf_pending (p : PortIx) : (s.freeLeasesOf p).pending = s.pending := rfl
@[simp] theorem freeLeasesOf_bus (p : PortIx) (b : BusIx) : (s.freeLeasesOf p).bus b = s.bus b := rfl
@[simp] theorem freeLeasesOf_port (p : PortIx) (n : PortIx) : (s.freeLeasesOf p).port n = s.port n := rfl
@[simp] theorem freeLeasesOf_session (p : PortIx) (n : PortIx) : (s.freeLeasesOf p).session n = s.session n := rfl
@[simp] theorem freeLeasesOf_record (p : PortIx) (k : Fin 64) : (s.freeLeasesOf p).record k = s.record k := rfl
@[simp] theorem freeLeasesOf_group (p : PortIx) (k : Fin 8) : (s.freeLeasesOf p).group k = s.group k := rfl
@[simp] theorem freeLeasesOf_watch (p : PortIx) (k : Fin 12) : (s.freeLeasesOf p).watch k = s.watch k := rfl

/-! ### freeGroupsOf -/

@[simp] theorem freeGroupsOf_clock (p : PortIx) : (s.freeGroupsOf p).clock = s.clock := rfl
@[simp] theorem freeGroupsOf_rateHigh (p : PortIx) : (s.freeGroupsOf p).rateHigh = s.rateHigh := rfl
@[simp] theorem freeGroupsOf_ports (p : PortIx) : (s.freeGroupsOf p).ports = s.ports := rfl
@[simp] theorem freeGroupsOf_sessions (p : PortIx) : (s.freeGroupsOf p).sessions = s.sessions := rfl
@[simp] theorem freeGroupsOf_records (p : PortIx) : (s.freeGroupsOf p).records = s.records := rfl
@[simp] theorem freeGroupsOf_leases (p : PortIx) : (s.freeGroupsOf p).leases = s.leases := rfl
@[simp] theorem freeGroupsOf_waiting (p : PortIx) : (s.freeGroupsOf p).waiting = s.waiting := rfl
@[simp] theorem freeGroupsOf_watches (p : PortIx) : (s.freeGroupsOf p).watches = s.watches := rfl
@[simp] theorem freeGroupsOf_levels (p : PortIx) : (s.freeGroupsOf p).levels = s.levels := rfl
@[simp] theorem freeGroupsOf_buses (p : PortIx) : (s.freeGroupsOf p).buses = s.buses := rfl
@[simp] theorem freeGroupsOf_freeIndex (p : PortIx) : (s.freeGroupsOf p).freeIndex = s.freeIndex := rfl
@[simp] theorem freeGroupsOf_pending (p : PortIx) : (s.freeGroupsOf p).pending = s.pending := rfl
@[simp] theorem freeGroupsOf_bus (p : PortIx) (b : BusIx) : (s.freeGroupsOf p).bus b = s.bus b := rfl
@[simp] theorem freeGroupsOf_port (p : PortIx) (n : PortIx) : (s.freeGroupsOf p).port n = s.port n := rfl
@[simp] theorem freeGroupsOf_session (p : PortIx) (n : PortIx) : (s.freeGroupsOf p).session n = s.session n := rfl
@[simp] theorem freeGroupsOf_record (p : PortIx) (k : Fin 64) : (s.freeGroupsOf p).record k = s.record k := rfl
@[simp] theorem freeGroupsOf_lease (p : PortIx) (k : Fin 16) : (s.freeGroupsOf p).lease k = s.lease k := rfl
@[simp] theorem freeGroupsOf_waitingOrder (p : PortIx) (b : BusIx) : (s.freeGroupsOf p).waitingOrder b = s.waitingOrder b := rfl
@[simp] theorem freeGroupsOf_watch (p : PortIx) (k : Fin 12) : (s.freeGroupsOf p).watch k = s.watch k := rfl

/-! ### clearCounters -/

@[simp] theorem clearCounters_clock : (s.clearCounters).clock = s.clock := rfl
@[simp] theorem clearCounters_rateHigh : (s.clearCounters).rateHigh = s.rateHigh := rfl
@[simp] theorem clearCounters_sessions : (s.clearCounters).sessions = s.sessions := rfl
@[simp] theorem clearCounters_records : (s.clearCounters).records = s.records := rfl
@[simp] theorem clearCounters_leases : (s.clearCounters).leases = s.leases := rfl
@[simp] theorem clearCounters_waiting : (s.clearCounters).waiting = s.waiting := rfl
@[simp] theorem clearCounters_groups : (s.clearCounters).groups = s.groups := rfl
@[simp] theorem clearCounters_watches : (s.clearCounters).watches = s.watches := rfl
@[simp] theorem clearCounters_levels : (s.clearCounters).levels = s.levels := rfl
@[simp] theorem clearCounters_freeIndex : (s.clearCounters).freeIndex = s.freeIndex := rfl
@[simp] theorem clearCounters_pending : (s.clearCounters).pending = s.pending := rfl
@[simp] theorem clearCounters_session (n : PortIx) : (s.clearCounters).session n = s.session n := rfl
@[simp] theorem clearCounters_record (k : Fin 64) : (s.clearCounters).record k = s.record k := rfl
@[simp] theorem clearCounters_lease (k : Fin 16) : (s.clearCounters).lease k = s.lease k := rfl
@[simp] theorem clearCounters_waitingOrder (b : BusIx) : (s.clearCounters).waitingOrder b = s.waitingOrder b := rfl
@[simp] theorem clearCounters_group (k : Fin 8) : (s.clearCounters).group k = s.group k := rfl
@[simp] theorem clearCounters_watch (k : Fin 12) : (s.clearCounters).watch k = s.watch k := rfl

/-! ### spendFree -/

@[simp] theorem spendFree_clock : (s.spendFree).clock = s.clock := rfl
@[simp] theorem spendFree_rateHigh : (s.spendFree).rateHigh = s.rateHigh := rfl
@[simp] theorem spendFree_ports : (s.spendFree).ports = s.ports := rfl
@[simp] theorem spendFree_sessions : (s.spendFree).sessions = s.sessions := rfl
@[simp] theorem spendFree_records : (s.spendFree).records = s.records := rfl
@[simp] theorem spendFree_leases : (s.spendFree).leases = s.leases := rfl
@[simp] theorem spendFree_waiting : (s.spendFree).waiting = s.waiting := rfl
@[simp] theorem spendFree_groups : (s.spendFree).groups = s.groups := rfl
@[simp] theorem spendFree_watches : (s.spendFree).watches = s.watches := rfl
@[simp] theorem spendFree_levels : (s.spendFree).levels = s.levels := rfl
@[simp] theorem spendFree_buses : (s.spendFree).buses = s.buses := rfl
@[simp] theorem spendFree_pending : (s.spendFree).pending = s.pending := rfl
@[simp] theorem spendFree_bus (b : BusIx) : (s.spendFree).bus b = s.bus b := rfl
@[simp] theorem spendFree_port (n : PortIx) : (s.spendFree).port n = s.port n := rfl
@[simp] theorem spendFree_session (n : PortIx) : (s.spendFree).session n = s.session n := rfl
@[simp] theorem spendFree_record (k : Fin 64) : (s.spendFree).record k = s.record k := rfl
@[simp] theorem spendFree_lease (k : Fin 16) : (s.spendFree).lease k = s.lease k := rfl
@[simp] theorem spendFree_waitingOrder (b : BusIx) : (s.spendFree).waitingOrder b = s.waitingOrder b := rfl
@[simp] theorem spendFree_group (k : Fin 8) : (s.spendFree).group k = s.group k := rfl
@[simp] theorem spendFree_watch (k : Fin 12) : (s.spendFree).watch k = s.watch k := rfl

/-! ### appendReply -/

@[simp] theorem appendReply_clock (p : PortIx) (m : Message) : (s.appendReply p m).clock = s.clock := rfl
@[simp] theorem appendReply_rateHigh (p : PortIx) (m : Message) : (s.appendReply p m).rateHigh = s.rateHigh := rfl
@[simp] theorem appendReply_sessions (p : PortIx) (m : Message) : (s.appendReply p m).sessions = s.sessions := rfl
@[simp] theorem appendReply_records (p : PortIx) (m : Message) : (s.appendReply p m).records = s.records := rfl
@[simp] theorem appendReply_leases (p : PortIx) (m : Message) : (s.appendReply p m).leases = s.leases := rfl
@[simp] theorem appendReply_waiting (p : PortIx) (m : Message) : (s.appendReply p m).waiting = s.waiting := rfl
@[simp] theorem appendReply_groups (p : PortIx) (m : Message) : (s.appendReply p m).groups = s.groups := rfl
@[simp] theorem appendReply_watches (p : PortIx) (m : Message) : (s.appendReply p m).watches = s.watches := rfl
@[simp] theorem appendReply_levels (p : PortIx) (m : Message) : (s.appendReply p m).levels = s.levels := rfl
@[simp] theorem appendReply_buses (p : PortIx) (m : Message) : (s.appendReply p m).buses = s.buses := rfl
@[simp] theorem appendReply_freeIndex (p : PortIx) (m : Message) : (s.appendReply p m).freeIndex = s.freeIndex := rfl
@[simp] theorem appendReply_pending (p : PortIx) (m : Message) : (s.appendReply p m).pending = s.pending := rfl
@[simp] theorem appendReply_bus (p : PortIx) (m : Message) (b : BusIx) : (s.appendReply p m).bus b = s.bus b := rfl
@[simp] theorem appendReply_session (p : PortIx) (m : Message) (n : PortIx) : (s.appendReply p m).session n = s.session n := rfl
@[simp] theorem appendReply_record (p : PortIx) (m : Message) (k : Fin 64) : (s.appendReply p m).record k = s.record k := rfl
@[simp] theorem appendReply_lease (p : PortIx) (m : Message) (k : Fin 16) : (s.appendReply p m).lease k = s.lease k := rfl
@[simp] theorem appendReply_waitingOrder (p : PortIx) (m : Message) (b : BusIx) : (s.appendReply p m).waitingOrder b = s.waitingOrder b := rfl
@[simp] theorem appendReply_group (p : PortIx) (m : Message) (k : Fin 8) : (s.appendReply p m).group k = s.group k := rfl
@[simp] theorem appendReply_watch (p : PortIx) (m : Message) (k : Fin 12) : (s.appendReply p m).watch k = s.watch k := rfl

/-! ### respond -/

@[simp] theorem respond_clock (p : PortIx) (x y : Byte) (m : Message) : (s.respond p x y m).clock = s.clock := rfl
@[simp] theorem respond_rateHigh (p : PortIx) (x y : Byte) (m : Message) : (s.respond p x y m).rateHigh = s.rateHigh := rfl
@[simp] theorem respond_sessions (p : PortIx) (x y : Byte) (m : Message) : (s.respond p x y m).sessions = s.sessions := rfl
@[simp] theorem respond_records (p : PortIx) (x y : Byte) (m : Message) : (s.respond p x y m).records = s.records := rfl
@[simp] theorem respond_leases (p : PortIx) (x y : Byte) (m : Message) : (s.respond p x y m).leases = s.leases := rfl
@[simp] theorem respond_waiting (p : PortIx) (x y : Byte) (m : Message) : (s.respond p x y m).waiting = s.waiting := rfl
@[simp] theorem respond_groups (p : PortIx) (x y : Byte) (m : Message) : (s.respond p x y m).groups = s.groups := rfl
@[simp] theorem respond_watches (p : PortIx) (x y : Byte) (m : Message) : (s.respond p x y m).watches = s.watches := rfl
@[simp] theorem respond_levels (p : PortIx) (x y : Byte) (m : Message) : (s.respond p x y m).levels = s.levels := rfl
@[simp] theorem respond_buses (p : PortIx) (x y : Byte) (m : Message) : (s.respond p x y m).buses = s.buses := rfl
@[simp] theorem respond_freeIndex (p : PortIx) (x y : Byte) (m : Message) : (s.respond p x y m).freeIndex = s.freeIndex := rfl
@[simp] theorem respond_pending (p : PortIx) (x y : Byte) (m : Message) : (s.respond p x y m).pending = s.pending := rfl
@[simp] theorem respond_bus (p : PortIx) (x y : Byte) (m : Message) (b : BusIx) : (s.respond p x y m).bus b = s.bus b := rfl
@[simp] theorem respond_session (p : PortIx) (x y : Byte) (m : Message) (n : PortIx) : (s.respond p x y m).session n = s.session n := rfl
@[simp] theorem respond_record (p : PortIx) (x y : Byte) (m : Message) (k : Fin 64) : (s.respond p x y m).record k = s.record k := rfl
@[simp] theorem respond_lease (p : PortIx) (x y : Byte) (m : Message) (k : Fin 16) : (s.respond p x y m).lease k = s.lease k := rfl
@[simp] theorem respond_waitingOrder (p : PortIx) (x y : Byte) (m : Message) (b : BusIx) : (s.respond p x y m).waitingOrder b = s.waitingOrder b := rfl
@[simp] theorem respond_group (p : PortIx) (x y : Byte) (m : Message) (k : Fin 8) : (s.respond p x y m).group k = s.group k := rfl
@[simp] theorem respond_watch (p : PortIx) (x y : Byte) (m : Message) (k : Fin 12) : (s.respond p x y m).watch k = s.watch k := rfl

/-! ### frameSent -/

@[simp] theorem frameSent_clock (p : PortIx) : (s.frameSent p).clock = s.clock := rfl
@[simp] theorem frameSent_rateHigh (p : PortIx) : (s.frameSent p).rateHigh = s.rateHigh := rfl
@[simp] theorem frameSent_sessions (p : PortIx) : (s.frameSent p).sessions = s.sessions := rfl
@[simp] theorem frameSent_records (p : PortIx) : (s.frameSent p).records = s.records := rfl
@[simp] theorem frameSent_leases (p : PortIx) : (s.frameSent p).leases = s.leases := rfl
@[simp] theorem frameSent_waiting (p : PortIx) : (s.frameSent p).waiting = s.waiting := rfl
@[simp] theorem frameSent_groups (p : PortIx) : (s.frameSent p).groups = s.groups := rfl
@[simp] theorem frameSent_watches (p : PortIx) : (s.frameSent p).watches = s.watches := rfl
@[simp] theorem frameSent_levels (p : PortIx) : (s.frameSent p).levels = s.levels := rfl
@[simp] theorem frameSent_buses (p : PortIx) : (s.frameSent p).buses = s.buses := rfl
@[simp] theorem frameSent_freeIndex (p : PortIx) : (s.frameSent p).freeIndex = s.freeIndex := rfl
@[simp] theorem frameSent_pending (p : PortIx) : (s.frameSent p).pending = s.pending := rfl
@[simp] theorem frameSent_bus (p : PortIx) (b : BusIx) : (s.frameSent p).bus b = s.bus b := rfl
@[simp] theorem frameSent_session (p : PortIx) (n : PortIx) : (s.frameSent p).session n = s.session n := rfl
@[simp] theorem frameSent_record (p : PortIx) (k : Fin 64) : (s.frameSent p).record k = s.record k := rfl
@[simp] theorem frameSent_lease (p : PortIx) (k : Fin 16) : (s.frameSent p).lease k = s.lease k := rfl
@[simp] theorem frameSent_waitingOrder (p : PortIx) (b : BusIx) : (s.frameSent p).waitingOrder b = s.waitingOrder b := rfl
@[simp] theorem frameSent_group (p : PortIx) (k : Fin 8) : (s.frameSent p).group k = s.group k := rfl
@[simp] theorem frameSent_watch (p : PortIx) (k : Fin 12) : (s.frameSent p).watch k = s.watch k := rfl

/-! ### modRecord -/

@[simp] theorem modRecord_clock (i : Fin 64) (f : Record → Record) : (s.modRecord i f).clock = s.clock := by
  unfold modRecord; split <;> rfl
@[simp] theorem modRecord_rateHigh (i : Fin 64) (f : Record → Record) : (s.modRecord i f).rateHigh = s.rateHigh := by
  unfold modRecord; split <;> rfl
@[simp] theorem modRecord_ports (i : Fin 64) (f : Record → Record) : (s.modRecord i f).ports = s.ports := by
  unfold modRecord; split <;> rfl
@[simp] theorem modRecord_sessions (i : Fin 64) (f : Record → Record) : (s.modRecord i f).sessions = s.sessions := by
  unfold modRecord; split <;> rfl
@[simp] theorem modRecord_leases (i : Fin 64) (f : Record → Record) : (s.modRecord i f).leases = s.leases := by
  unfold modRecord; split <;> rfl
@[simp] theorem modRecord_waiting (i : Fin 64) (f : Record → Record) : (s.modRecord i f).waiting = s.waiting := by
  unfold modRecord; split <;> rfl
@[simp] theorem modRecord_groups (i : Fin 64) (f : Record → Record) : (s.modRecord i f).groups = s.groups := by
  unfold modRecord; split <;> rfl
@[simp] theorem modRecord_watches (i : Fin 64) (f : Record → Record) : (s.modRecord i f).watches = s.watches := by
  unfold modRecord; split <;> rfl
@[simp] theorem modRecord_levels (i : Fin 64) (f : Record → Record) : (s.modRecord i f).levels = s.levels := by
  unfold modRecord; split <;> rfl
@[simp] theorem modRecord_buses (i : Fin 64) (f : Record → Record) : (s.modRecord i f).buses = s.buses := by
  unfold modRecord; split <;> rfl
@[simp] theorem modRecord_freeIndex (i : Fin 64) (f : Record → Record) : (s.modRecord i f).freeIndex = s.freeIndex := by
  unfold modRecord; split <;> rfl
@[simp] theorem modRecord_pending (i : Fin 64) (f : Record → Record) : (s.modRecord i f).pending = s.pending := by
  unfold modRecord; split <;> rfl
@[simp] theorem modRecord_bus (i : Fin 64) (f : Record → Record) (b : BusIx) : (s.modRecord i f).bus b = s.bus b := by
  unfold modRecord; split <;> rfl
@[simp] theorem modRecord_port (i : Fin 64) (f : Record → Record) (n : PortIx) : (s.modRecord i f).port n = s.port n := by
  unfold modRecord; split <;> rfl
@[simp] theorem modRecord_session (i : Fin 64) (f : Record → Record) (n : PortIx) : (s.modRecord i f).session n = s.session n := by
  unfold modRecord; split <;> rfl
@[simp] theorem modRecord_lease (i : Fin 64) (f : Record → Record) (k : Fin 16) : (s.modRecord i f).lease k = s.lease k := by
  unfold modRecord; split <;> rfl
@[simp] theorem modRecord_waitingOrder (i : Fin 64) (f : Record → Record) (b : BusIx) : (s.modRecord i f).waitingOrder b = s.waitingOrder b := by
  unfold modRecord; split <;> rfl
@[simp] theorem modRecord_group (i : Fin 64) (f : Record → Record) (k : Fin 8) : (s.modRecord i f).group k = s.group k := by
  unfold modRecord; split <;> rfl
@[simp] theorem modRecord_watch (i : Fin 64) (f : Record → Record) (k : Fin 12) : (s.modRecord i f).watch k = s.watch k := by
  unfold modRecord; split <;> rfl

/-! ### modWatch -/

@[simp] theorem modWatch_clock (i : Fin 12) (f : Watch → Watch) : (s.modWatch i f).clock = s.clock := by
  unfold modWatch; split <;> rfl
@[simp] theorem modWatch_rateHigh (i : Fin 12) (f : Watch → Watch) : (s.modWatch i f).rateHigh = s.rateHigh := by
  unfold modWatch; split <;> rfl
@[simp] theorem modWatch_ports (i : Fin 12) (f : Watch → Watch) : (s.modWatch i f).ports = s.ports := by
  unfold modWatch; split <;> rfl
@[simp] theorem modWatch_sessions (i : Fin 12) (f : Watch → Watch) : (s.modWatch i f).sessions = s.sessions := by
  unfold modWatch; split <;> rfl
@[simp] theorem modWatch_records (i : Fin 12) (f : Watch → Watch) : (s.modWatch i f).records = s.records := by
  unfold modWatch; split <;> rfl
@[simp] theorem modWatch_leases (i : Fin 12) (f : Watch → Watch) : (s.modWatch i f).leases = s.leases := by
  unfold modWatch; split <;> rfl
@[simp] theorem modWatch_waiting (i : Fin 12) (f : Watch → Watch) : (s.modWatch i f).waiting = s.waiting := by
  unfold modWatch; split <;> rfl
@[simp] theorem modWatch_groups (i : Fin 12) (f : Watch → Watch) : (s.modWatch i f).groups = s.groups := by
  unfold modWatch; split <;> rfl
@[simp] theorem modWatch_levels (i : Fin 12) (f : Watch → Watch) : (s.modWatch i f).levels = s.levels := by
  unfold modWatch; split <;> rfl
@[simp] theorem modWatch_buses (i : Fin 12) (f : Watch → Watch) : (s.modWatch i f).buses = s.buses := by
  unfold modWatch; split <;> rfl
@[simp] theorem modWatch_freeIndex (i : Fin 12) (f : Watch → Watch) : (s.modWatch i f).freeIndex = s.freeIndex := by
  unfold modWatch; split <;> rfl
@[simp] theorem modWatch_pending (i : Fin 12) (f : Watch → Watch) : (s.modWatch i f).pending = s.pending := by
  unfold modWatch; split <;> rfl
@[simp] theorem modWatch_bus (i : Fin 12) (f : Watch → Watch) (b : BusIx) : (s.modWatch i f).bus b = s.bus b := by
  unfold modWatch; split <;> rfl
@[simp] theorem modWatch_port (i : Fin 12) (f : Watch → Watch) (n : PortIx) : (s.modWatch i f).port n = s.port n := by
  unfold modWatch; split <;> rfl
@[simp] theorem modWatch_session (i : Fin 12) (f : Watch → Watch) (n : PortIx) : (s.modWatch i f).session n = s.session n := by
  unfold modWatch; split <;> rfl
@[simp] theorem modWatch_record (i : Fin 12) (f : Watch → Watch) (k : Fin 64) : (s.modWatch i f).record k = s.record k := by
  unfold modWatch; split <;> rfl
@[simp] theorem modWatch_lease (i : Fin 12) (f : Watch → Watch) (k : Fin 16) : (s.modWatch i f).lease k = s.lease k := by
  unfold modWatch; split <;> rfl
@[simp] theorem modWatch_waitingOrder (i : Fin 12) (f : Watch → Watch) (b : BusIx) : (s.modWatch i f).waitingOrder b = s.waitingOrder b := by
  unfold modWatch; split <;> rfl
@[simp] theorem modWatch_group (i : Fin 12) (f : Watch → Watch) (k : Fin 8) : (s.modWatch i f).group k = s.group k := by
  unfold modWatch; split <;> rfl

/-! ### What is read back -/

theorem setBus_bus (c b : BusIx) (x : Bus) : (s.setBus c x).bus b = if b = c then x else s.bus b := by
  simp only [setBus, bus, Fin.getElem_fin, Vector.getElem_set, Fin.ext_iff, eq_comm]

theorem modBus_bus (c b : BusIx) (f : Bus → Bus) :
    (s.modBus c f).bus b = if b = c then f (s.bus c) else s.bus b := setBus_bus s c b _

theorem modPort_port (p n : PortIx) (f : Port → Port) :
    (s.modPort p f).port n = if n = p then f (s.port p) else s.port n := by
  simp only [modPort, port, Fin.getElem_fin, Vector.getElem_set, Fin.ext_iff, eq_comm]

theorem modSession_session (p n : PortIx) (f : Session → Session) :
    (s.modSession p f).session n = if n = p then f (s.session p) else s.session n := by
  simp only [modSession, session, Fin.getElem_fin, Vector.getElem_set, Fin.ext_iff, eq_comm]

theorem putRecord_record (i k : Fin 64) (r : Record) :
    (s.putRecord i r).record k = if k = i then some r else s.record k := by
  simp only [putRecord, record, Fin.getElem_fin, Vector.getElem_set, Fin.ext_iff, eq_comm]
  split <;> rfl

theorem freeRecord_record (i k : Fin 64) :
    (s.freeRecord i).record k = if k = i then none else s.record k := by
  simp only [freeRecord, record, Fin.getElem_fin, Vector.getElem_set, Fin.ext_iff, eq_comm]
  split <;> rfl

theorem putLease_lease (i k : Fin 16) (e : Lease) :
    (s.putLease i e).lease k = if k = i then some e else s.lease k := by
  simp only [putLease, lease, Fin.getElem_fin, Vector.getElem_set, Fin.ext_iff, eq_comm]
  split <;> rfl

theorem freeLease_lease (i k : Fin 16) :
    (s.freeLease i).lease k = if k = i then none else s.lease k := by
  simp only [freeLease, lease, Fin.getElem_fin, Vector.getElem_set, Fin.ext_iff, eq_comm]
  split <;> rfl

theorem setWaiting_waitingOrder (c b : BusIx) (w : List (Fin 16)) :
    (s.setWaiting c w).waitingOrder b = if b = c then w else s.waitingOrder b := by
  simp only [setWaiting, waitingOrder, Fin.getElem_fin, Vector.getElem_set, Fin.ext_iff, eq_comm]

theorem putGroup_group (i k : Fin 8) (g : GroupEntry) :
    (s.putGroup i g).group k = if k = i then some g else s.group k := by
  simp only [putGroup, group, Fin.getElem_fin, Vector.getElem_set, Fin.ext_iff, eq_comm]
  split <;> rfl

theorem freeGroup_group (i k : Fin 8) :
    (s.freeGroup i).group k = if k = i then none else s.group k := by
  simp only [freeGroup, group, Fin.getElem_fin, Vector.getElem_set, Fin.ext_iff, eq_comm]
  split <;> rfl

theorem putWatch_watch (i k : Fin 12) (w : Watch) :
    (s.putWatch i w).watch k = if k = i then some w else s.watch k := by
  simp only [putWatch, watch, Fin.getElem_fin, Vector.getElem_set, Fin.ext_iff, eq_comm]
  split <;> rfl

theorem freeWatch_watch (i k : Fin 12) :
    (s.freeWatch i).watch k = if k = i then none else s.watch k := by
  simp only [freeWatch, watch, Fin.getElem_fin, Vector.getElem_set, Fin.ext_iff, eq_comm]
  split <;> rfl

end Sys2Proof.Machine.State
end

