-- ==== Sys2Proof/Laws/Quiet.lean ====
section
/-! SUPPORT. The quiet part of the state: the clock, the serial rate, the sampled levels and the command queue. No shared
operation but `tick` and `setLevel` changes it; one lemma says so for each. -/

namespace Sys2Proof.Machine

/-- The clock, the serial rate, the sampled levels and the command queue. -/
def State.quiet (s : State) : Clock × Bool × Levels × List Instr := (s.clock, s.rateHigh, s.levels, s.pending)

/-- A fold of steps that each keep the quiet part keeps it. -/
theorem quiet_foldl {α : Type} (f : State → α → State) (h : ∀ s x, (f s x).quiet = s.quiet) (l : List α) (s : State) :
    (l.foldl f s).quiet = s.quiet := by
  induction l generalizing s with
  | nil => rfl
  | cons x l ih => simp [ih, h]

@[simp] theorem State.setBus_quiet (s : State) (b : BusIx) (x : Bus) :
    (State.setBus s b x).quiet = s.quiet := rfl

@[simp] theorem State.modBus_quiet (s : State) (b : BusIx) (f : Bus → Bus) :
    (State.modBus s b f).quiet = s.quiet := rfl

@[simp] theorem State.modPort_quiet (s : State) (p : PortIx) (f : Port → Port) :
    (State.modPort s p f).quiet = s.quiet := rfl

@[simp] theorem State.modSession_quiet (s : State) (p : PortIx) (f : Session → Session) :
    (State.modSession s p f).quiet = s.quiet := rfl

@[simp] theorem State.putRecord_quiet (s : State) (i : Fin 64) (r : Record) :
    (State.putRecord s i r).quiet = s.quiet := rfl

@[simp] theorem State.modRecord_quiet (s : State) (i : Fin 64) (f : Record → Record) :
    (State.modRecord s i f).quiet = s.quiet := by
  unfold State.modRecord; split <;> rfl

@[simp] theorem State.freeRecord_quiet (s : State) (i : Fin 64) :
    (State.freeRecord s i).quiet = s.quiet := rfl

@[simp] theorem State.putLease_quiet (s : State) (i : Fin 16) (e : Lease) :
    (State.putLease s i e).quiet = s.quiet := rfl

@[simp] theorem State.freeLease_quiet (s : State) (i : Fin 16) :
    (State.freeLease s i).quiet = s.quiet := rfl

@[simp] theorem State.setWaiting_quiet (s : State) (b : BusIx) (w : List (Fin 16)) :
    (State.setWaiting s b w).quiet = s.quiet := rfl

@[simp] theorem State.putGroup_quiet (s : State) (i : Fin 8) (g : GroupEntry) :
    (State.putGroup s i g).quiet = s.quiet := rfl

@[simp] theorem State.freeGroup_quiet (s : State) (i : Fin 8) :
    (State.freeGroup s i).quiet = s.quiet := rfl

@[simp] theorem State.putWatch_quiet (s : State) (i : Fin 12) (w : Watch) :
    (State.putWatch s i w).quiet = s.quiet := rfl

@[simp] theorem State.modWatch_quiet (s : State) (i : Fin 12) (f : Watch → Watch) :
    (State.modWatch s i f).quiet = s.quiet := by
  unfold State.modWatch; split <;> rfl

@[simp] theorem State.freeWatch_quiet (s : State) (i : Fin 12) :
    (State.freeWatch s i).quiet = s.quiet := rfl

@[simp] theorem State.countBus_quiet (s : State) (b : BusIx) (f : BusCounters → BusCounters) :
    (State.countBus s b f).quiet = s.quiet := rfl

@[simp] theorem State.countPort_quiet (s : State) (p : PortIx) (f : PortCounters → PortCounters) :
    (State.countPort s p f).quiet = s.quiet := rfl

@[simp] theorem State.setEngine_quiet (s : State) (b : BusIx) (e : Engine) :
    (State.setEngine s b e).quiet = s.quiet := rfl

@[simp] theorem State.setLine_quiet (s : State) (b : BusIx) (l : LineState) :
    (State.setLine s b l).quiet = s.quiet := rfl

@[simp] theorem State.setFollowing_quiet (s : State) (b : BusIx) (f : Bool) :
    (State.setFollowing s b f).quiet = s.quiet := rfl

@[simp] theorem State.setQueue_quiet (s : State) (b : BusIx) (q : List QItem) :
    (State.setQueue s b q).quiet = s.quiet := rfl

@[simp] theorem State.modTarget_quiet (s : State) (b : BusIx) (f : Target → Target) :
    (State.modTarget s b f).quiet = s.quiet := rfl

@[simp] theorem State.releaseSource_quiet (s : State) (p : PortIx) (src : Source) :
    (s.releaseSource p src).quiet = s.quiet := by
  cases src <;> simp only [State.releaseSource] <;> (repeat' split) <;> simp

@[simp] theorem State.admitOne_quiet (s : State) (p : PortIx) (src : Source) :
    (State.admitOne s p src).quiet = s.quiet := by
  unfold State.admitOne
  split <;> simp

@[simp] theorem State.offer_quiet (s : State) (p : PortIx) (src : Source) :
    (State.offer s p src).quiet = s.quiet := by
  unfold State.offer
  repeat' split
  all_goals simp

@[simp] theorem State.dropSource_quiet (s : State) (p : PortIx) (src : Source) :
    (State.dropSource s p src).quiet = s.quiet := by simp [State.dropSource]

@[simp] theorem State.admitHead_quiet (s : State) (p : PortIx) :
    (State.admitHead s p).quiet = s.quiet := by
  unfold State.admitHead
  dsimp only
  repeat' split
  all_goals simp

@[simp] theorem State.admitRounds_quiet (n : Nat) (s : State) (p : PortIx) :
    (s.admitRounds n p).quiet = s.quiet := by
  induction n generalizing s with
  | zero => rfl
  | succ n ih => simp only [State.admitRounds]; split <;> simp [ih]

@[simp] theorem State.admitFromList_quiet (s : State) (p : PortIx) :
    (State.admitFromList s p).quiet = s.quiet := by simp [State.admitFromList]

@[simp] theorem State.offerBusEventTo_quiet (s : State) (b : BusIx) (kind : BusEventKind) (p : PortIx) :
    (State.offerBusEventTo s b kind p).quiet = s.quiet := by
  unfold State.offerBusEventTo
  split <;> simp

@[simp] theorem State.offerBusEvent_quiet (s : State) (b : BusIx) (kind : BusEventKind) :
    (State.offerBusEvent s b kind).quiet = s.quiet := by simp [State.offerBusEvent]

@[simp] theorem State.wake_quiet (s : State) (b : BusIx) :
    (State.wake s b).quiet = s.quiet := by
  unfold State.wake
  split <;> simp

@[simp] theorem State.reportFree_quiet (s : State) (b : BusIx) :
    (State.reportFree s b).quiet = s.quiet := by
  unfold State.reportFree
  split <;> simp

@[simp] theorem State.abandonWait_quiet (s : State) (b : BusIx) :
    (State.abandonWait s b).quiet = s.quiet := by
  unfold State.abandonWait
  split <;> simp

@[simp] theorem State.enqueue_quiet (s : State) (b : BusIx) (it : QItem) :
    (State.enqueue s b it).quiet = s.quiet := by simp [State.enqueue]

@[simp] theorem State.join_quiet (s : State) (b : BusIx) (it : QItem) :
    (State.join s b it).quiet = s.quiet := by simp [State.join]

@[simp] theorem State.dequeueRecord_quiet (s : State) (b : BusIx) (i : Fin 64) :
    (State.dequeueRecord s b i).quiet = s.quiet := by simp [State.dequeueRecord]

@[simp] theorem State.dequeueWatch_quiet (s : State) (b : BusIx) (w : Fin 12) :
    (State.dequeueWatch s b w).quiet = s.quiet := by simp [State.dequeueWatch]

@[simp] theorem State.promote_quiet (s : State) (b : BusIx) (it : QItem) :
    (State.promote s b it).quiet = s.quiet := by
  unfold State.promote
  split <;> simp

@[simp] theorem State.promoteDue_quiet (s : State) (b : BusIx) :
    (State.promoteDue s b).quiet = s.quiet := by
  unfold State.promoteDue
  simp [quiet_foldl]

@[simp] theorem State.finishRecord_quiet (s : State) (i : Fin 64) (status : Status) (failing : Option Nat) (bytes : Nat) (data : List Byte) :
    (State.finishRecord s i status failing bytes data).quiet = s.quiet := by
  unfold State.finishRecord
  split <;> simp

@[simp] theorem State.finishWithoutAttempt_quiet (s : State) (i : Fin 64) (status : Status) :
    (State.finishWithoutAttempt s i status).quiet = s.quiet := by simp [State.finishWithoutAttempt]

@[simp] theorem State.closeIfDone_quiet (s : State) (p : PortIx) :
    (State.closeIfDone s p).quiet = s.quiet := by
  unfold State.closeIfDone
  split <;> simp

@[simp] theorem State.finishAttempted_quiet (s : State) (i : Fin 64) (b : BusIx) (a : Attempt) (status : Status) :
    (State.finishAttempted s i b a status).quiet = s.quiet := by
  unfold State.finishAttempted
  split <;> simp

@[simp] theorem State.retryRecord_quiet (s : State) (i : Fin 64) (why : Status) :
    (State.retryRecord s i why).quiet = s.quiet := by
  unfold State.retryRecord
  repeat' split
  all_goals simp

@[simp] theorem State.recordOutcome_quiet (s : State) (i : Fin 64) (a : Attempt) (e : AttemptEnd) :
    (State.recordOutcome s i a e).quiet = s.quiet := by
  unfold State.recordOutcome
  repeat' split
  all_goals simp

@[simp] theorem State.abortAttempt_quiet (s : State) (b : BusIx) :
    (State.abortAttempt s b).quiet = s.quiet := by
  unfold State.abortAttempt
  repeat' split
  all_goals simp

@[simp] theorem State.abortRecord_quiet (s : State) (i : Fin 64) :
    (State.abortRecord s i).quiet = s.quiet := by
  unfold State.abortRecord
  dsimp only
  repeat' split
  all_goals simp

@[simp] theorem State.acceptSubmit_quiet (s : State) (p : PortIx) (b : BusIx) (x : SubmitBody) (g : Option (Fin 8 × GroupEntry)) (i : Fin 64) :
    (State.acceptSubmit s p b x g i).quiet = s.quiet := by
  unfold State.acceptSubmit
  split <;> simp

@[simp] theorem State.submitFields_quiet (s : State) (p : PortIx) (x : SubmitBody) :
    (State.submitFields s p x).1.quiet = s.quiet := by
  unfold State.submitFields
  repeat' split
  all_goals simp

@[simp] theorem State.submitRequest_quiet (s : State) (p : PortIx) (body : List Byte) :
    (State.submitRequest s p body).1.quiet = s.quiet := by
  unfold State.submitRequest
  split <;> simp

@[simp] theorem State.unstage_quiet (s : State) (i : Fin 64) :
    (State.unstage s i).quiet = s.quiet := rfl

@[simp] theorem State.cancelRequest_quiet (s : State) (p : PortIx) (body : List Byte) :
    (State.cancelRequest s p body).1.quiet = s.quiet := by
  unfold State.cancelRequest
  repeat' split
  all_goals simp

@[simp] theorem State.deadlineReached_quiet (s : State) (i : Fin 64) :
    (State.deadlineReached s i).quiet = s.quiet := by
  unfold State.deadlineReached
  repeat' split
  all_goals simp

@[simp] theorem State.spacingReached_quiet (s : State) (i : Fin 64) :
    (State.spacingReached s i).quiet = s.quiet := by
  unfold State.spacingReached
  repeat' split
  all_goals simp

@[simp] theorem State.grantWaiting_quiet (s : State) (i : Fin 16) (e : Lease) :
    (State.grantWaiting s i e).quiet = s.quiet := by simp [State.grantWaiting]

@[simp] theorem State.walkWaiting_quiet (s : State) (b : BusIx) (kept l : List (Fin 16)) :
    (s.walkWaiting b kept l).quiet = s.quiet := by
  induction l generalizing s kept with
  | nil => simp [State.walkWaiting]
  | cons i l ih =>
    simp only [State.walkWaiting]
    repeat' split
    all_goals simp [ih]

@[simp] theorem State.reexamine_quiet (s : State) (b : BusIx) :
    (State.reexamine s b).quiet = s.quiet := by simp [State.reexamine]

@[simp] theorem State.leaveWaiting_quiet (s : State) (b : BusIx) (i : Fin 16) :
    (State.leaveWaiting s b i).quiet = s.quiet := by simp [State.leaveWaiting]

@[simp] theorem State.afterLeaseLeft_quiet (s : State) (b : BusIx) (wasGranted : Bool) :
    (State.afterLeaseLeft s b wasGranted).quiet = s.quiet := by
  unfold State.afterLeaseLeft
  split <;> simp

@[simp] theorem State.acceptClaim_quiet (s : State) (p : PortIx) (b : BusIx) (low high : Addr) (duration : Half) (conflict : Bool) (i : Fin 16) :
    (State.acceptClaim s p b low high duration conflict i).quiet = s.quiet := by
  unfold State.acceptClaim
  split <;> simp

@[simp] theorem State.claimFields_quiet (s : State) (p : PortIx) (x : ClaimBody) :
    (State.claimFields s p x).1.quiet = s.quiet := by
  unfold State.claimFields
  dsimp only
  repeat' split
  all_goals simp

@[simp] theorem State.claimRequest_quiet (s : State) (p : PortIx) (body : List Byte) :
    (State.claimRequest s p body).1.quiet = s.quiet := by
  unfold State.claimRequest
  split <;> simp

@[simp] theorem State.renewRequest_quiet (s : State) (p : PortIx) (body : List Byte) :
    (State.renewRequest s p body).1.quiet = s.quiet := by
  unfold State.renewRequest
  repeat' split
  all_goals simp

@[simp] theorem State.releaseRequest_quiet (s : State) (p : PortIx) (body : List Byte) :
    (State.releaseRequest s p body).1.quiet = s.quiet := by
  unfold State.releaseRequest
  repeat' split
  all_goals simp

@[simp] theorem State.endLease_quiet (s : State) (i : Fin 16) (e : Lease) (why : EndReason) :
    (State.endLease s i e why).quiet = s.quiet := by simp [State.endLease]

@[simp] theorem State.revokeRequest_quiet (s : State) (p : PortIx) (body : List Byte) :
    (State.revokeRequest s p body).1.quiet = s.quiet := by
  unfold State.revokeRequest
  repeat' split
  all_goals simp

@[simp] theorem State.leaseExpired_quiet (s : State) (i : Fin 16) :
    (State.leaseExpired s i).quiet = s.quiet := by
  unfold State.leaseExpired
  repeat' split
  all_goals simp

@[simp] theorem State.freeLeasesOf_quiet (s : State) (p : PortIx) :
    (State.freeLeasesOf s p).quiet = s.quiet := rfl

@[simp] theorem State.reexamineAfter_quiet (before : State) (p : PortIx) (s : State) (b : BusIx) :
    (State.reexamineAfter before p s b).quiet = s.quiet := by
  unfold State.reexamineAfter
  split <;> simp

@[simp] theorem State.wakeAfter_quiet (before : State) (p : PortIx) (s : State) (b : BusIx) :
    (State.wakeAfter before p s b).quiet = s.quiet := by
  unfold State.wakeAfter
  split <;> simp

@[simp] theorem State.groupCreateRequest_quiet (s : State) (p : PortIx) (body : List Byte) :
    (State.groupCreateRequest s p body).1.quiet = s.quiet := by
  unfold State.groupCreateRequest
  repeat' split
  all_goals simp

@[simp] theorem State.groupArmRequest_quiet (s : State) (p : PortIx) (body : List Byte) :
    (State.groupArmRequest s p body).1.quiet = s.quiet := by
  unfold State.groupArmRequest
  repeat' split
  all_goals simp

@[simp] theorem State.bindLine_quiet (s : State) (i : Fin 8) (g : GroupEntry) (l : TriggerLine) (edge : Byte) :
    (State.bindLine s i g l edge).1.quiet = s.quiet := by
  unfold State.bindLine
  repeat' split
  all_goals simp

@[simp] theorem State.groupBindRequest_quiet (s : State) (p : PortIx) (body : List Byte) :
    (State.groupBindRequest s p body).1.quiet = s.quiet := by
  unfold State.groupBindRequest
  repeat' split
  all_goals simp

@[simp] theorem State.fireRecord_quiet (s : State) (i : Fin 64) :
    (State.fireRecord s i).quiet = s.quiet := by
  unfold State.fireRecord
  repeat' split
  all_goals simp

@[simp] theorem State.fire_quiet (s : State) (i : Fin 8) (g : GroupEntry) (source : FireSource) :
    (State.fire s i g source).quiet = s.quiet := by
  unfold State.fire
  simp [quiet_foldl]

@[simp] theorem State.groupFireRequest_quiet (s : State) (p : PortIx) (body : List Byte) :
    (State.groupFireRequest s p body).1.quiet = s.quiet := by
  unfold State.groupFireRequest
  repeat' split
  all_goals simp

@[simp] theorem State.edge_quiet (s : State) (l : TriggerLine) (rising : Bool) :
    (State.edge s l rising).quiet = s.quiet := by
  unfold State.edge
  repeat' split
  all_goals simp

@[simp] theorem State.deleteGroup_quiet (s : State) (i : Fin 8) (g : GroupEntry) :
    (State.deleteGroup s i g).quiet = s.quiet := by
  unfold State.deleteGroup
  simp [quiet_foldl]

@[simp] theorem State.groupDeleteRequest_quiet (s : State) (p : PortIx) (body : List Byte) :
    (State.groupDeleteRequest s p body).1.quiet = s.quiet := by
  unfold State.groupDeleteRequest
  repeat' split
  all_goals simp

@[simp] theorem State.freeGroupsOf_quiet (s : State) (p : PortIx) :
    (State.freeGroupsOf s p).quiet = s.quiet := rfl

@[simp] theorem State.watchAddFields_quiet (s : State) (p : PortIx) (x : WatchBody) :
    (State.watchAddFields s p x).1.quiet = s.quiet := by
  unfold State.watchAddFields
  repeat' split
  all_goals simp

@[simp] theorem State.watchAddRequest_quiet (s : State) (p : PortIx) (body : List Byte) :
    (State.watchAddRequest s p body).1.quiet = s.quiet := by
  unfold State.watchAddRequest
  split <;> simp

@[simp] theorem State.periodExpired_quiet (s : State) (i : Fin 12) :
    (State.periodExpired s i).quiet = s.quiet := by
  unfold State.periodExpired
  repeat' split
  all_goals simp

@[simp] theorem State.offerWatch_quiet (s : State) (i : Fin 12) :
    (State.offerWatch s i).quiet = s.quiet := by
  unfold State.offerWatch
  repeat' split
  all_goals simp

@[simp] theorem State.watchOutcome_quiet (s : State) (i : Fin 12) (a : Attempt) (e : AttemptEnd) :
    (State.watchOutcome s i a e).quiet = s.quiet := by
  unfold State.watchOutcome
  repeat' split
  all_goals simp

@[simp] theorem State.discardWatchReports_quiet (s : State) (i : Fin 12) (w : Watch) :
    (State.discardWatchReports s i w).quiet = s.quiet := by
  unfold State.discardWatchReports
  split <;> simp

@[simp] theorem State.removeWatch_quiet (s : State) (i : Fin 12) (w : Watch) (owner : Option PortIx) :
    (State.removeWatch s i w owner).quiet = s.quiet := by
  unfold State.removeWatch
  split <;> simp

@[simp] theorem State.watchRemoveRequest_quiet (s : State) (p : PortIx) (body : List Byte) :
    (State.watchRemoveRequest s p body).1.quiet = s.quiet := by
  unfold State.watchRemoveRequest
  repeat' split
  all_goals simp

@[simp] theorem State.watchResumeRequest_quiet (s : State) (p : PortIx) (body : List Byte) :
    (State.watchResumeRequest s p body).1.quiet = s.quiet := by
  unfold State.watchResumeRequest
  repeat' split
  all_goals simp

@[simp] theorem State.tearWatch_quiet (s : State) (p : PortIx) (i : Fin 12) :
    (State.tearWatch s p i).quiet = s.quiet := by
  unfold State.tearWatch
  repeat' split
  all_goals simp

@[simp] theorem State.tearWatches_quiet (s : State) (p : PortIx) :
    (State.tearWatches s p).quiet = s.quiet := by
  unfold State.tearWatches
  simp [quiet_foldl]

@[simp] theorem State.setInSlot_quiet (s : State) (b : BusIx) (k : Fin 4) (c : InSlot) :
    (State.setInSlot s b k c).quiet = s.quiet := by simp [State.setInSlot]

@[simp] theorem State.completeWrite_quiet (s : State) (b : BusIx) (followedByRead : Bool) :
    (State.completeWrite s b followedByRead).quiet = s.quiet := by
  unfold State.completeWrite
  dsimp only
  repeat' split
  all_goals simp

@[simp] theorem State.endRead_quiet (s : State) (b : BusIx) :
    (State.endRead s b).quiet = s.quiet := by
  unfold State.endRead
  dsimp only
  repeat' split
  all_goals simp

@[simp] theorem State.cutOff_quiet (s : State) (b : BusIx) :
    (State.cutOff s b).quiet = s.quiet := by simp [State.cutOff]

@[simp] theorem State.judgeAddress_quiet (s : State) (b : BusIx) (dir : Direction) :
    (State.judgeAddress s b dir).quiet = s.quiet := by
  unfold State.judgeAddress
  dsimp only
  repeat' split
  all_goals simp

@[simp] theorem State.storeByte_quiet (s : State) (b : BusIx) (x : Byte) :
    (State.storeByte s b x).quiet = s.quiet := by
  unfold State.storeByte
  split <;> simp

@[simp] theorem State.takeByte_quiet (s : State) (b : BusIx) (r : ReadProgress) :
    (State.takeByte s b r).quiet = s.quiet := by
  unfold State.takeByte
  split <;> simp

@[simp] theorem State.readAcknowledged_quiet (s : State) (b : BusIx) (ack : Bool) :
    (State.readAcknowledged s b ack).quiet = s.quiet := by
  unfold State.readAcknowledged
  repeat' split
  all_goals simp

@[simp] theorem State.loseOwnership_quiet (s : State) (p : PortIx) (b : BusIx) :
    (State.loseOwnership s p b).quiet = s.quiet := by simp [State.loseOwnership]

@[simp] theorem State.targetOwnRequest_quiet (s : State) (p : PortIx) (body : List Byte) :
    (State.targetOwnRequest s p body).1.quiet = s.quiet := by
  unfold State.targetOwnRequest
  repeat' split
  all_goals simp

@[simp] theorem State.loadReplace_quiet (s : State) (b : BusIx) (bytes : List Byte) :
    (State.loadReplace s b bytes).1.quiet = s.quiet := by
  unfold State.loadReplace
  split <;> simp

@[simp] theorem State.loadAppend_quiet (s : State) (b : BusIx) (bytes : List Byte) :
    (State.loadAppend s b bytes).1.quiet = s.quiet := by
  unfold State.loadAppend
  dsimp only
  repeat' split
  all_goals simp

@[simp] theorem State.targetLoadRequest_quiet (s : State) (p : PortIx) (body : List Byte) :
    (State.targetLoadRequest s p body).1.quiet = s.quiet := by
  unfold State.targetLoadRequest
  repeat' split
  all_goals simp

@[simp] theorem State.enterDisabled_quiet (s : State) (b : BusIx) :
    (State.enterDisabled s b).quiet = s.quiet := by simp [State.enterDisabled]

@[simp] theorem State.enterIdle_quiet (s : State) (b : BusIx) :
    (State.enterIdle s b).quiet = s.quiet := by simp [State.enterIdle]

@[simp] theorem State.enterRecovery_quiet (s : State) (b : BusIx) (fromFault : Bool) (atEntry : Option Bool) :
    (State.enterRecovery s b fromFault atEntry).quiet = s.quiet := by simp [State.enterRecovery]

theorem State.leaveAttempt_quiet (s : State) (b : BusIx) (next : State → State)
    (h : ∀ t, (next t).quiet = t.quiet) : (s.leaveAttempt b next).quiet = s.quiet := by
  unfold State.leaveAttempt; split <;> simp [h]

@[simp] theorem State.handOver_quiet (s : State) (a : Attempt) (e : AttemptEnd) :
    (State.handOver s a e).quiet = s.quiet := by
  unfold State.handOver
  split <;> simp

@[simp] theorem State.countCompleted_quiet (s : State) (b : BusIx) (why : StopCause) :
    (State.countCompleted s b why).quiet = s.quiet := by
  unfold State.countCompleted
  split <;> simp

@[simp] theorem State.endAtStop_quiet (s : State) (b : BusIx) (a : Attempt) (why : StopCause) :
    (State.endAtStop s b a why).quiet = s.quiet := by
  unfold State.endAtStop
  refine (State.leaveAttempt_quiet _ _ _ ?_).trans (by simp)
  intro t
  repeat' split
  all_goals simp

@[simp] theorem State.lose_quiet (s : State) (b : BusIx) (a : Attempt) (e : AttemptEnd) (inAddress : Bool) :
    (State.lose s b a e inAddress).quiet = s.quiet := by
  unfold State.lose
  refine (State.leaveAttempt_quiet _ _ _ ?_).trans (by simp)
  intro t
  repeat' split
  all_goals simp

@[simp] theorem State.busError_quiet (s : State) (b : BusIx) (a : Attempt) :
    (State.busError s b a).quiet = s.quiet := by
  unfold State.busError
  refine (State.leaveAttempt_quiet _ _ _ ?_).trans (by simp)
  intro t
  repeat' split
  all_goals simp

@[simp] theorem State.stretchEnd_quiet (s : State) (b : BusIx) (a : Attempt) (atEntry : Option Bool) :
    (State.stretchEnd s b a atEntry).quiet = s.quiet := by
  unfold State.stretchEnd
  refine (State.leaveAttempt_quiet _ _ _ ?_).trans (by simp)
  intro t
  repeat' split
  all_goals simp

@[simp] theorem State.addressAck_quiet (s : State) (b : BusIx) (ack : Bool) :
    (State.addressAck s b ack).quiet = s.quiet := by
  unfold State.addressAck
  dsimp only
  repeat' split
  all_goals simp

@[simp] theorem State.writeAck_quiet (s : State) (b : BusIx) (ack : Bool) :
    (State.writeAck s b ack).quiet = s.quiet := by
  unfold State.writeAck
  repeat' split
  all_goals simp

@[simp] theorem State.readByte_quiet (s : State) (b : BusIx) (x : Byte) :
    (State.readByte s b x).quiet = s.quiet := by
  unfold State.readByte
  repeat' split
  all_goals simp

@[simp] theorem State.startAttempt_quiet (s : State) (b : BusIx) (item : Item) (segments : List Segment) :
    (State.startAttempt s b item segments).quiet = s.quiet := by simp [State.startAttempt]

@[simp] theorem State.select_quiet (s : State) (b : BusIx) (it : QItem) :
    (State.select s b it).quiet = s.quiet := by
  unfold State.select
  repeat' split
  all_goals simp

@[simp] theorem State.waitEnd_quiet (s : State) (b : BusIx) :
    (State.waitEnd s b).quiet = s.quiet := by
  unfold State.waitEnd
  repeat' split
  all_goals simp

@[simp] theorem State.recoveryEnds_quiet (s : State) (b : BusIx) (r : Recovery) :
    (State.recoveryEnds s b r).quiet = s.quiet := by
  unfold State.recoveryEnds
  repeat' split
  all_goals simp

@[simp] theorem State.recoveryFault_quiet (s : State) (b : BusIx) (why : FaultReason) :
    (State.recoveryFault s b why).quiet = s.quiet := by simp [State.recoveryFault]

@[simp] theorem State.leaveFault_quiet (s : State) (b : BusIx) :
    (State.leaveFault s b).quiet = s.quiet := by simp [State.leaveFault]

@[simp] theorem State.recoveryRise_quiet (s : State) (b : BusIx) (datHigh : Bool) :
    (State.recoveryRise s b datHigh).quiet = s.quiet := by
  unfold State.recoveryRise
  repeat' split
  all_goals simp

@[simp] theorem State.recoveryPulse_quiet (s : State) (b : BusIx) (datHigh : Bool) :
    (State.recoveryPulse s b datHigh).quiet = s.quiet := by
  unfold State.recoveryPulse
  repeat' split
  all_goals simp

@[simp] theorem State.recoveryTimeout_quiet (s : State) (b : BusIx) :
    (State.recoveryTimeout s b).quiet = s.quiet := by
  unfold State.recoveryTimeout
  split <;> simp

@[simp] theorem State.recoveryStopHeld_quiet (s : State) (b : BusIx) :
    (State.recoveryStopHeld s b).quiet = s.quiet := by
  unfold State.recoveryStopHeld
  repeat' split
  all_goals simp

@[simp] theorem State.startInAttempt_quiet (s : State) (b : BusIx) (a0 : Attempt) (place : Place) :
    (State.startInAttempt s b a0 place).quiet = s.quiet := by
  unfold State.startInAttempt
  dsimp only
  repeat' split
  all_goals simp

@[simp] theorem State.stopInAttempt_quiet (s : State) (b : BusIx) (a0 : Attempt) (place : Place) :
    (State.stopInAttempt s b a0 place).quiet = s.quiet := by
  unfold State.stopInAttempt
  dsimp only
  repeat' split
  all_goals simp

@[simp] theorem State.countCutOff_quiet (s : State) (b : BusIx) (place : Place) :
    (State.countCutOff s b place).quiet = s.quiet := by
  unfold State.countCutOff
  split <;> simp

@[simp] theorem State.startInTarget_quiet (s : State) (b : BusIx) (place : Place) :
    (State.startInTarget s b place).quiet = s.quiet := by
  unfold State.startInTarget
  split <;> simp

@[simp] theorem State.stopInTarget_quiet (s : State) (b : BusIx) (place : Place) :
    (State.stopInTarget s b place).quiet = s.quiet := by
  unfold State.stopInTarget
  split <;> simp

@[simp] theorem State.startSeen_quiet (s : State) (b : BusIx) (maker : Maker) (place : Place) :
    (State.startSeen s b maker place).quiet = s.quiet := by
  unfold State.startSeen
  repeat' split
  all_goals simp

@[simp] theorem State.stopSeen_quiet (s : State) (b : BusIx) (place : Place) :
    (State.stopSeen s b place).quiet = s.quiet := by
  unfold State.stopSeen
  repeat' split
  all_goals simp

@[simp] theorem State.clkLow_quiet (s : State) (b : BusIx) :
    (State.clkLow s b).quiet = s.quiet := by
  unfold State.clkLow
  split <;> simp

@[simp] theorem State.idleSeen_quiet (s : State) (b : BusIx) :
    (State.idleSeen s b).quiet = s.quiet := by
  unfold State.idleSeen
  repeat' split
  all_goals simp

@[simp] theorem State.stuckReport_quiet (s : State) (b : BusIx) (atEntry : Option Bool) :
    (State.stuckReport s b atEntry).quiet = s.quiet := by
  unfold State.stuckReport
  split <;> simp

@[simp] theorem State.stuckSeen_quiet (s : State) (b : BusIx) (atEntry : Option Bool) :
    (State.stuckSeen s b atEntry).quiet = s.quiet := by
  unfold State.stuckSeen
  split <;> simp

@[simp] theorem State.stretched_quiet (s : State) (b : BusIx) :
    (State.stretched s b).quiet = s.quiet := by
  unfold State.stretched
  split <;> simp

@[simp] theorem State.arbitrationLost_quiet (s : State) (b : BusIx) (bit : LossBit) :
    (State.arbitrationLost s b bit).quiet = s.quiet := by
  unfold State.arbitrationLost
  repeat' split
  all_goals simp

@[simp] theorem State.lostInCondition_quiet (s : State) (b : BusIx) (inRepeatedStart : Bool) :
    (State.lostInCondition s b inRepeatedStart).quiet = s.quiet := by
  unfold State.lostInCondition
  dsimp only
  repeat' split
  all_goals simp

@[simp] theorem State.tailEnds_quiet (s : State) (b : BusIx) (addr : Addr) (dir : Direction) :
    (State.tailEnds s b addr dir).quiet = s.quiet := by
  unfold State.tailEnds
  repeat' split
  all_goals simp

@[simp] theorem State.foreignAddress_quiet (s : State) (b : BusIx) (addr : Addr) (dir : Direction) :
    (State.foreignAddress s b addr dir).quiet = s.quiet := by
  unfold State.foreignAddress
  dsimp only
  repeat' split
  all_goals simp

@[simp] theorem State.foreignOwn_quiet (s : State) (b : BusIx) (dir : Direction) :
    (State.foreignOwn s b dir).quiet = s.quiet := by
  unfold State.foreignOwn
  split <;> simp

@[simp] theorem State.foreignOther_quiet (s : State) (b : BusIx) (addr : Addr) (dir : Direction) :
    (State.foreignOther s b addr dir).quiet = s.quiet := by
  unfold State.foreignOther
  split <;> simp

@[simp] theorem State.targetByte_quiet (s : State) (b : BusIx) (x : Byte) :
    (State.targetByte s b x).quiet = s.quiet := by
  unfold State.targetByte
  split <;> simp

@[simp] theorem State.targetTake_quiet (s : State) (b : BusIx) (ack : Bool) :
    (State.targetTake s b ack).quiet = s.quiet := by
  unfold State.targetTake
  split <;> simp

@[simp] theorem State.dropItem_quiet (s : State) (it : QItem) : (s.dropItem it).quiet = s.quiet := by
  cases it <;> simp [State.dropItem]

@[simp] theorem State.clearQueue_quiet (s : State) (b : BusIx) :
    (State.clearQueue s b).quiet = s.quiet := by
  unfold State.clearQueue
  simp [quiet_foldl]

@[simp] theorem State.disableEngine_quiet (s : State) (b : BusIx) :
    (State.disableEngine s b).quiet = s.quiet := by
  unfold State.disableEngine
  split <;> simp

@[simp] theorem State.modConfig_quiet (s : State) (b : BusIx) (f : BusConfig → BusConfig) :
    (State.modConfig s b f).quiet = s.quiet := by simp [State.modConfig]

@[simp] theorem State.disableBus_quiet (s : State) (b : BusIx) :
    (State.disableBus s b).quiet = s.quiet := by simp [State.disableBus]

@[simp] theorem State.enableBus_quiet (s : State) (b : BusIx) :
    (State.enableBus s b).quiet = s.quiet := by
  unfold State.enableBus
  split <;> simp

@[simp] theorem State.applyValues_quiet (s : State) (b : BusIx) (c : BusConfig) :
    (State.applyValues s b c).quiet = s.quiet := by
  unfold State.applyValues
  dsimp only
  repeat' split
  all_goals simp

@[simp] theorem State.applyConfig_quiet (s : State) (b : BusIx) (c : BusConfig) :
    (State.applyConfig s b c).quiet = s.quiet := by
  unfold State.applyConfig
  repeat' split
  all_goals simp

@[simp] theorem State.busConfigureRequest_quiet (s : State) (p : PortIx) (body : List Byte) :
    (State.busConfigureRequest s p body).1.quiet = s.quiet := by
  unfold State.busConfigureRequest
  dsimp only
  repeat' split
  all_goals simp

@[simp] theorem State.endIfQuiet_quiet (s : State) (b : BusIx) : (State.endIfQuiet s b).quiet = s.quiet := by
  unfold State.endIfQuiet
  split <;> simp

@[simp] theorem State.clockAtEntry_quiet (s before : State) (body : RecoverBody) :
    (State.clockAtEntry s before body).quiet = s.quiet := by
  unfold State.clockAtEntry
  repeat' split
  all_goals simp

@[simp] theorem State.busRecoverRequest_quiet (s : State) (body : List Byte) :
    (State.busRecoverRequest s body).1.quiet = s.quiet := by
  unfold State.busRecoverRequest
  repeat' split
  all_goals simp

@[simp] theorem State.openRequest_quiet (s : State) (p : PortIx) (body : List Byte) :
    (State.openRequest s p body).1.quiet = s.quiet := by
  unfold State.openRequest
  repeat' split
  all_goals simp

@[simp] theorem State.tearRecord_quiet (s : State) (p : PortIx) (i : Fin 64) :
    (State.tearRecord s p i).quiet = s.quiet := by
  unfold State.tearRecord
  repeat' split
  all_goals simp

@[simp] theorem State.tearRecords_quiet (s : State) (p : PortIx) :
    (State.tearRecords s p).quiet = s.quiet := by
  unfold State.tearRecords
  simp [quiet_foldl]

@[simp] theorem State.tearTargets_quiet (s : State) (p : PortIx) :
    (State.tearTargets s p).quiet = s.quiet := by
  unfold State.tearTargets
  refine quiet_foldl _ (fun t b => ?_) _ _
  split <;> simp

@[simp] theorem State.tearSession_quiet (s : State) (p : PortIx) :
    (State.tearSession s p).quiet = s.quiet := by simp [State.tearSession]

@[simp] theorem State.tearOwned_quiet (s : State) (p : PortIx) :
    (State.tearOwned s p).quiet = s.quiet := by simp [State.tearOwned]

@[simp] theorem State.teardown_quiet (s : State) (p : PortIx) :
    (State.teardown s p).quiet = s.quiet := by
  unfold State.teardown
  simp [quiet_foldl]

@[simp] theorem State.closeRequest_quiet (s : State) (p : PortIx) (body : List Byte) :
    (State.closeRequest s p body).1.quiet = s.quiet := by
  unfold State.closeRequest
  split <;> simp

@[simp] theorem State.clearCounters_quiet (s : State) :
    (State.clearCounters s).quiet = s.quiet := rfl

@[simp] theorem State.abortEverywhere_quiet (s : State) :
    (State.abortEverywhere s).quiet = s.quiet := by
  unfold State.abortEverywhere
  simp [quiet_foldl]

@[simp] theorem State.tearIfOpen_quiet (s : State) (p : PortIx) :
    (State.tearIfOpen s p).quiet = s.quiet := by
  unfold State.tearIfOpen
  split <;> simp

@[simp] theorem State.brokerReset_quiet (s : State) :
    (State.brokerReset s).quiet = s.quiet := by simp [State.brokerReset]

@[simp] theorem State.resetBrokerRequest_quiet (s : State) (p : PortIx) (body : List Byte) :
    (State.resetBrokerRequest s p body).1.quiet = s.quiet := by
  unfold State.resetBrokerRequest
  repeat' split
  all_goals simp

theorem State.ackNotices_quiet {s t : State} {p : PortIx} {n : Byte} (h : s.ackNotices p n = some t) :
    t.quiet = s.quiet := by
  unfold State.ackNotices at h
  obtain ⟨rest, -, rfl⟩ := Option.map_eq_some_iff.mp h
  simp

@[simp] theorem State.noticeAck_quiet (s : State) (p : PortIx) (body : List Byte) :
    (s.noticeAck p body).quiet = s.quiet := by
  unfold State.noticeAck
  dsimp only
  split
  · cases h : (parseByte body).bind (s.ackNotices p) with
    | none => simp
    | some t =>
      obtain ⟨n, -, h⟩ := Option.bind_eq_some_iff.mp h
      simpa using State.ackNotices_quiet h
  · simp

@[simp] theorem State.rewindRequest_quiet (s : State) (p : PortIx) (body : List Byte) :
    (State.rewindRequest s p body).1.quiet = s.quiet := by
  unfold State.rewindRequest
  split <;> simp

@[simp] theorem State.timerExpired_quiet (s : State) (p : PortIx) :
    (State.timerExpired s p).quiet = s.quiet := by
  unfold State.timerExpired
  split <;> simp

@[simp] theorem State.chooseFrame_quiet (s : State) (p : PortIx) :
    (State.chooseFrame s p).quiet = s.quiet := by
  unfold State.chooseFrame
  repeat' split
  all_goals simp

@[simp] theorem State.kick_quiet (s : State) (p : PortIx) :
    (State.kick s p).quiet = s.quiet := by
  unfold State.kick
  split <;> simp

@[simp] theorem State.settle_quiet (s : State) :
    (State.settle s).quiet = s.quiet := by simp [State.settle]

@[simp] theorem State.frameSent_quiet (s : State) (p : PortIx) :
    (State.frameSent s p).quiet = s.quiet := rfl

@[simp] theorem State.spendFree_quiet (s : State) :
    (State.spendFree s).quiet = s.quiet := rfl

theorem State.onBus_quiet (s : State) (x : Byte) (f : BusIx → State × Reply)
    (h : ∀ b, (f b).1.quiet = s.quiet) : (s.onBus x f).1.quiet = s.quiet := by
  unfold State.onBus; split <;> simp [h]

@[simp] theorem State.queryBusCounters_quiet (s : State) (b : BusIx) (clear : Bool) :
    (State.queryBusCounters s b clear).1.quiet = s.quiet := by
  unfold State.queryBusCounters
  split <;> simp

@[simp] theorem State.queryPortCounters_quiet (s : State) (n : PortIx) (clear : Bool) :
    (State.queryPortCounters s n clear).1.quiet = s.quiet := by
  unfold State.queryPortCounters
  split <;> simp

@[simp] theorem State.queryCounters_quiet (s : State) (p : PortIx) (scope number clear : Byte) :
    (State.queryCounters s p scope number clear).1.quiet = s.quiet := by
  unfold State.queryCounters
  repeat' split
  all_goals first | rfl | (refine State.onBus_quiet _ _ _ ?_; intro b; simp) | simp

@[simp] theorem State.queryTransaction_quiet (s : State) (tag : Byte) :
    (State.queryTransaction s tag).1.quiet = s.quiet := by
  unfold State.queryTransaction
  split <;> simp

@[simp] theorem State.querySubject_quiet (s : State) (p : PortIx) (subject : Byte) (params : List Byte) :
    (State.querySubject s p subject params).1.quiet = s.quiet := by
  unfold State.querySubject
  repeat' split
  all_goals first | rfl | (refine State.onBus_quiet _ _ _ ?_; intro b; simp) | simp

@[simp] theorem State.queryRequest_quiet (s : State) (p : PortIx) (body : List Byte) :
    (State.queryRequest s p body).1.quiet = s.quiet := by
  unfold State.queryRequest
  split <;> simp

@[simp] theorem State.serveOpen_quiet (s : State) (p : PortIx) (kind : Byte) (body : List Byte) :
    (State.serveOpen s p kind body).1.quiet = s.quiet := by
  unfold State.serveOpen
  split <;> simp

@[simp] theorem State.serve_quiet (s : State) (p : PortIx) (kind : Byte) (body : List Byte) :
    (State.serve s p kind body).1.quiet = s.quiet := by
  unfold State.serve
  repeat' split
  all_goals simp

@[simp] theorem State.appendReply_quiet (s : State) (p : PortIx) (m : Message) :
    (State.appendReply s p m).quiet = s.quiet := rfl

@[simp] theorem State.respond_quiet (s : State) (p : PortIx) (kind seq : Byte) (m : Message) :
    (State.respond s p kind seq m).quiet = s.quiet := rfl

@[simp] theorem State.takeRequest_quiet (s : State) (p : PortIx) (kind seq : Byte) (body : List Byte) :
    (State.takeRequest s p kind seq body).quiet = s.quiet := by
  unfold State.takeRequest
  repeat' split
  all_goals simp

@[simp] theorem State.goodFrame_quiet (s : State) (p : PortIx) (m : Message) :
    (State.goodFrame s p m).quiet = s.quiet := by
  unfold State.goodFrame
  split <;> simp

@[simp] theorem State.badFrame_quiet (s : State) (p : PortIx) :
    (State.badFrame s p).quiet = s.quiet := by simp [State.badFrame]

@[simp] theorem State.lineInput_quiet (s : State) (p : PortIx) (input : LineInput) :
    (State.lineInput s p input).quiet = s.quiet := by
  unfold State.lineInput
  dsimp only
  repeat' split
  all_goals simp

@[simp] theorem State.requestFrame_quiet (s : State) (p : PortIx) (kind seq : Byte) (body : List Byte) :
    (State.requestFrame s p kind seq body).quiet = s.quiet := by
  unfold State.requestFrame
  split <;> simp

@[simp] theorem State.breakSeen_quiet (s : State) (p : PortIx) :
    (State.breakSeen s p).quiet = s.quiet := by
  unfold State.breakSeen
  dsimp only
  repeat' split
  all_goals simp

end Sys2Proof.Machine
end

