-- ==== Sys2Proof/Laws/Shared.lean ====
section
/-! SUPPORT. What each shared operation can do, said once: ids, free slots, queue insertion, admission, the wake event and the
transmitter. -/

namespace Sys2Proof.Machine

/-! ## Slots and ids -/

/-- `lowestFree` answers a FREE slot below which none is FREE. -/
theorem lowestFree_some {w n : Nat} {α : Type} {t : Vector (Slot w α) n} {i : Fin n} (h : lowestFree t = some i) :
    t[i].entry = none ∧ ∀ j : Fin n, j < i → t[j].entry ≠ none := by
  unfold lowestFree at h
  rw [List.find?_eq_some_iff_append] at h
  obtain ⟨hi, as, bs, hl, hb⟩ := h
  refine ⟨Option.isNone_iff_eq_none.mp hi, fun j hj hn => ?_⟩
  have hs : (List.finRange n).Pairwise (· < ·) := List.pairwise_lt_finRange n
  rw [hl] at hs
  have hmem : j ∈ as ++ i :: bs := hl ▸ List.mem_finRange j
  rcases List.mem_append.mp hmem with hj' | hj'
  · have := hb j hj'
    rw [hn] at this
    exact absurd this (by simp)
  · rcases List.mem_cons.mp hj' with rfl | hj''
    · exact absurd hj (lt_irrefl _)
    · have := (List.pairwise_cons.mp (List.pairwise_append.mp hs).2.1).1 j hj''
      exact absurd (lt_trans hj this) (lt_irrefl _)

/-- `lowestFree` answers none when no slot is FREE. -/
theorem lowestFree_none {w n : Nat} {α : Type} {t : Vector (Slot w α) n} :
    lowestFree t = none ↔ ∀ i : Fin n, t[i].entry ≠ none := by
  simp [lowestFree]

/-- A tag that resolves names a live record whose tag it is. -/
theorem State.findRecord_some {s : State} {tag : Byte} {i : Fin 64} {r : Record}
    (h : s.findRecord tag = some (i, r)) : s.record i = some r ∧ i.val = tag.toNat % 64 := by
  unfold State.findRecord at h
  dsimp only at h
  split at h
  · obtain ⟨x, hx, hp⟩ := Option.map_eq_some_iff.mp h
    cases hp
    exact ⟨hx, rfl⟩
  · cases h

/-- A lease id that resolves names a live entry. -/
theorem State.findLease_some {s : State} {id : Byte} {i : Fin 16} {e : Lease}
    (h : s.findLease id = some (i, e)) : s.lease i = some e ∧ i.val = id.toNat % 16 := by
  unfold State.findLease at h
  dsimp only at h
  split at h
  · obtain ⟨x, hx, hp⟩ := Option.map_eq_some_iff.mp h
    cases hp
    exact ⟨hx, rfl⟩
  · cases h

/-- A group id that resolves names a live entry. -/
theorem State.findGroup_some {s : State} {id : Byte} {i : Fin 8} {g : GroupEntry}
    (h : s.findGroup id = some (i, g)) : s.group i = some g ∧ i.val = id.toNat % 8 := by
  unfold State.findGroup at h
  dsimp only at h
  split at h
  · obtain ⟨x, hx, hp⟩ := Option.map_eq_some_iff.mp h
    cases hp
    exact ⟨hx, rfl⟩
  · cases h

/-- A watch id that resolves names a live entry. -/
theorem State.findWatch_some {s : State} {id : Byte} {i : Fin 12} {w : Watch}
    (h : s.findWatch id = some (i, w)) : s.watch i = some w ∧ i.val = id.toNat % 16 := by
  unfold State.findWatch at h
  split at h
  · dsimp only at h
    split at h
    · obtain ⟨x, hx, hp⟩ := Option.map_eq_some_iff.mp h
      cases hp
      exact ⟨hx, rfl⟩
    · cases h
  · cases h

/-! ## Queues -/

/-- An item that joins a queue adds itself and nothing else. -/
theorem State.mem_insertItem {s : State} {x y : QItem} {l : List QItem} :
    x ∈ s.insertItem y l ↔ x = y ∨ x ∈ l := by
  induction l with
  | nil => simp [State.insertItem]
  | cons z l ih =>
    simp only [State.insertItem]
    split
    · simp only [List.mem_cons, ih]; tauto
    · simp

/-- A wake event makes an IDLE engine with an eligible item RESERVED, and does nothing else. -/
theorem State.wake_cases (s : State) (b : BusIx) :
    ((s.bus b).engine = .idle ∧ (s.bus b).queue.any (s.isEligible b) = true ∧
      s.wake b = s.setEngine b (.reserved (decide ((s.bus b).line = .free)))) ∨
    (¬((s.bus b).engine = .idle ∧ (s.bus b).queue.any (s.isEligible b) = true) ∧ s.wake b = s) := by
  unfold State.wake
  by_cases h : (s.bus b).engine = .idle ∧ (s.bus b).queue.any (s.isEligible b) = true
  · exact .inl ⟨h.1, h.2, by simp only [h.1, h.2]; rfl⟩
  · refine .inr ⟨h, ?_⟩
    rw [if_neg]
    simpa only [Bool.and_eq_true, decide_eq_true_eq] using h

/-! ## Admission -/

/-- What an offered report does: nothing for a source already in the list, else admission if the outbox has room, else the
tail of the list. -/
theorem State.offer_cases (s : State) (p : PortIx) (src : Source) :
    (src ∈ (s.session p).admission ∧ s.offer p src = s) ∨
    (src ∉ (s.session p).admission ∧ (s.session p).outbox.length < Config.outboxRoom ∧
      s.offer p src = s.admitOne p src) ∨
    (src ∉ (s.session p).admission ∧ Config.outboxRoom ≤ (s.session p).outbox.length ∧
      s.offer p src = s.modSession p fun x => { x with admission := x.admission ++ [src] }) := by
  unfold State.offer Session.hasRoom
  by_cases h : src ∈ (s.session p).admission
  · exact .inl ⟨h, if_pos h⟩
  · rw [if_neg h]
    by_cases hr : (s.session p).outbox.length < Config.outboxRoom
    · exact .inr (.inl ⟨h, hr, by simp [hr]⟩)
    · exact .inr (.inr ⟨h, by omega, by simp [hr]⟩)

/-- What admission does: nothing where the source holds no report, else one outbox entry and the source's release. -/
theorem State.admitOne_cases (s : State) (p : PortIx) (src : Source) :
    (s.reportOf p src = none ∧ s.admitOne p src = s) ∨
    ∃ r, s.reportOf p src = some r ∧
      s.admitOne p src = (s.modSession p fun x => x.push r).releaseSource p src := by
  unfold State.admitOne
  cases h : s.reportOf p src with
  | none => exact .inl ⟨rfl, rfl⟩
  | some r => exact .inr ⟨r, rfl, rfl⟩

/-- What entering DONE does. -/
theorem State.finishRecord_cases (s : State) (i : Fin 64) (st : Status) (f : Option Nat) (n : Nat) (d : List Byte) :
    (s.record i = none ∧ s.finishRecord i st f n d = s) ∨
    ∃ r, s.record i = some r ∧
      s.finishRecord i st f n d = (s.putRecord i { r with
        state := .done
        notBefore := none
        spacingOver := false
        result := some { status := st, failing := f, bytesCompleted := n, completionTime := s.clock, readData := d }
        }).offer r.owner (.record i) := by
  unfold State.finishRecord
  cases h : s.record i with
  | none => exact .inl ⟨rfl, rfl⟩
  | some r => exact .inr ⟨r, rfl, rfl⟩

/-! ## The transmitter -/

/-- What an event's end does at one port. -/
theorem State.kick_cases (s : State) (p : PortIx) :
    ((s.port p).tx ≠ none ∧ s.kick p = s) ∨
    ((s.port p).tx = none ∧ ∃ m rest, (s.port p).replies = m :: rest ∧
      s.kick p = s.modPort p fun x => { x with replies := rest, tx := some m }) ∨
    ((s.port p).tx = none ∧ (s.port p).replies = [] ∧ takeUnsent (s.session p).outbox = none ∧ s.kick p = s) ∨
    ((s.port p).tx = none ∧ (s.port p).replies = [] ∧ ∃ e out, takeUnsent (s.session p).outbox = some (e, out) ∧
      s.kick p = (s.modSession p fun x => { x with outbox := out, timer := timerAfterTake x s.clock }).modPort p
        fun x => { x with tx := some e.notice }) := by
  unfold State.kick State.chooseFrame
  cases ht : (s.port p).tx with
  | some m => simp
  | none =>
    right
    cases hr : (s.port p).replies with
    | cons m rest => exact .inl ⟨rfl, m, rest, rfl, by simp⟩
    | nil =>
      right
      cases hu : takeUnsent (s.session p).outbox with
      | none => exact .inl ⟨rfl, rfl, rfl, by simp⟩
      | some x => exact .inr ⟨rfl, rfl, x.1, x.2, rfl, by simp⟩

end Sys2Proof.Machine
end

