-- ==== Sys2Proof/Laws/Requests.lean ====
section
/-! SUPPORT. What a request frame does before its own rule is applied. -/

namespace Sys2Proof.Machine

/-- Where no engine has moved, the lines at the entry into RECOVERY say nothing. -/
theorem State.clockAtEntry_unmoved {t before : State} (h : t.buses = before.buses) (body : RecoverBody) :
    t.clockAtEntry before body = t := by
  unfold State.clockAtEntry
  split
  · rename_i b _ _
    split
    · rfl
    · rename_i hr
      have hb : (t.bus b).engine = (before.bus b).engine := by simp only [State.bus, h]
      unfold State.recoveryRise
      rw [hb]
      cases he : (before.bus b).engine <;> simp_all [Engine.recovering]
  · rfl

/-- The frame of a request row is what the row's meaning takes; BUS_RECOVER alone looks at the lines besides. -/
theorem exec_frame {c : Instr} {p : PortIx} {kind q : Byte} {body : List Byte}
    (h : frameOf c = some (p, kind, q, body)) (hk : kind ≠ 0x17) (s : State) :
    exec c s = .next (s.requestFrame p kind q body).settle := by
  cases c <;> simp only [frameOf, Option.some.injEq, Prod.mk.injEq, reduceCtorEq] at h <;>
    obtain ⟨rfl, rfl, rfl, rfl⟩ := h <;> first | rfl | exact absurd rfl hk

/-- The frame of any request row, when it leaves the buses as they are. -/
theorem exec_frame_unmoved {c : Instr} {p : PortIx} {kind q : Byte} {body : List Byte}
    (h : frameOf c = some (p, kind, q, body)) (s : State) (hb : (s.requestFrame p kind q body).buses = s.buses) :
    exec c s = .next (s.requestFrame p kind q body).settle := by
  cases c <;> simp only [frameOf, Option.some.injEq, Prod.mk.injEq, reduceCtorEq] at h <;>
    obtain ⟨rfl, rfl, rfl, rfl⟩ := h <;> try rfl
  exact congrArg (fun t : State => Host.Outcome.next t.settle) (State.clockAtEntry_unmoved hb _)

/-- Two updates of one port are one. -/
theorem State.modPort_modPort (s : State) (p : PortIx) (f g : Port → Port) :
    (s.modPort p f).modPort p g = s.modPort p fun x => g (f x) := by
  simp [State.modPort, State.port, Vector.set_set]

/-- A frame that fits arrives: counted, with the receiver IN_FRAME and empty. -/
theorem State.requestFrame_arrived (s : State) (p : PortIx) (kind q : Byte) (body : List Byte)
    (h : bodyFits body = true) :
    s.requestFrame p kind q body =
      if kind = 0x04 then (s.arrived p).noticeAck p body else (s.arrived p).takeRequest p kind q body := by
  simp only [State.requestFrame, h, State.goodFrame, State.countPort, State.modPort_modPort, State.arrived]
  rfl

/-- The reply queue and the cache of the arriving port are as before. -/
theorem State.arrived_port (s : State) (p n : PortIx) :
    (s.arrived p).port n = if n = p then
      { s.port p with
        rx := { state := .inFrame, buffer := [] }
        counters := { (s.port p).counters with good := satInc (s.port p).counters.good } } else s.port n := by
  rw [State.arrived, State.modPort_port]

/-- A request that rows 1 to 3 of R168 leave over. -/
theorem State.requestFrame_takes {s : State} {p : PortIx} {kind q : Byte} {body : List Byte}
    (h : s.takes p kind q body = true) :
    s.requestFrame p kind q body =
      if isRequestKind kind = true then
        ((s.arrived p).serve p kind body).1.respond p kind q
          (replyTo kind q ((s.arrived p).serve p kind body).2)
      else (s.arrived p).respond p kind q (unknownReply q) := by
  simp only [State.takes, Bool.and_eq_true, decide_eq_true_eq, Option.isNone_iff_eq_none] at h
  obtain ⟨⟨⟨hb, hk⟩, hr⟩, hc⟩ := h
  rw [State.requestFrame_arrived s p kind q body hb, if_neg hk]
  have hc' : (s.arrived p).cachedReply p kind q = none := by
    simpa [State.cachedReply, State.arrived_port] using hc
  simp only [State.takeRequest, State.arrived_port, if_true, hc', Nat.not_le.mpr hr, if_false]

/-- What a request row answers when its frame is taken by row 5 of R168. -/
theorem exec_takes {c : Instr} {s : State} {p : PortIx} {kind q : Byte} {body : List Byte}
    (hf : frameOf c = some (p, kind, q, body)) (hk : isRequestKind kind = true) (hr : kind ≠ 0x17)
    (h : s.takes p kind q body = true) :
    exec c s = .next (((s.arrived p).serve p kind body).1.replied p kind q ((s.arrived p).serve p kind body).2) := by
  rw [exec_frame hf hr, State.requestFrame_takes h, if_pos hk, State.replied]

/-- What any request row answers when its frame is taken by row 5 of R168 and its rule leaves the buses as they are. -/
theorem exec_takes_unmoved {c : Instr} {s : State} {p : PortIx} {kind q : Byte} {body : List Byte}
    (hf : frameOf c = some (p, kind, q, body)) (hk : isRequestKind kind = true) (h : s.takes p kind q body = true)
    (hb : ((s.arrived p).serve p kind body).1.buses = s.buses) :
    exec c s = .next (((s.arrived p).serve p kind body).1.replied p kind q ((s.arrived p).serve p kind body).2) := by
  have he := State.requestFrame_takes h
  rw [if_pos hk] at he
  rw [exec_frame_unmoved hf s (by rw [he]; exact hb), he, State.replied]

/-! ### What an arriving frame leaves as it is -/

@[simp] theorem State.arrived_clock (s : State) (p : PortIx) : (s.arrived p).clock = s.clock := rfl
@[simp] theorem State.arrived_records (s : State) (p : PortIx) : (s.arrived p).records = s.records := rfl
@[simp] theorem State.arrived_leases (s : State) (p : PortIx) : (s.arrived p).leases = s.leases := rfl
@[simp] theorem State.arrived_groups (s : State) (p : PortIx) : (s.arrived p).groups = s.groups := rfl
@[simp] theorem State.arrived_watches (s : State) (p : PortIx) : (s.arrived p).watches = s.watches := rfl
@[simp] theorem State.arrived_waiting (s : State) (p : PortIx) : (s.arrived p).waiting = s.waiting := rfl
@[simp] theorem State.arrived_buses (s : State) (p : PortIx) : (s.arrived p).buses = s.buses := rfl
@[simp] theorem State.arrived_sessions (s : State) (p : PortIx) : (s.arrived p).sessions = s.sessions := rfl
@[simp] theorem State.arrived_levels (s : State) (p : PortIx) : (s.arrived p).levels = s.levels := rfl
@[simp] theorem State.arrived_rateHigh (s : State) (p : PortIx) : (s.arrived p).rateHigh = s.rateHigh := rfl
@[simp] theorem State.arrived_freeIndex (s : State) (p : PortIx) : (s.arrived p).freeIndex = s.freeIndex := rfl
@[simp] theorem State.arrived_pending (s : State) (p : PortIx) : (s.arrived p).pending = s.pending := rfl
@[simp] theorem State.arrived_bus (s : State) (p : PortIx) (b : BusIx) : (s.arrived p).bus b = s.bus b := rfl
@[simp] theorem State.arrived_session (s : State) (p : PortIx) (n : PortIx) : (s.arrived p).session n = s.session n := rfl
@[simp] theorem State.arrived_record (s : State) (p : PortIx) (i : Fin 64) : (s.arrived p).record i = s.record i := rfl
@[simp] theorem State.arrived_lease (s : State) (p : PortIx) (i : Fin 16) : (s.arrived p).lease i = s.lease i := rfl
@[simp] theorem State.arrived_group (s : State) (p : PortIx) (i : Fin 8) : (s.arrived p).group i = s.group i := rfl
@[simp] theorem State.arrived_watch (s : State) (p : PortIx) (i : Fin 12) : (s.arrived p).watch i = s.watch i := rfl
@[simp] theorem State.arrived_waitingOrder (s : State) (p : PortIx) (b : BusIx) : (s.arrived p).waitingOrder b = s.waitingOrder b := rfl
@[simp] theorem State.arrived_tagOf (s : State) (p : PortIx) (i : Fin 64) : (s.arrived p).tagOf i = s.tagOf i := rfl
@[simp] theorem State.arrived_leaseId (s : State) (p : PortIx) (i : Fin 16) : (s.arrived p).leaseId i = s.leaseId i := rfl
@[simp] theorem State.arrived_groupId (s : State) (p : PortIx) (i : Fin 8) : (s.arrived p).groupId i = s.groupId i := rfl
@[simp] theorem State.arrived_watchId (s : State) (p : PortIx) (i : Fin 12) : (s.arrived p).watchId i = s.watchId i := rfl
@[simp] theorem State.arrived_findRecord (s : State) (p : PortIx) (x : Byte) : (s.arrived p).findRecord x = s.findRecord x := rfl
@[simp] theorem State.arrived_findLease (s : State) (p : PortIx) (x : Byte) : (s.arrived p).findLease x = s.findLease x := rfl
@[simp] theorem State.arrived_findGroup (s : State) (p : PortIx) (x : Byte) : (s.arrived p).findGroup x = s.findGroup x := rfl
@[simp] theorem State.arrived_findWatch (s : State) (p : PortIx) (x : Byte) : (s.arrived p).findWatch x = s.findWatch x := rfl
@[simp] theorem State.arrived_windowUse (s : State) (p : PortIx) (n : PortIx) : (s.arrived p).windowUse n = s.windowUse n := rfl
@[simp] theorem State.arrived_enabled (s : State) (p : PortIx) (b : BusIx) : (s.arrived p).enabled b = s.enabled b := rfl
@[simp] theorem State.arrived_boundGroup (s : State) (p : PortIx) (l : TriggerLine) : (s.arrived p).boundGroup l = s.boundGroup l := rfl
@[simp] theorem State.arrived_isOpen (s : State) (p : PortIx) (n : PortIx) : (s.arrived p).isOpen n = s.isOpen n := rfl
@[simp] theorem State.arrived_isPrimary (s : State) (p : PortIx) (n : PortIx) : (s.arrived p).isPrimary n = s.isPrimary n := rfl

/-! ### Requests in an OPEN session -/

/-- An OPEN session's request goes to the rule of its block. -/
theorem State.serve_open {s : State} {p : PortIx} {kind : Byte} {body : List Byte}
    (h : (s.session p).state = .opened) (hk : kind ≠ 1) : s.serve p kind body = s.serveOpen p kind body := by
  have ho : s.isOpen p = true := by simp [State.isOpen, h]
  rw [State.serve, if_neg (by simpa using hk), if_pos ho]

/-- What a request row answers in an OPEN session, from what its block's rule answers. -/
theorem exec_open {c : Instr} {s u : State} {p : PortIx} {kind q : Byte} {body : List Byte} {r : Reply}
    (hf : frameOf c = some (p, kind, q, body)) (hk : isRequestKind kind = true) (hk1 : kind ≠ 1) (hk17 : kind ≠ 0x17)
    (ho : (s.session p).state = .opened) (h : s.takes p kind q body = true)
    (hr : (s.arrived p).serveOpen p kind body = (u, r)) : exec c s = .next (u.replied p kind q r) := by
  rw [exec_takes hf hk hk17 h, State.serve_open (s := s.arrived p) ho hk1, hr]

/-- A bus number of a message. -/
theorem busOf_of_toNat {x : Byte} {b : BusIx} (h : x.toNat = b.val) : busOf x = some b := by
  simp only [busOf, h, b.isLt, dite_true]

/-- A byte above 3 is no bus number. -/
theorem busOf_none {x : Byte} (h : 3 < x.toNat) : busOf x = none := by
  rw [busOf, dif_neg (by omega)]

/-! ### Two updates of one place are one -/

theorem State.modBus_modBus (s : State) (b : BusIx) (f g : Bus → Bus) :
    (s.modBus b f).modBus b g = s.modBus b fun x => g (f x) := by
  simp [State.modBus, State.setBus, State.bus, Vector.set_set]

theorem State.modSession_modSession (s : State) (p : PortIx) (f g : Session → Session) :
    (s.modSession p f).modSession p g = s.modSession p fun x => g (f x) := by
  simp [State.modSession, State.session, Vector.set_set]

theorem State.modBus_congr (s : State) (b : BusIx) (f g : Bus → Bus) (h : f (s.bus b) = g (s.bus b)) :
    s.modBus b f = s.modBus b g := by
  rw [State.modBus, State.modBus, h]

theorem State.modSession_congr (s : State) (p : PortIx) (f g : Session → Session)
    (h : f (s.session p) = g (s.session p)) : s.modSession p f = s.modSession p g := by
  rw [State.modSession, State.modSession, h]

theorem State.modPort_congr (s : State) (p : PortIx) (f g : Port → Port) (h : f (s.port p) = g (s.port p)) :
    s.modPort p f = s.modPort p g := by
  rw [State.modPort, State.modPort, h]

end Sys2Proof.Machine
end

