-- ==== Sys2Proof/Tests/Slice0.lean ====
section
/-! SUPPORT. The model's own tests: the well-formedness checks, single steps whose expected results stand in the manual's tables
and worked sequences, and for every statement with hypotheses a state and operands that meet them. -/

namespace Sys2Proof.Tests

open Sys2Proof Sys2Proof.Machine

set_option maxRecDepth 20000
set_option synthInstance.maxSize 2000

/-! ## Well-formedness (R165, section 12.1) -/

/-- A body of 97 bytes, one more than a frame holds. -/
def overlong : List Byte := List.replicate 97 0

theorem test_wf_request_body_too_long : wellFormed (.submit 0 0 overlong) = false := by decide
theorem test_wf_query_body_too_long : wellFormed (.queryBus 0 0 (List.replicate 96 0)) = false := by decide
theorem test_wf_load_body_too_long : wellFormed (.targetLoadReplace 0 0 0 94 (List.replicate 94 0)) = false := by decide
theorem test_wf_duplicate_body_too_long : wellFormed (.duplicateRequest 0 6 0 overlong) = false := by decide
theorem test_wf_unknown_kind_is_known : wellFormed (.unknownKind 0 0x18 0 []) = false := by decide
theorem test_wf_unknown_kind_body_too_long : wellFormed (.unknownKind 0 0x19 0 overlong) = false := by decide
theorem test_wf_longest_body : wellFormed (.submit 0 0 (List.replicate 96 0)) = true := by decide
theorem test_no_word_spells_a_command : decodeTableWord 8 0xC5 = none := by decide

/-! ## Words of the manual -/

/-- R166: the check of the characters "1" to "9". -/
theorem test_crc_of_digits : crc [0x31, 0x32, 0x33, 0x34, 0x35, 0x36, 0x37, 0x38, 0x39] = 0x29B1 := by decide
/-- Chapter 10, worked sequence: a sequence of 0xC5 is sent as 0xCA 0xD5. -/
theorem test_stuffed_sequence : ({ kind := 0x05, seq := 0xC5, body := [] } : Message).wire.take 4 =
    [0xC5, 0x05, 0xCA, 0xD5] := by decide
/-- R2: slot 5 at generation 2 gives tag 133. -/
theorem test_tag : ({ State.reset with records := State.reset.records.set 5 { gen := 2, entry := none } }).tagOf 5 = 133 := by
  decide
/-- R88: slot 6 at generation 3 gives id 54. -/
theorem test_lease_id : ({ State.reset with leases := State.reset.leases.set 6 { gen := 3, entry := none } }).leaseId 6 = 54 := by
  decide
/-- R103: slot 2 at generation 4 gives id 34. -/
theorem test_group_id : ({ State.reset with groups := State.reset.groups.set 2 { gen := 4, entry := none } }).groupId 2 = 34 := by
  decide
/-- R117: slot 7 at generation 2 gives id 39. -/
theorem test_watch_id : ({ State.reset with watches := State.reset.watches.set 7 { gen := 2, entry := none } }).watchId 7 = 39 := by
  decide

/-! ## States for single steps -/

/-- An OPEN session with both masks and a retransmit interval. -/
def aSession : Session :=
  { Session.reset with state := .opened, window := 4, maskBusEvent := true, maskTargetRead := true, interval := 200 }

/-- Sessions 0 and 1 are OPEN, bus 0 is enabled with own address 0x2A and its monitor FREE, at clock 1000. -/
def base : State :=
  (({ State.reset with clock := 1000 }.modSession 0 fun _ => aSession).modSession 1 fun _ => aSession).modBus 0 fun x =>
    { x with config := { x.config with enabled := true, own := some 0x2A }, line := .free, engine := .idle }

/-- A record of session 1 on bus 0, QUEUED since 990: a write of one byte, then a read of two. -/
def aRecord : Record :=
  { owner := 1, bus := 0, cls := .normal, origCls := .normal, noReplay := true, retryNack := false, budget := 1,
    group := none, deadline := none, segments := [.write 0x48 [0x0A], .read 0x48 2], state := .queued,
    entryTime := some 990, ageStopped := false, deadlineTime := none, notBefore := none, spacingOver := false,
    attempts := 0, abortPending := false, lastRetry := none, result := none }

/-- A lease of session 1 on bus 0. -/
def aLease : Lease :=
  { owner := 1, bus := 0, low := 0x50, high := 0x57, duration := 400, state := .granted, claimTime := 700,
    grantTime := some 700, expiryTime := some 1000, endReason := none, endTime := none, report := .none }

/-- A group of session 1, bound to T1's rising edge. -/
def aGroup : GroupEntry :=
  { owner := 1, state := .collecting, staged := [], binding := some { line := .t1, edge := .rising }, fireCount := 0,
    ignored := 0, report := none }

/-- A watch of session 1 on bus 0. -/
def aWatch : Watch :=
  { owner := some 1, bus := 0, addr := 0x4A, pointer := [0], readLen := 2, mask := [0xFF, 0xF0], period := 100,
    state := .running, nextPeriod := some 1000, read := .none, lastReported := none, failures := 0, lastFailure := none,
    skipped := 0, valueReport := none, suspensionReport := none, suspensionFirst := false }

/-- The attempt of record 3, in the address byte of segment 1. -/
def anAttempt : Attempt := freshAttempt (.record 3) aRecord.segments .c1

/-- An outbox entry of sequence `n`. -/
def anEntry (n : Byte) (sent : Bool) : OutboxEntry :=
  { seq := n, report := .busEvent 0 { kind := .disabled, time := 0, missed := 0 }, sent := sent, everSent := sent }

/-- Record 3 is QUEUED and in bus 0's queue. -/
def withQueued (r : Record) : State := (base.putRecord 3 r).setQueue 0 [.record 3]

/-- Record 3 is ACTIVE, with attempt `a` on bus 0. -/
def withAttempt (r : Record) (a : Attempt) : State :=
  (base.putRecord 3 { r with state := .active, attempts := 1 }).modBus 0 fun x =>
    { x with engine := .active (some a), line := .busy }

/-- Bus 0's engine and monitor. -/
def onBus (e : Engine) (l : LineState) : State := base.modBus 0 fun x => { x with engine := e, line := l }

/-- The last reply of port `p`, as cached. -/
def replyOf (p : PortIx) : Host.Outcome State Fault Refusal → List Byte
  | .next s => (s.port p).cache.elim [] fun c => c.reply.kind :: c.reply.body
  | _ => []

/-- What a check reads in the next state. -/
def after {α : Type} (f : State → α) : Host.Outcome State Fault Refusal → Option α
  | .next s => some (f s)
  | _ => none

/-! ## Single steps -/

theorem test_step_idles : step State.reset = .next State.reset := by rfl
theorem test_fetch_word_spells_nothing : State.reset.withFetchWord 8 0 = State.reset := by rfl

/-- R1: the clock wraps. -/
theorem test_tick_wraps : after (·.clock) (exec .clockTick { State.reset with clock := 0xFFFFFFFF }) = some 0 := by decide
/-- R146, section 12.3: the reply to OPEN carries the session number and the primary flag. -/
theorem test_open_reply : replyOf 0 (exec (.openSession 0 1 [4, 3, 0, 50]) State.reset) = [0x41, 0x00, 0, 1] := by decide
/-- R146: a retransmit interval below 50 ms is refused. -/
theorem test_open_interval : replyOf 2 (exec (.openSession 2 1 [4, 3, 0, 49]) State.reset) = [0x41, 0x15] := by decide
/-- Chapter 12, worked example: a byte too few is MALFORMED. -/
theorem test_submit_malformed :
    replyOf 0 (exec (.submit 0 1 [0, 1, 0, 0, 0, 0, 0, 0, 0, 1, 0x48, 0, 3, 1, 2]) base) = [0x46, 0x10] := by decide
/-- Chapter 12, worked example: BAD_BUS comes before BAD_LENGTH. -/
theorem test_submit_bad_bus :
    replyOf 0 (exec (.submit 0 1 [5, 1, 0, 0, 0, 0, 0, 0, 0, 7, 0x48, 1, 1, 0x48, 1, 1, 0x48, 1, 1, 0x48, 1, 1, 0x48, 1,
      1, 0x48, 1, 1, 0x48, 1, 1]) base) = [0x46, 0x12] := by decide
/-- R18: CANCEL of a QUEUED record is answered OK. -/
theorem test_cancel_queued : replyOf 1 (exec (.cancel 1 2 [3]) (withQueued aRecord)) = [0x47, 0x00] := by decide
/-- R18: CANCEL of an ACTIVE record is answered PENDING. -/
theorem test_cancel_active : replyOf 1 (exec (.cancel 1 2 [3]) (withAttempt aRecord anAttempt)) = [0x47, 0x01] := by decide
/-- R90: a claim that overlaps another session's lease and may not wait is refused CONFLICT. -/
theorem test_claim_conflict :
    replyOf 0 (exec (.claim 0 2 [0, 0x57, 0x5F, 0, 10, 0]) (base.putLease 3 aLease)) = [0x48, 0x24] := by decide
/-- R96: at its expiry a lease becomes ENDED, and its slot is freed when the report is admitted. -/
theorem test_lease_expiry : after (fun s => (s.lease 3, s.leases[3].gen, (s.session 1).outbox.length))
    (exec (.leaseExpiry 3) (base.putLease 3 aLease)) = some (none, 1, 1) := by decide
/-- R109: an edge of the bound polarity on a COLLECTING group is counted as ignored. -/
theorem test_ignored_edge : after (fun s => (s.group 2).map (·.ignored))
    (exec (.triggerEdge .t1 true) (base.putGroup 2 aGroup)) = some (some 1) := by decide
/-- R120: the next period lies one period on, and a read joins the queue. -/
theorem test_watch_period : after (fun s => ((s.watch 3).bind (·.nextPeriod), (s.bus 0).queue))
    (exec (.watchPeriodExpiry 3) (base.putWatch 3 aWatch)) = some (some 1100, [.watchRead 3 .bulk 1000 false]) := by decide
/-- R75 row 6, R77: a loss in the address byte, 0x48 for write, with budget left returns the record, SPACED by 2 ms. -/
theorem test_loss_retries : after (fun s => ((s.record 3).map fun r => (r.notBefore, r.lastRetry), (s.bus 0).queue))
    (exec (.arbitrationLoss 0 (.addressByte 0)) (withAttempt aRecord anAttempt)) =
      some (some (some 1002, some .lost), [.record 3]) := by decide
/-- R75 row 4: after an acknowledged written byte, no-replay makes a loss LOST_PARTIAL. -/
theorem test_loss_partial : after (fun s => ((s.record 3).isNone, (s.session 1).outbox.length))
    (exec (.arbitrationLoss 0 (.addressByte 7)) (withAttempt aRecord
      { anAttempt with segIndex := 2, anyAcked := true, written := 1 })) = some (true, 1) := by decide
/-- R74, log 40: a loss in the direction bit of a READ, sent as 1, leaves the engine ACTIVE without an attempt. -/
theorem test_direction_bit_lost : after (fun s => ((s.bus 0).engine, (s.bus 0).counters.arbitrationLosses))
    (exec (.arbitrationLoss 0 (.addressByte 7)) (withAttempt aRecord { anAttempt with segIndex := 2 })) =
      some (.active none, 1) := by decide
/-- R71: a bit the engine sends as 0, here the write direction bit, cannot be lost. -/
theorem test_sent_zero : after (fun s => (s.bus 0).counters.arbitrationLosses)
    (exec (.arbitrationLoss 0 (.addressByte 7)) (withAttempt aRecord anAttempt)) = some 0 := by decide
/-- R47: seven address bits, then the direction bit: 0x48 for write is 0x90, for read 0x91. -/
theorem test_address_byte : (Segment.write 0x48 [0x0A]).addressByte = 0x90 ∧ (Segment.read 0x48 2).addressByte = 0x91 := by decide
/-- R62: an address NACK is counted. -/
theorem test_address_nack : after (fun s => (s.bus 0).counters.addressNacks)
    (exec (.addressByteAcknowledge 0 false) (withAttempt aRecord anAttempt)) = some 1 := by decide
/-- R81: the ninth pulse with DAT low is a FAULT. -/
theorem test_ninth_pulse : after (fun s => ((s.bus 0).engine, (s.bus 0).faultReason))
    (exec (.recoveryPulseEnd 0 false) (onBus (.recovery { step := .pulsing, pulses := 8, fromFault := false }) .stuck)) =
      some (.fault, some .dataHeld) := by decide
/-- R137: with an empty buffer the fill byte is sent, and counted as an underrun. -/
theorem test_underrun : after (fun s => ((s.bus 0).counters.underruns, (s.bus 0).target.reading.bind (·.sending)))
    (exec (.targetReadByteTaken { bus := 0, ack := true }) ((onBus .target .busy).modTarget 0 fun t =>
      { t with owner := some 1, reading := some { fromBuffer := 2, fillBytes := 0, sending := none, released := false } })) =
      some (1, some 0xFF) := by decide
/-- R137: after the master's NACK the engine sends nothing more in that transfer. -/
theorem test_master_nack : after (fun s => (s.bus 0).target.reading)
    (exec (.targetReadByteTaken { bus := 0, ack := false }) ((onBus .target .busy).modTarget 0 fun t =>
      { t with owner := some 1, reading := some { fromBuffer := 2, fillBytes := 0, sending := some 7, released := false } })) =
      some (some { fromBuffer := 2, fillBytes := 0, sending := none, released := true }) := by decide
/-- R80: with CLK and DAT high at entry, BUS_RECOVER on a FREE bus ends recovery within its own event. -/
theorem test_recover_free : after (fun s => ((s.bus 0).engine, (s.bus 0).counters.recoveries))
    (exec (.busRecover 1 1 { bytes := [0], atEntry := none }) base) = some (.idle, 1) := by decide
/-- R31: once reached, a not-before time no longer blocks, however long the record then waits. -/
theorem test_spacing_stays_over : (withQueued { aRecord with notBefore := some 0x80000500, spacingOver := true }).isEligible 0
    (.record 3) = true := by decide
/-- R158: an acknowledgement of an entry that was never sent is stray. -/
theorem test_stray_ack : after (fun s => ((s.session 0).outbox.length, (s.port 0).counters.strayAcks))
    (exec (.noticeAck 0 1 [7]) (base.modSession 0 fun x => { x with outbox := [anEntry 7 false] })) = some (1, 1) := by decide
/-- R150: a break tears the session of its own port down, and no other. -/
theorem test_break : after (fun s => ((s.session 1).state, (s.session 0).state, (s.port 1).counters.breaks))
    (exec (.lineBreak 1) base) = some (.closed, .opened, 1) := by decide

/-- After a READ segment, an attempt that abort pending reached, in the acknowledge bit or in the repeated start that follows it. -/
def betweenSegments : Attempt :=
  { freshAttempt (.record 3) [.write 0x48 [0x0A], .read 0x48 2, .read 0x49 1] .c1 with
    segIndex := 2, byteIndex := 3, anyAcked := true, written := 1, readBytes := [1, 2], abortPending := true,
    phase := .readAck true .repeatedStart }

/-- The status of record 3, which has to wait for its admission. -/
def statusAfter (c : Instr) : Option (Option Status) :=
  after (fun s => ((s.record 3).bind (·.result)).map (·.status)) (exec c ((withAttempt
    { aRecord with abortPending := true } betweenSegments).modSession 1 fun x =>
      { x with outbox := List.replicate 16 (anEntry 0 true) }))

/-- R68, R72 and R75 row 4: a loss in a repeated start begun before the abort came is LOST_PARTIAL after acknowledged data. -/
theorem test_loss_in_repeated_start : statusAfter (.lossInRepeatedStartOrStop { bus := 0, inRepeatedStart := true }) =
    some (some .lostPartial) ∧ statusAfter (.stopSeen 0 .inRepeatedStart) = some (some .lostPartial) := by decide
/-- R68, R72: an abort taken in the acknowledge bit leads to a stop, whose loss leaves ABORTED. -/
theorem test_loss_in_stop_of_abort : statusAfter (.lossInRepeatedStartOrStop { bus := 0, inRepeatedStart := false }) =
    some (some .aborted) := by decide
/-- R142: no condition falls in the acknowledge bit that the 3400 gives a write byte, and one in another bit is a bus error. -/
theorem test_held_low : let s := (onBus .target .busy).modTarget 0 fun t => { t with
      owner := some 1, slots := t.slots.set 0 { InSlot.empty with state := .filling } }
    after (fun u => ((u.bus 0).engine, (u.bus 0).counters.busErrors)) (exec (.stopSeen 0 (.inByte 8)) s) = some (.target, 0) ∧
    after (fun u => ((u.bus 0).engine, (u.bus 0).counters.busErrors)) (exec (.stopSeen 0 (.inByte 7)) s) = some (.idle, 1) := by
  decide

/-! ## Witnesses: for each statement with hypotheses, states and operands that meet them, clause by clause -/

/-- `base` with record 3 ACTIVE and 4 STAGED in group 2 of session 1, GRANTED leases of sessions 1 and 0 side by side, two
SENT notices, and a command that waits: lawful in every respect. -/
def lawfulState : State :=
  { ((((((withAttempt aRecord anAttempt).putRecord 4 { aRecord with state := .staged, group := some 2, entryTime := none }
      ).putGroup 2 { aGroup with staged := [4] }).putLease 3 aLease).putLease 4
      { aLease with owner := 0, low := 0x58, high := 0x5F }).modSession 1 fun x =>
        { x with nextSeq := 8, outbox := [anEntry 6 true, anEntry 7 true] }) with
    pending := [.arbitrationLoss 0 (.addressByte 0)] }

theorem witness_StepTakesTheFrontCommand :
    lawfulState.pending = .arbitrationLoss 0 (.addressByte 0) :: [] ∧ base.pending = [] := by decide

theorem witness_OnlyTheirEventsMoveClockLevelsAndConfigurations :
    ((∀ h x y, Instr.lineBreak 2 ≠ .powerOnReset h x y) ∧ Instr.lineBreak 2 ≠ .clockTick ∧
      (∀ l up, Instr.lineBreak 2 ≠ .triggerEdge l up) ∧ State.reset.isOpen 0 = false) ∧
      ∃ t, exec (.lineBreak 2) State.reset = .next t :=
  ⟨⟨by simp, by simp, by simp, by decide⟩, _, rfl⟩

/-- With port 0's session OPEN: a command that carries no frame, and requests of other kinds. -/
theorem witness_OnlyTheirEvents_configurations : base.isOpen 0 = true ∧
    (∀ c ∈ [Instr.lineBreak 2, .busRecover 1 1 { bytes := [0], atEntry := none }, .duplicateRequest 1 0x06 1 []],
      (frameOf c).all (fun f => decide (f.2.1 ≠ 0x16)) = true) ∧
    (∀ p x, Instr.lineBreak 2 ≠ .characterReceived p x) ∧ (∀ p q body, frameOf (.lineBreak 2) ≠ some (p, 0x16, q, body)) ∧
    ∃ t, exec (.lineBreak 2) base = .next t :=
  ⟨by decide, by decide, by simp, by simp [frameOf], _, rfl⟩

theorem witness_StepsKeepTheSessionLaws : lawfulState.sessionsLawful ∧ ∃ t, step lawfulState = .next t := ⟨by decide, _, rfl⟩
theorem witness_StepsKeepLeasesExclusive : lawfulState.leasesExclusive ∧ ∃ t, step lawfulState = .next t :=
  ⟨by decide +kernel, _, rfl⟩
theorem witness_StepsKeepTheBusLaws : lawfulState.busesCoherent ∧ ∃ t, step lawfulState = .next t := ⟨by decide, _, rfl⟩
theorem witness_StepsKeepTheBufferBounds : lawfulState.buffersBounded ∧ ∃ t, step lawfulState = .next t := ⟨by decide, _, rfl⟩
theorem witness_StepsKeepTheRecordLaws : lawfulState.recordsLawful ∧ ∃ t, step lawfulState = .next t :=
  ⟨by decide +kernel, _, rfl⟩
theorem witness_CommandsLeaveTheTransmittersSettled : ∃ t, exec .clockTick lawfulState = .next t := ⟨_, rfl⟩

/-- `lawfulState` with record 5 QUEUED and the read of watch 3 QUEUED behind it. -/
def placedState : State :=
  { (((lawfulState.putRecord 5 { aRecord with segments := [.write 0x48 []] }).putWatch 3 { aWatch with read := .queued }
      ).setQueue 0 [.record 5, .watchRead 3 .bulk 995 false]) with pending := [.arbitrationLoss 0 (.addressByte 0)] }

theorem witness_StepsKeepTheRecordLaws_places : placedState.recordsLawful ∧ placedState.placesLawful ∧
    ∃ t, step placedState = .next t := by
  refine ⟨by decide +kernel, ⟨by decide +kernel, by decide +kernel, by decide +kernel, by decide +kernel, by decide +kernel,
    ?_, by decide +kernel⟩, _, rfl⟩
  intro b w c t z h
  fin_cases b
  · change _ ∈ [QItem.record 5, QItem.watchRead 3 .bulk 995 false] at h
    obtain ⟨rfl, -⟩ : w = 3 ∧ c = .bulk ∧ t = 995 ∧ z = false := by simpa using h
    exact ⟨_, rfl, rfl, rfl⟩
  all_goals exact absurd h (List.not_mem_nil)

theorem witness_ClockTick : base.record 3 = none ∧ (withQueued aRecord).record 3 = some aRecord ∧
    aRecord.entryTime = some 990 ∧ (base.clock - 990).toNat < 2 ^ 31 - 1 ∧
    ((base.setQueue 0 [.watchRead 3 .bulk 0x800003EA false, .watchRead 4 .bulk 5 true]).bus 0).queue[0]? =
      some (.watchRead 3 .bulk 0x800003EA false) ∧ (base.clock - 0x800003EA).toNat = 2 ^ 31 - 2 ∧
    ((base.setQueue 0 [.watchRead 3 .bulk 0x800003EA false, .watchRead 4 .bulk 5 true]).bus 0).queue[1]? =
      some (.watchRead 4 .bulk 5 true) ∧
    (withQueued { aRecord with notBefore := some 1001 }).record 3 = some { aRecord with notBefore := some 1001 } ∧
    (base.clock + 1 - 1001).toNat < 2 ^ 31 := by decide

theorem witness_FrameRoundTrip : ([0xC5, 0xCA] : List Byte).length ≤ 96 ∧ (State.reset.port 0).rx.buffer = [] ∧
    (State.reset.port 0).rx.state ≠ .escape := by decide

/-- A body that, with kind 0xCA and sequence 0xC5, has the check 0xC5CA: every content byte needs escaping. -/
def allEscaped : List Byte := List.replicate 76 0xC5 ++ List.replicate 6 0xCA ++ [0xC5, 0xC5, 0xCA] ++ List.replicate 11 0xC5

/-- 100 content bytes that all need escaping; a byte that does not. -/
theorem witness_FrameRoundTrip_escapes : (0x55 : Byte) ≠ 0xC5 ∧ (0x55 : Byte) ≠ 0xCA ∧ allEscaped.length ≤ 96 ∧
    (let m : Message := { kind := 0xCA, seq := 0xC5, body := allEscaped }
     m.content.length = 100 ∧ ∀ x ∈ m.content, x = 0xC5 ∨ x = 0xCA) := by decide +kernel

/-- Port 0's receiver. -/
def withRx (x : RxState) (buffer : List Byte) : State := base.modPort 0 fun y => { y with rx := { state := x, buffer := buffer } }

theorem witness_ReceiverTable :
    ((withRx .hunt []).port 0).rx.state = .hunt ∧ ((withRx .inFrame []).port 0).rx.buffer = [] ∧
    ((withRx .inFrame [1]).port 0).rx.buffer.length = 1 ∧ ((withRx .inFrame [1, 2, 3]).port 0).rx.buffer.length = 3 ∧
    messageOf ((withRx .inFrame [1, 2, 3, 4]).port 0).rx.buffer = none ∧
    ((withRx .inFrame (List.replicate 99 0)).port 0).rx.buffer.length < 100 ∧
    100 ≤ ((withRx .inFrame (List.replicate 100 0)).port 0).rx.buffer.length ∧
    ((withRx .escape (List.replicate 99 0)).port 0).rx.state = .escape ∧
    ((withRx .escape (List.replicate 99 0)).port 0).rx.buffer.length < 100 ∧
    100 ≤ ((withRx .escape (List.replicate 100 0)).port 0).rx.buffer.length := by decide

/-- The frame of a NOTICE_REWIND of sequence 1, before its closing delimiter. -/
theorem witness_ReceiverTable_good_frame :
    messageOf ({ kind := 0x05, seq := 1, body := [] } : Message).content = some { kind := 0x05, seq := 1, body := [] } ∧
      4 ≤ ({ kind := 0x05, seq := 1, body := [] } : Message).content.length := by decide

/-- Port 0's reply cache and queue. -/
def withReplies (c : Option Cached) (l : List Message) : State := base.modPort 0 fun y => { y with cache := c, replies := l }

theorem witness_RequestHandlingRows :
    4 ≤ ((withReplies none (List.replicate 4 (unknownReply 0))).port 0).replies.length ∧
    ((withReplies (some ⟨6, 1, unknownReply 1⟩) (List.replicate 3 (unknownReply 0))).port 0).replies.length < 4 ∧
    ((withReplies (some ⟨6, 1, unknownReply 1⟩) []).port 0).cache = some ⟨6, 1, unknownReply 1⟩ ∧
    State.reset.takes 0 0 1 [] = true ∧ State.reset.takes 0 0x19 1 [] = true ∧ 0x18 < (0x19 : Byte).toNat := by decide

theorem witness_NotOpenIsRefused : frameOf (.resetBroker 2 1 []) = some (2, 0x18, 1, []) ∧
    frameOf (.closeSession 2 1 []) = some (2, 0x02, 1, []) ∧ base.takes 2 0x18 1 [] = true ∧
    base.takes 2 0x02 1 [] = true ∧ (base.session 2).state ≠ .opened := by decide

theorem witness_RefusalsChangeNothing : frameOf (.release 1 1 [3]) = some (1, 0x0A, 1, [3]) ∧
    base.takes 1 0x0A 1 [3] = true ∧ ((base.arrived 1).serve 1 0x0A [3]).2 = 0x20 :: [] := by decide

theorem witness_WrongLengthIsMalformed : frameOf (.openSession 2 1 [4]) = some (2, 0x01, 1, [4]) ∧
    requestLength 0x01 = some 4 ∧ base.takes 2 0x01 1 [4] = true ∧
    frameOf (.cancel 1 1 []) = some (1, 0x07, 1, []) ∧ requestLength 0x07 = some 1 ∧ base.takes 1 0x07 1 [] = true ∧
    (base.session 1).state = .opened := by decide

theorem witness_OthersAreDenied : (1 : PortIx) ≠ 0 ∧ (base.session 1).state = .opened ∧
    frameOf (.busConfigure 1 1 [9, 9, 9, 9, 9, 9, 9, 9, 9]) = some (1, 0x16, 1, [9, 9, 9, 9, 9, 9, 9, 9, 9]) ∧
    base.takes 1 0x16 1 [9, 9, 9, 9, 9, 9, 9, 9, 9] = true ∧
    frameOf (.revoke 1 1 [0]) = some (1, 0x0B, 1, [0]) ∧ base.takes 1 0x0B 1 [0] = true ∧
    frameOf (.resetBroker 1 1 []) = some (1, 0x18, 1, []) ∧ base.takes 1 0x18 1 [] = true ∧
    frameOf (.queryCountersClear 1 1 0 7) = some (1, 0x03, 1, [9, 0, 7, 1]) ∧ base.takes 1 0x03 1 [9, 0, 7, 1] = true := by
  decide

/-- A frame is on port 0's transmit line; replies and notices wait. -/
def sending (l : List Message) (outbox : List OutboxEntry) : State :=
  (base.modPort 0 fun x => { x with tx := some (unknownReply 0), replies := l }).modSession 0 fun x => { x with outbox := outbox }

theorem witness_TransmitFrameEnd :
    ((sending [unknownReply 1] [anEntry 0 false]).settled ∧
      ((sending [unknownReply 1] [anEntry 0 false]).port 0).replies = unknownReply 1 :: []) ∧
    ((sending [] [anEntry 0 true, anEntry 1 false]).settled ∧ ((sending [] [anEntry 0 true, anEntry 1 false]).port 0).replies = [] ∧
      ((sending [] [anEntry 0 true, anEntry 1 false]).session 0).outbox = [anEntry 0 true] ++ anEntry 1 false :: [] ∧
      (anEntry 0 true).sent = true ∧ (anEntry 1 false).sent = false) ∧
    ((sending [] [anEntry 0 true]).settled ∧ ∀ x ∈ ((sending [] [anEntry 0 true]).session 0).outbox, x.sent = true) := by
  decide

theorem witness_TransmitFrameEnd_notice : ({ InSlot.empty with state := .complete, completionTime := some 7 } : InSlot).completionTime =
    some 7 := rfl

theorem witness_BreakTearsDownAndEmptiesThePort : base.settled ∧ base.port 0 = base.port 0 ∧ ((sending [] []).port 0).tx ≠ none ∧
    (base.session 1).state = .opened ∧ (base.session 2).state ≠ .opened := by decide

theorem witness_OpenBySessionStateAndValues : base.takes 2 0x01 1 [1, 0, 0, 0] = true ∧ base.takes 2 0x01 1 [32, 3, 0x13, 0x88] = true ∧
    (base.session 2).state = .closed ∧ ((0x13 : Byte) ++ (0x88 : Byte)).toNat = 5000 ∧
    base.takes 2 0x01 1 [33, 3, 0, 0] = true ∧ ¬((33 : Byte).toNat ≤ 32) ∧
    base.takes 1 0x01 1 [1, 0, 0, 0] = true ∧ (base.session 1).state = .opened ∧
    (base.modSession 1 fun x => { x with state := .closing }).takes 1 0x01 1 [1, 0, 0, 0] = true := by decide

theorem witness_CloseGivesUpEverythingOwned : (withAttempt aRecord anAttempt).takes 1 0x02 1 [] = true ∧
    ((withAttempt aRecord anAttempt).session 1).state = .opened := by decide

theorem witness_NoticeAck :
    ((sending [] [anEntry 6 true, anEntry 7 true, anEntry 8 false]).session 0).outbox =
      [anEntry 6 true] ++ anEntry 7 true :: [anEntry 8 false] ∧ (anEntry 6 true).seq ≠ 7 ∧ (anEntry 7 true).seq = 7 ∧
    (anEntry 7 true).everSent = true ∧ (base.session 2).state ≠ .opened ∧
    (∀ x ∈ ((sending [] [anEntry 7 false]).session 0).outbox, x.seq = 7 → x.everSent = false) ∧
    ([] : List Byte).length ≠ 1 := by decide

/-- Sources at the head of an admission list: a watch with both reports, one with one, and a lease; and a full outbox. -/
theorem witness_NoticeAck_admission :
    let both : Watch := { aWatch with
      valueReport := some { value := [1, 2], time := 5, coalesced := 0 }
      suspensionReport := some { status := .nackAddress, suspensions := 1 } }
    let w (x : Watch) := (base.putWatch 4 x).modSession 1 fun y => { y with admission := [.watch 4, .lease 3] }
    let e := (base.putLease 3 { aLease with state := .ended, report := .ended, endTime := some 9 }).modSession 1 fun y =>
      { y with admission := [.lease 3] }
    (((w both).session 1).outbox.length < 16 ∧ ((w both).session 1).admission = .watch 4 :: [.lease 3] ∧
      ((w both).admitOne 1 (.watch 4)).reportOf 1 (.watch 4) ≠ none ∧ (w both).watch 4 = some both) ∧
    ((w { both with valueReport := none }).admitOne 1 (.watch 4)).reportOf 1 (.watch 4) = none ∧
    ((e.session 1).admission = .lease 3 :: [] ∧ (e.admitOne 1 (.lease 3)).reportOf 1 (.lease 3) = none) ∧
    (base.session 1).admission = [] ∧
    16 ≤ ((base.modSession 1 fun x => { x with outbox := List.replicate 16 (anEntry 0 true) }).session 1).outbox.length := by
  decide

theorem witness_RewindAndRetransmit : base.takes 0 0x05 1 [] = true ∧ (base.session 0).state = .opened ∧
    ((base.modSession 0 fun x => { x with timer := some 1000 }).session 0).timer = some 1000 ∧
    (base.clock - 1000).toNat < 2 ^ 31 := by decide

theorem witness_ResetBroker : base.takes 0 0x18 1 [] = true ∧ (base.session 0).state = .opened := by decide

theorem witness_ResetBroker_target :
    let owned := base.modTarget 0 fun t => { t with owner := some 1, reading := some ⟨0, 0, none, false⟩ }
    let written := base.modTarget 0 fun t => { t with owner := some 1, slots := t.slots.set 3 { InSlot.empty with state := .filling } }
    owned.takes 0 0x18 1 [] = true ∧ (owned.session 0).state = .opened ∧ (owned.bus 0).target.owner = some 1 ∧
      (owned.session 1).state = .opened ∧ (owned.bus 0).target.reading ≠ none ∧ (owned.session 2).state ≠ .opened ∧
      written.takes 0 0x18 1 [] = true ∧ (written.bus 0).target.slots[(3 : Fin 4)].state = .filling := by decide

theorem witness_QueriesAnswerTheirSubjects : (base.session 1).state = .opened ∧ base.takes 1 0x03 1 [1] = true ∧
    base.takes 1 0x03 1 [2, BitVec.ofNat 8 (3 : BusIx).val] = true ∧
    base.takes 1 0x03 1 [3, BitVec.ofNat 8 (0 : BusIx).val, 255] = true ∧
    (withQueued aRecord).takes 1 0x03 1 [4, 3] = true ∧ (withQueued aRecord).findRecord 3 = some (3, aRecord) ∧
    (withQueued aRecord).takes 1 0x03 1 [4, 67] = true ∧ (withQueued aRecord).findRecord 67 = none ∧
    base.takes 1 0x03 1 [5, 0] = true ∧ base.takes 1 0x03 1 [6, 0] = true ∧ base.takes 1 0x03 1 [7, 0] = true ∧
    base.takes 1 0x03 1 [8, BitVec.ofNat 8 (3 : BusIx).val] = true ∧
    base.takes 1 0x03 1 [2, 4] = true ∧ base.takes 1 0x03 1 [8, 4] = true ∧ base.takes 1 0x03 1 [3, 4, 0] = true ∧
    3 < (4 : Byte).toNat := by decide

/-- QUERY bodies refused before their subject is looked at: none; SESSION with a byte too many; COUNTERS with two, and with four
bytes, a clear among them; subjects 0 and 10. -/
theorem witness_Queries_refusals :
    frameOf (.duplicateRequest 1 3 1 []) = some (1, 0x03, 1, []) ∧ base.takes 1 0x03 1 [] = true ∧
    frameOf (.querySession 1 1 [0]) = some (1, 0x03, 1, [1, 0]) ∧ base.takes 1 0x03 1 [1, 0] = true ∧
    frameOf (.queryCounters 1 1 [0, 0]) = some (1, 0x03, 1, [9, 0, 0]) ∧ base.takes 1 0x03 1 [9, 0, 0] = true ∧
    base.takes 1 0x03 1 [9, 0, 0, 1, 0] = true ∧ ([0, 0] : List Byte).length ≠ 3 ∧
    frameOf (.duplicateRequest 1 3 1 [0]) = some (1, 0x03, 1, [0]) ∧ base.takes 1 0x03 1 [0] = true ∧
    base.takes 1 0x03 1 [10, 7] = true ∧ 9 < (10 : Byte).toNat ∧ (base.session 1).state = .opened := by decide

theorem witness_QueryCounters : (base.session 0).state = .opened ∧
    base.takes 0 0x03 1 [9, 0, BitVec.ofNat 8 (3 : BusIx).val, 0] = true ∧
    base.takes 0 0x03 1 [9, 1, BitVec.ofNat 8 (2 : PortIx).val, 0] = true ∧
    base.takes 0 0x03 1 [9, 0, BitVec.ofNat 8 (3 : BusIx).val, 1] = true ∧
    base.takes 0 0x03 1 [9, 1, BitVec.ofNat 8 (2 : PortIx).val, 1] = true ∧
    base.takes 0 0x03 1 [9, 2, 0, 0] = true ∧ base.takes 0 0x03 1 [9, 0, 0, 2] = true ∧
    base.takes 0 0x03 1 [9, 1, 3, 0] = true ∧ base.takes 0 0x03 1 [9, 0, 4, 0] = true := by decide

/-- COUNTERS refused with the clear option, from the primary session: scope 2, port 3, bus 4; and a clear option of 2. -/
theorem witness_QueryCounters_refusals :
    (∀ x ∈ ([[2, 0, 1], [1, 3, 1], [0, 4, 1], [0, 0, 2], [0, 4, 0]] : List (List Byte)), base.takes 0 0x03 1 (9 :: x) = true) ∧
    frameOf (.queryCountersClear 0 1 1 3) = some (0, 0x03, 1, [9, 1, 3, 1]) ∧
    frameOf (.queryCounters 0 1 [0, 4, 1]) = some (0, 0x03, 1, [9, 0, 4, 1]) ∧ (base.session 0).state = .opened ∧
    base.takes 1 0x03 1 [9, 1, 3, 0] = true ∧ (0 : Byte) ≠ 1 ∧ 2 < (3 : Byte).toNat ∧ 3 < (4 : Byte).toNat := by decide

theorem witness_QueryRepliesFit : lawfulState.recordsLawful ∧ lawfulState.buffersBounded := by decide +kernel

theorem witness_QueryRepliesFit_layouts : ([1, 2] : List Byte).length ≤ 2 ∧
    (let y : Target := { Target.reset with slots := Target.reset.slots.set 3 { InSlot.empty with state := .filling } }
     y.slots[(3 : Fin 4)].state = .filling) ∧
    (∀ k : Fin 4, Target.reset.slots[k].state ≠ .filling) ∧ Target.reset.reading = none ∧
    ({ Target.reset with reading := some ⟨0, 0, none, false⟩ } : Target).reading ≠ none ∧
    (carried 3 [(4, [1, 2, 3]), (5, [6])]).getLast? = some (4, [1, 2, 3]) ∧
    [(4, [1, 2, 3]), (5, [6])] = carried 3 [(4, [1, 2, 3]), (5, [6])] ++ [(5, ([6] : List Byte))] := by decide

/-- A GROUPS page that carries all that is left, with room for the line block; one without room; one that leaves an entry. -/
theorem witness_QueryRepliesFit_groups :
    let page (n : Nat) := carried 93 [(2, List.replicate n (0 : Byte)), (3, List.replicate n 0)]
    let whole (n : Nat) := [(2, List.replicate n (0 : Byte)), (3, List.replicate n 0)]
    (page 43 = whole 43 ∧ ((page 43).flatMap Prod.snd).length + 6 ≤ 93) ∧
    (93 < ((page 46).flatMap Prod.snd).length + 6 ∧ (page 46).getLast? = some (3, List.replicate 46 0)) ∧
    (page 56 ≠ whole 56 ∧ (page 56).getLast? = some (2, List.replicate 56 0)) := by decide +kernel

/-- A SUBMIT body: bus 0, NORMAL, budget 7, one read of 64 bytes; the group flag and id as given. -/
def submitBody (groupFlag group : Byte) : List Byte := [0, 1, 1, 1, 7, groupFlag, group, 0, 40, 1, 0x77, 1, 64]

/-- What that body holds. -/
def submitted (groupFlag group : Byte) : SubmitBody :=
  { bus := 0, cls := 1, noReplay := 1, retryNack := 1, budget := 7, groupFlag := groupFlag, groupId := group, deadline := 40,
    segments := [{ addr := 0x77, dir := .read, count := 64, data := [] }] }

theorem witness_SubmitQueues : base.takes 1 0x06 1 (submitBody 0 0) = true ∧ (base.session 1).state = .opened ∧
    parseSubmit (submitBody 0 0) = some (submitted 0 0) ∧ (submitted 0 0).bus.toNat = (0 : BusIx).val ∧
    (base.bus 0).config.enabled = true ∧
    (∀ g ∈ (submitted 0 0).segments, 0x08 ≤ g.addr.toNat ∧ g.addr.toNat ≤ 0x77 ∧
      (base.bus 0).config.own ≠ some (g.addr.setWidth 7) ∧ g.count ≤ 64 ∧ (g.dir = .read → 1 ≤ g.count)) ∧
    ((submitted 0 0).segments.map fun g => g.count).sum ≤ 64 ∧ classOf (submitted 0 0).cls = some .normal ∧
    (submitted 0 0).budget.toNat ≤ 7 ∧ (submitted 0 0).noReplay.toNat ≤ 1 ∧ (submitted 0 0).retryNack.toNat ≤ 1 ∧
    base.windowUse 1 < (base.session 1).window ∧ lowestFree base.records = some 0 := by decide

/-- A body of two segments, a write of two bytes and a read of 64, and its fields; a deadline of 0x0128 ms. -/
theorem witness_SubmitQueues_layout :
    let x : SubmitBody :=
      { bus := 3, cls := 2, noReplay := 1, retryNack := 0, budget := 7, groupFlag := 1, groupId := 9, deadline := 0x0128,
        segments := [{ addr := 0x48, dir := .write, count := 2, data := [5, 6] },
          { addr := 0x77, dir := .read, count := 64, data := [] }] }
    parseSubmit [3, 2, 1, 0, 7, 1, 9, 0x01, 0x28, 2, 0x48, 0, 2, 5, 6, 0x77, 1, 64] = some x ∧
      x.deadline = (0x01 : Byte) ++ (0x28 : Byte) ∧
      (∀ g ∈ x.segments, g.count < 256 ∧ (g.dir = .write → g.data.length = g.count) ∧ (g.dir = .read → g.data = [])) ∧
      parseSubmit [3, 2, 1, 0, 7, 1, 9, 0x01, 0x28, 1, 0x48, 0, 2, 5, 6, 0] = none := by decide

/-- A SUBMIT body of one segment, for bus `b`: address, direction and count as given, class, group flag and id. -/
def oneSegment (b cls groupFlag group addr dir count : Byte) : List Byte :=
  [b, cls, 0, 0, 0, groupFlag, group, 0, 0, 1, addr, dir, count]

/-- What that body holds, when its segment is a read. -/
def oneRead (b cls groupFlag group addr count : Byte) : SubmitBody :=
  { bus := b, cls := cls, noReplay := 0, retryNack := 0, budget := 0, groupFlag := groupFlag, groupId := group, deadline := 0,
    segments := [{ addr := addr, dir := .read, count := count.toNat, data := [] }] }

/-- R11's checks 1 to 6, each failing alone: no body; bus 4; disabled bus 3; address 0x78, 0x07 and the own address; a read of no
byte; class 3. -/
theorem witness_SubmitQueues_values :
    (∀ body ∈ [[], oneSegment 4 1 0 0 0x48 1 1, oneSegment 3 1 0 0 0x48 1 1, oneSegment 0 1 0 0 0x78 1 1,
      oneSegment 0 1 0 0 0x07 1 1, oneSegment 0 1 0 0 0x2A 1 1, oneSegment 0 1 0 0 0x48 1 0, oneSegment 0 3 0 0 0x48 1 1],
      base.takes 1 0x06 1 body = true) ∧ (base.session 1).state = .opened ∧ parseSubmit [] = none ∧
    parseSubmit (oneSegment 4 1 0 0 0x48 1 1) = some (oneRead 4 1 0 0 0x48 1) ∧ 3 < (4 : Byte).toNat ∧
    parseSubmit (oneSegment 3 1 0 0 0x48 1 1) = some (oneRead 3 1 0 0 0x48 1) ∧ (base.bus 3).config.enabled = false ∧
    parseSubmit (oneSegment 0 1 0 0 0x78 1 1) = some (oneRead 0 1 0 0 0x78 1) ∧ 0x77 < (0x78 : Byte).toNat ∧
    parseSubmit (oneSegment 0 1 0 0 0x07 1 1) = some (oneRead 0 1 0 0 0x07 1) ∧ (0x07 : Byte).toNat < 0x08 ∧
    parseSubmit (oneSegment 0 1 0 0 0x2A 1 1) = some (oneRead 0 1 0 0 0x2A 1) ∧
    (base.bus 0).config.own = some ((0x2A : Byte).setWidth 7) ∧
    parseSubmit (oneSegment 0 1 0 0 0x48 1 0) = some (oneRead 0 1 0 0 0x48 0) ∧
    ¬(∀ g ∈ (oneRead 0 1 0 0 0x48 0).segments, g.dir = .read → 1 ≤ g.count) ∧
    parseSubmit (oneSegment 0 3 0 0 0x48 1 1) = some (oneRead 0 3 0 0 0x48 1) ∧
    ¬((oneRead 0 3 0 0 0x48 1).cls.toNat ≤ 2) ∧
    (∀ g ∈ (oneRead 0 3 0 0 0x48 1).segments, 0x08 ≤ g.addr.toNat ∧ g.addr.toNat ≤ 0x77 ∧
      (base.bus 0).config.own ≠ some (g.addr.setWidth 7) ∧ g.count ≤ 64 ∧ (g.dir = .read → 1 ≤ g.count)) ∧
    (base.bus 0).config.enabled = true := by decide

/-- R11's checks 7 to 9: no such group, another session's, an ARMED one; a full window; no FREE slot. -/
theorem witness_SubmitQueues_group_and_room :
    (base.putGroup 2 aGroup).takes 1 0x06 1 (oneSegment 0 1 1 10 0x48 1 1) = true ∧
    parseSubmit (oneSegment 0 1 1 10 0x48 1 1) = some (oneRead 0 1 1 10 0x48 1) ∧
    (base.putGroup 2 aGroup).findGroup 10 = none ∧ (oneRead 0 1 1 10 0x48 1).groupFlag.toNat ≤ 1 ∧
    (base.putGroup 2 aGroup).takes 0 0x06 1 (oneSegment 0 1 1 2 0x48 1 1) = true ∧
    parseSubmit (oneSegment 0 1 1 2 0x48 1 1) = some (oneRead 0 1 1 2 0x48 1) ∧
    (base.putGroup 2 aGroup).findGroup 2 = some (2, aGroup) ∧ aGroup.owner ≠ 0 ∧ aGroup.owner = 1 ∧ aGroup.state = .collecting ∧
    (base.putGroup 2 { aGroup with state := .armed }).findGroup 2 = some (2, { aGroup with state := .armed }) ∧
    ((base.modSession 1 fun x => { x with window := 0 }).session 1).window ≤ (base.modSession 1 fun x => { x with window := 0 }).windowUse 1 ∧
    (let full : State := { base with records := Vector.replicate 64 { gen := 0, entry := some aRecord } }
     full.windowUse 0 < (full.session 0).window ∧ lowestFree full.records = none) := by decide +kernel

/-- Group 2 of session 1 is COLLECTING on `base`, and T1 low. -/
def withGroup (g : GroupEntry) : State := base.putGroup 2 g

theorem witness_SubmitStages : (withGroup aGroup).takes 1 0x06 1 (submitBody 1 2) = true ∧
    ((withGroup aGroup).session 1).state = .opened ∧ parseSubmit (submitBody 1 2) = some (submitted 1 2) ∧
    (withGroup aGroup).findGroup (submitted 1 2).groupId = some (2, aGroup) ∧ aGroup.owner = 1 ∧
    aGroup.state = .collecting ∧ (withGroup aGroup).windowUse 1 < ((withGroup aGroup).session 1).window ∧
    lowestFree (withGroup aGroup).records = some 0 := by decide

theorem witness_CancelByTheRecordsState : (withQueued aRecord).takes 1 0x07 1 [3] = true ∧ ((withQueued aRecord).session 1).state = .opened ∧
    (withQueued aRecord).findRecord 67 = none ∧ (withQueued aRecord).findRecord 3 = some (3, aRecord) ∧
    (withQueued aRecord).takes 1 0x07 1 [67] = true ∧ (withQueued aRecord).takes 0 0x07 1 [3] = true ∧
    aRecord.owner ≠ 0 ∧ aRecord.state = .queued ∧
    lawfulState.findRecord 4 = some (4, { aRecord with state := .staged, group := some 2, entryTime := none }) ∧
    (withAttempt aRecord anAttempt).findRecord 3 = some (3, { aRecord with state := .active, attempts := 1 }) ∧
    ((withAttempt aRecord anAttempt).bus 0).engine = .active (some anAttempt) ∧ anAttempt.item = .record 3 ∧
    (withQueued { aRecord with state := .done }).findRecord 3 = some (3, { aRecord with state := .done }) := by decide

/-- Session 1's outbox is full. -/
def fullOutbox (s : State) : State :=
  s.modSession 1 fun x => { x with outbox := List.replicate 16 (anEntry 0 true) }

theorem witness_EndedRecordsReport : (withQueued aRecord).record 3 = some aRecord ∧
    Source.record 3 ∉ ((withQueued aRecord).session 1).admission ∧ ((withQueued aRecord).session 1).outbox.length < 16 ∧
    16 ≤ ((fullOutbox (withQueued aRecord)).session 1).outbox.length := by decide

/-- One source of each kind with a report that is pending, for a session with room. -/
theorem witness_EndedRecordsReport_sources :
    let push : Report → State := fun y => base.modSession 1 fun x => { x with
      nextSeq := x.nextSeq + 1
      outbox := x.outbox ++ [({ seq := x.nextSeq, sent := false, everSent := false, report := y } : OutboxEntry)] }
    let x : Result := { status := .ok, failing := none, bytesCompleted := 0, completionTime := 7, readData := [] }
    let v : ValueReport := { value := [1, 2], time := 5, coalesced := 0 }
    let u : SuspensionReport := { status := .nackAddress, suspensions := 1 }
    let f : FireReport := { queued := 1, endedOff := 0, fires := 1, source := .request, fireTime := 5, fireCount := 1 }
    let d : BusEvent := { kind := .disabled, time := 3, missed := 0 }
    (∀ y, push y = base.modSession 1 fun x => { x with
      nextSeq := x.nextSeq + 1
      outbox := x.outbox ++ [({ seq := x.nextSeq, sent := false, everSent := false, report := y } : OutboxEntry)] }) ∧
    (base.putRecord 3 { aRecord with state := .done, result := some x }).record 3 =
      some { aRecord with state := .done, result := some x } ∧
    (base.putLease 3 { aLease with report := .granted }).lease 3 = some { aLease with report := .granted } ∧
    aLease.grantTime = some 700 ∧ aLease.expiryTime = some 1000 ∧
    (base.putLease 3 { aLease with report := .ended, endTime := some 9 }).lease 3 =
      some { aLease with report := .ended, endTime := some 9 } ∧
    (base.putGroup 2 { aGroup with report := some f }).group 2 = some { aGroup with report := some f } ∧
    (base.putWatch 4 { aWatch with valueReport := some v, suspensionReport := some u }).watch 4 =
      some { aWatch with valueReport := some v, suspensionReport := some u } ∧ aWatch.suspensionFirst = false ∧
    (base.putWatch 4 { aWatch with suspensionReport := some u, valueReport := none }).watch 4 =
      some { aWatch with suspensionReport := some u, valueReport := none } ∧
    (let y := base.modTarget 0 fun t => { t with slots := t.slots.set 2 { InSlot.empty with state := .complete } }
     (y.bus 0).target.slots[(2 : Fin 4)].state = .complete) ∧
    ((base.modTarget 0 fun t => { t with tally := some ⟨1, 2, 3, 4, 5⟩ }).bus 0).target.tally = some ⟨1, 2, 3, 4, 5⟩ ∧
    ((base.modSession 1 fun y => { y with busEvents := y.busEvents.set 0 (some d) }).session 1).busEvents[(0 : BusIx)] = some d ∧
    Source.tally 0 ∉ (base.session 1).admission ∧ (base.session 1).outbox.length < 16 ∧
    16 ≤ ((fullOutbox base).session 1).outbox.length ∧
    Source.tally 0 ∈ ((base.modSession 1 fun y => { y with admission := [.tally 0] }).session 1).admission :=
  ⟨fun _ => rfl, by decide⟩

/-- `base` with `aLease` in slot 3. -/
def withLease (e : Lease) : State := base.putLease 3 e

theorem witness_ClaimGrantsQueuesOrRefuses : (withLease aLease).takes 0 0x08 1 [0, 0x57, 0x77, 0, 1, 1] = true ∧
    (withLease aLease).takes 0 0x08 1 [0, 0x57, 0x77, 0, 1, 0] = true ∧
    (withLease aLease).takes 0 0x08 1 [0, 0x08, 0x4F, 0, 1, 0] = true ∧
    ((withLease aLease).session 0).state = .opened ∧ ((withLease aLease).bus 0).config.enabled = true ∧
    (0x00 : Byte) ++ (0x01 : Byte) ≠ 0#16 ∧ lowestFree (withLease aLease).leases = some 0 ∧
    lowestFree ({ base with leases := Vector.replicate 16 { gen := 0, entry := some aLease } }).leases = none := by decide

/-- The conflict of the claims above: the first two overlap `aLease`, the third does not. -/
theorem witness_Claim_conflict : ((withLease aLease).lease 3 = some aLease ∧ aLease.owner ≠ 0 ∧ aLease.bus = 0 ∧
    aLease.state ≠ .ended ∧ aLease.low.toNat ≤ 0x77 ∧ 0x57 ≤ aLease.high.toNat) ∧ ¬(aLease.low.toNat ≤ 0x4F) := by decide

/-- R89's checks of values: bus 4; disabled bus 3; addresses 0x07 and 0x78; high below low, no duration, wait flag 2. -/
theorem witness_Claim_values :
    (∀ body ∈ [[4, 0x50, 0x57, 0, 1, 0], [3, 0x50, 0x57, 0, 1, 0], [0, 0x07, 0x57, 0, 1, 0], [0, 0x50, 0x78, 0, 1, 0],
      [0, 0x51, 0x50, 0, 1, 0], [0, 0x50, 0x57, 0, 0, 0], [0, 0x50, 0x57, 0, 1, 2]], base.takes 1 0x08 1 body = true) ∧
    (base.session 1).state = .opened ∧ 3 < (4 : Byte).toNat ∧ (base.bus 3).config.enabled = false ∧
    (base.bus 0).config.enabled = true ∧ (0x07 : Byte).toNat < 0x08 ∧ 0x77 < (0x78 : Byte).toNat ∧
    (0x50 : Byte).toNat < (0x51 : Byte).toNat ∧ (0x00 : Byte) ++ (0x00 : Byte) = 0#16 ∧ 1 < (2 : Byte).toNat := by decide

theorem witness_RenewMovesTheExpiryTime : (withLease aLease).takes 1 0x09 1 [3, 0, 1] = true ∧ ((withLease aLease).session 1).state = .opened ∧
    (withLease aLease).takes 1 0x09 1 [19, 0, 1] = true ∧ (withLease aLease).findLease 19 = none ∧
    (withLease aLease).findLease 3 = some (3, aLease) ∧ aLease.owner ≠ 0 ∧ (withLease aLease).takes 0 0x09 1 [3, 0, 1] = true ∧
    (withLease aLease).takes 1 0x09 1 [3, 0, 0] = true ∧ (0x00 : Byte) ++ (0x00 : Byte) = 0#16 ∧
    (0x00 : Byte) ++ (0x01 : Byte) ≠ 0#16 ∧ aLease.state = .granted ∧
    (withLease { aLease with state := .waiting }).findLease 3 = some (3, { aLease with state := .waiting }) ∧
    (withLease { aLease with state := .ended }).findLease 3 = some (3, { aLease with state := .ended }) := by decide

theorem witness_LeasesEnd : (withLease aLease).takes 1 0x0A 1 [3] = true ∧ ((withLease aLease).session 1).state = .opened ∧
    (withLease aLease).findLease 3 = some (3, aLease) ∧ aLease.owner = 1 ∧ aLease.state ≠ .ended ∧
    (withLease aLease).takes 0 0x0B 1 [3] = true ∧ ((withLease aLease).session 0).state = .opened ∧
    (withLease { aLease with state := .ended }).findLease 3 = some (3, { aLease with state := .ended }) ∧
    (withLease aLease).lease 3 = some aLease ∧ aLease.state = .granted ∧ aLease.expiryTime = some 1000 ∧
    ((withLease aLease).clock - 1000).toNat < 2 ^ 31 := by decide

/-- An id that resolves to nothing, and another session's lease. -/
theorem witness_LeasesEnd_refusals :
    (withLease aLease).takes 1 0x0A 1 [19] = true ∧ (withLease aLease).takes 0 0x0B 1 [19] = true ∧
    (withLease aLease).findLease 19 = none ∧ (withLease aLease).takes 0 0x0A 1 [3] = true ∧
    (withLease aLease).findLease 3 = some (3, aLease) ∧ aLease.owner ≠ 0 ∧
    ((withLease aLease).session 0).state = .opened := by decide

/-- A claim of session 0 that waits behind `aLease`. -/
def waitingClaim : Lease :=
  { aLease with owner := 0, state := .waiting, grantTime := none, expiryTime := none }

theorem witness_ReexaminationLeavesNoneGrantable :
    let s := ((withLease aLease).putLease 5 waitingClaim).setWaiting 0 [5]
    (s.reexamine 0).waitingOrder 0 = [] ++ 5 :: [] ∧ (s.reexamine 0).lease 5 = some waitingClaim ∧
      waitingClaim.state = .waiting := by decide

/-- With `aLease` gone the claim of slot 5 need not wait; with it, an order of that claim alone must. -/
theorem witness_Reexamination_grants :
    let s := ((base.putLease 5 waitingClaim).putLease 6 { waitingClaim with owner := 1 }).setWaiting 0 [5, 6]
    let u := ((withLease aLease).putLease 5 waitingClaim).setWaiting 0 [5]
    (s.waitingOrder 0 = [] ++ 5 :: [6] ∧ s.lease 5 = some waitingClaim ∧ s.waitsAmong [] ∧ ¬s.mustWait waitingClaim []) ∧
      u.waitsAmong (u.waitingOrder 0) := by
  refine ⟨⟨rfl, by decide, ?_, by decide⟩, ?_⟩
  · intro before j after h
    simp at h
  · intro before j after h
    change [5] = before ++ j :: after at h
    have hl := congrArg List.length h
    obtain rfl : before = [] := List.eq_nil_of_length_eq_zero (by simp at hl; omega)
    obtain ⟨rfl, -⟩ : (5 : Fin 16) = j ∧ [] = after := by simpa using h
    exact ⟨waitingClaim, by decide, .inl ⟨3, aLease, by decide, by decide⟩⟩

theorem witness_GroupCreateAndArm : base.takes 1 0x0C 1 [] = true ∧ (base.session 1).state = .opened ∧
    lowestFree base.groups = some 0 ∧
    lowestFree ({ base with groups := Vector.replicate 8 { gen := 0, entry := some aGroup } }).groups = none ∧
    (withGroup aGroup).takes 1 0x0D 1 [2] = true ∧ (withGroup aGroup).findGroup 2 = some (2, aGroup) ∧
    (withGroup aGroup).findGroup 10 = none ∧ aGroup.owner ≠ 0 ∧ aGroup.state = .collecting ∧
    (withGroup { aGroup with state := .armed }).findGroup 2 = some (2, { aGroup with state := .armed }) := by decide

theorem witness_GroupBind : (withGroup aGroup).takes 1 0x0F 1 [2, 0, 9] = true ∧
    (withGroup aGroup).takes 1 0x0F 1 [2, 3, 0] = true ∧ (withGroup aGroup).takes 1 0x0F 1 [2, 2, 3] = true ∧
    (withGroup aGroup).takes 1 0x0F 1 [2, 2, 2] = true ∧ ((withGroup aGroup).session 1).state = .opened ∧
    (withGroup aGroup).findGroup 2 = some (2, aGroup) ∧
    (∀ j, j ≠ 2 → (withGroup aGroup).group j = none) ∧
    ((withGroup aGroup).putGroup 4 { aGroup with binding := none }).boundGroup .t1 ≠ none ∧
    ((withGroup aGroup).putGroup 4 { aGroup with binding := none }).boundGroup .t1 ≠ some 4 := by decide

/-- An id that resolves to nothing, and another session's group, to GROUP_BIND, GROUP_FIRE and GROUP_DELETE. -/
theorem witness_Group_refusals :
    let s := withGroup aGroup
    (∀ p : PortIx, p ≠ 2 → s.takes p 0x0F 1 [10, 9, 9] = true ∧ s.takes p 0x0F 1 [2, 9, 9] = true ∧
      s.takes p 0x0E 1 [10] = true ∧ s.takes p 0x0E 1 [2] = true ∧ s.takes p 0x10 1 [10] = true ∧
      s.takes p 0x10 1 [2] = true ∧ (s.session p).state = .opened) ∧
    s.findGroup 10 = none ∧ s.findGroup 2 = some (2, aGroup) ∧ aGroup.owner ≠ 0 := by decide

/-- An ARMED group with record 4 staged, on an enabled bus. -/
def armed : State :=
  (withGroup { aGroup with state := .armed, staged := [4] }).putRecord 4
    { aRecord with state := .staged, group := some 2, entryTime := none }

theorem witness_FireReleasesTheStagedList : armed.takes 1 0x0E 1 [2] = true ∧ (armed.session 1).state = .opened ∧
    armed.findGroup 2 = some (2, { aGroup with state := .armed, staged := [4] }) ∧ (armed.bus 0).config.enabled = true ∧
    armed.level .t1 ≠ true ∧ armed.boundGroup .t1 = some 2 ∧ (withGroup aGroup).boundGroup .t1 = some 2 ∧
    ((withGroup aGroup).setLevel .t1 true).level .t1 ≠ false ∧ armed.boundGroup .t0 = none ∧ armed.level .t0 ≠ true ∧
    (armed.record 4).isSome = true ∧ ((armed.modBus 0 fun x => { x with config := BusConfig.reset }).bus 0).config.enabled = false := by
  decide

theorem witness_FireReleasesTheStagedList_report :
    let f : FireReport := { queued := 65000, endedOff := 2, fires := 0xFFFF, source := .request, fireTime := 5, fireCount := 1 }
    let one : FireReport := { queued := 0xFFFF, endedOff := 0, fires := 1, source := .request, fireTime := 7, fireCount := 1 }
    let sum : FireReport := { f with queued := 0xFFFF, endedOff := 3, source := .line .t1, fireTime := 9, fireCount := 2 }
    mergeFire none 70000 0 .request 7 1 = one ∧ mergeFire (some f) 1000 1 (.line .t1) 9 2 = sum := by decide

theorem witness_GroupDelete : armed.takes 1 0x10 1 [2] = true ∧ (armed.session 1).state = .opened ∧
    armed.findGroup 2 = some (2, { aGroup with state := .armed, staged := [4] }) ∧ aGroup.owner = 1 := by decide

/-- `base` with watch 3. -/
def withWatch (w : Watch) : State := base.putWatch 3 w

theorem witness_WatchAddAndResume :
    base.takes 1 0x11 1 ([0, 0x77, 2, 4, 0xEA, 0x60] ++ [1, 2] ++ [0xFF, 0xFF, 0xFF, 0xFF]) = true ∧
    ((0xEA : Byte) ++ (0x60 : Byte)).toNat = 60000 ∧ (base.bus 0).config.own ≠ some ((0x77 : Byte).setWidth 7) ∧
    lowestFree base.watches = some 0 ∧
    lowestFree ({ base with watches := Vector.replicate 12 { gen := 0, entry := some aWatch } }).watches = none ∧
    (withWatch aWatch).takes 1 0x13 1 [3] = true ∧ (withWatch aWatch).findWatch 3 = some (3, aWatch) ∧
    aWatch.owner = some 1 ∧ aWatch.state ≠ .suspended ∧
    (withWatch { aWatch with state := .suspended }).findWatch 3 = some (3, { aWatch with state := .suspended }) := by decide

/-- R118's checks of values: bus 4; disabled bus 3; address 0x78; a pointer of 3 bytes, no mask, a mask of 5; periods 9 and 60001. -/
theorem witness_WatchAdd_values :
    (∀ body ∈ [[4, 0x48, 0, 1, 0, 10, 0xFF], [3, 0x48, 0, 1, 0, 10, 0xFF], [0, 0x78, 0, 1, 0, 10, 0xFF],
      [0, 0x48, 3, 1, 0, 10, 1, 2, 3, 0xFF], [0, 0x48, 0, 0, 0, 10], [0, 0x48, 0, 5, 0, 10, 1, 2, 3, 4, 5],
      [0, 0x48, 0, 1, 0, 9, 0xFF], [0, 0x48, 0, 1, 0xEA, 0x61, 0xFF]], base.takes 1 0x11 1 body = true) ∧
    [0, 0x48, 3, 1, 0, 10, 1, 2, 3, 0xFF] =
      [(0 : Byte), 0x48, BitVec.ofNat 8 [1, 2, 3].length, BitVec.ofNat 8 [0xFF].length, 0, 10] ++ [1, 2, 3] ++ [0xFF] ∧
    (base.session 1).state = .opened ∧ (base.bus 3).config.enabled = false ∧ (base.bus 0).config.enabled = true ∧
    (base.bus 0).config.own ≠ some ((0x48 : Byte).setWidth 7) ∧ 0x77 < (0x78 : Byte).toNat ∧
    ((0 : Byte) ++ (9 : Byte)).toNat < 10 ∧ 60000 < ((0xEA : Byte) ++ (0x61 : Byte)).toNat := by decide

theorem witness_WatchRemove : (withWatch aWatch).takes 1 0x12 1 [3] = true ∧ ((withWatch aWatch).session 1).state = .opened ∧
    (withWatch aWatch).findWatch 3 = some (3, aWatch) ∧ aWatch.state ≠ .removing ∧ aWatch.read ≠ .active ∧
    (withWatch { aWatch with read := .active }).findWatch 3 = some (3, { aWatch with read := .active }) ∧
    (withWatch { aWatch with state := .removing }).findWatch 3 = some (3, { aWatch with state := .removing }) := by decide

/-- WATCH_REMOVE and WATCH_RESUME of an id that resolves to nothing, of another session's watch and of one that has no owner; and
WATCH_ADD bodies too short, and with a mask byte too many. -/
theorem witness_Watch_refusals :
    let s := withWatch aWatch
    let u := withWatch { aWatch with owner := none, state := .removing, read := .active }
    (∀ p : PortIx, p ≠ 2 → s.takes p 0x12 1 [19] = true ∧ s.takes p 0x12 1 [3] = true ∧ s.takes p 0x13 1 [19] = true ∧
      s.takes p 0x13 1 [3] = true ∧ u.takes p 0x12 1 [3] = true ∧ u.takes p 0x13 1 [3] = true ∧
      (s.session p).state = .opened ∧ (u.session p).state = .opened) ∧
    s.findWatch 19 = none ∧ s.findWatch 3 = some (3, aWatch) ∧ aWatch.owner ≠ some 0 ∧
    u.findWatch 3 = some (3, { aWatch with owner := none, state := .removing, read := .active }) ∧
    frameOf (.watchAdd 1 1 [0, 0x48, 0, 1, 0]) = some (1, 0x11, 1, [0, 0x48, 0, 1, 0]) ∧
    base.takes 1 0x11 1 [0, 0x48, 0, 1, 0] = true ∧
    frameOf (.duplicateRequest 1 0x11 1 [0, 0x48, 0, 1, 0, 10, 0xFF, 0]) = some (1, 0x11, 1, [0, 0x48, 0, 1, 0, 10, 0xFF, 0]) ∧
    base.takes 1 0x11 1 [0, 0x48, 0, 1, 0, 10, 0xFF, 0] = true ∧
    ([0xFF, 0] : List Byte).length ≠ (0 : Byte).toNat + (1 : Byte).toNat := by decide

theorem witness_WatchPeriodExpiry : (withWatch aWatch).watch 3 = some aWatch ∧ aWatch.state = .running ∧
    aWatch.nextPeriod = some 1000 ∧ ((withWatch aWatch).clock - 1000).toNat < 2 ^ 31 ∧
    ((withWatch aWatch).bus 0).config.enabled = true ∧ aWatch.read = .none ∧
    (withWatch { aWatch with read := .queued }).watch 3 = some { aWatch with read := .queued } ∧
    (withWatch { aWatch with read := .active }).watch 3 = some { aWatch with read := .active } := by decide
/-- The read of watch 3 is ACTIVE in its stop for cause `why`, with two bytes read. -/
def withRead (w : Watch) (why : StopCause) : State :=
  (withWatch w).modBus 0 fun x =>
    { x with engine := .active (some { anAttempt with item := .watch 3, readBytes := [0x12, 0x30], phase := .stop why }), line := .busy }

theorem witness_WatchPeriodExpiry_outcomes :
    let w : Watch := { aWatch with read := .active }
    (∀ why ∈ [StopCause.naturalEnd, .addressNack], ((withRead w why).bus 0).engine =
      .active (some { anAttempt with item := .watch 3, readBytes := [0x12, 0x30], phase := .stop why })) ∧
    (withRead w .naturalEnd).watch 3 = some w ∧ w.state ≠ .removing ∧ w.owner = some 1 ∧ w.bus = 0 ∧
    ((withRead w .naturalEnd).bus 0).config.enabled = true ∧ anAttempt.underDisable = false ∧ w.failures + 1 < 3 ∧
    (withRead { w with state := .removing } .naturalEnd).watch 3 = some { w with state := .removing } := by decide

/-- R123's four cases, by the watch's pending report and last reported value; a read of 0x12 0x30 under the mask 0xFF 0xF0. -/
theorem witness_WatchPeriodExpiry_values :
    (∃ w', ReadLeaves aWatch [0x12, 0x30] 1000 w') ∧
    (∃ w', ReadLeaves { aWatch with lastReported := some [0x12, 0x3F] } [0x12, 0x30] 1000 w') ∧
    (∃ w', ReadLeaves { aWatch with valueReport := some ⟨[0x12, 0x3F], 900, 0⟩ } [0x12, 0x30] 1000 w') ∧
    ∃ w', ReadLeaves { aWatch with valueReport := some ⟨[0x12, 0x40], 900, 0⟩ } [0x12, 0x30] 1000 w' :=
  ⟨⟨_, .changed rfl (by simp [aWatch])⟩, ⟨_, .asReported rfl ⟨[0x12, 0x3F], rfl, by unfold SameUnder; decide⟩⟩,
    ⟨_, .asPending ⟨[0x12, 0x3F], 900, 0⟩ rfl (by unfold SameUnder; decide)⟩,
    ⟨_, .coalesced ⟨[0x12, 0x40], 900, 0⟩ rfl (by unfold SameUnder; decide)⟩⟩

/-- R124: the third failure in a row. -/
theorem witness_WatchPeriodExpiry_third : (∃ w', FailureLeaves { aWatch with failures := 2 } .stretchTimeout w') ∧
    ∃ w', FailureLeaves aWatch .nackData w' :=
  ⟨⟨_, .suspended (by decide)⟩, _, .counted (by decide)⟩

/-- An attempt of `it`, a write of 0x0A and a read of two bytes, in segment `k` at byte `n` and in phase `ph`. -/
def attemptAt (it : Item) (k n : Nat) (ph : Phase) : Attempt :=
  { freshAttempt it [.write 0x4A [0x0A], .read 0x4A 2] .c1 with
    segIndex := k, byteIndex := n, anyAcked := decide (k = 2), written := k - 1,
    readBytes := if k = 2 then [0x12, 0x30].take (n - 1) else [], phase := ph }

/-- The read of watch 3 is ACTIVE with attempt `a`. -/
def watching (w : Watch) (a : Attempt) : State :=
  (withWatch w).modBus 0 fun x => { x with engine := .active (some a), line := .busy }

/-- The last byte of a watch read leaves it in the NACK before its stop (R64), where that stop is seen. -/
theorem witness_WatchPeriodExpiry_last_byte :
    let w : Watch := { aWatch with read := .active }
    let a := attemptAt (.watch 3) 2 3 (.readAck true (.stop .naturalEnd))
    after (fun s => (s.bus 0).engine) (exec (.readByteReceived 0 0x30)
      (watching w (attemptAt (.watch 3) 2 2 (.readAck false .nextByte)))) = some (.active (some a)) ∧
    ((watching w a).bus 0).engine = .active (some a) ∧ a.phase = .readAck true (.stop .naturalEnd) ∧ a.item = .watch 3 ∧
    (watching w a).watch 3 = some w ∧ w.state ≠ .removing ∧ w.owner = some 1 ∧ ((watching w a).bus 0).config.enabled = true ∧
    a.underDisable = false ∧ a.readBytes = [0x12, 0x30] ∧ Place.boundary ≠ .inByte 8 ∧
    (watching { w with state := .removing } a).watch 3 = some { w with state := .removing } := by decide

/-- R122, R123 and R128: at that stop the failures are 0 and the value is reported. -/
theorem test_watch_read_reports :
    after (fun s => (s.watch 3).map fun w => (w.read, w.failures, w.lastReported)) (exec (.stopSeen 0 .boundary)
      (watching { aWatch with read := .active, failures := 2 } (attemptAt (.watch 3) 2 3 (.readAck true (.stop .naturalEnd))))) =
    some (some (.none, 0, some [0x12, 0x30])) := by decide

/-- One end of an attempt for each line of `EndsAttempt`: by its stop after a READ and after a data NACK; by a loss and a foreign
start in those stops. -/
theorem witness_EndsAttempt_stops (s : State) (it : Item) :
    let last := attemptAt it 2 3 (.readAck true (.stop .naturalEnd))
    let nack := attemptAt it 1 2 (.stop .dataNack)
    let late : Attempt := { attemptAt it 2 2 (.readAck false .nextByte) with abortPending := true }
    (∃ f g, EndsAttempt s 0 last (.stopSeen 0 .boundary) last .ok f g) ∧
    (∃ f g, EndsAttempt s 0 nack (.stopSeen 0 .boundary) nack .nackData f g) ∧
    (∃ f g, EndsAttempt s 0 late (.stopSeen 0 .boundary) late .stoppedByAbort f g) ∧
    (∃ f g, EndsAttempt s 0 last (.lossInRepeatedStartOrStop { bus := 0, inRepeatedStart := false }) last .ok f g) ∧
    (∃ f g, EndsAttempt s 0 nack (.startSeen 0 .foreign .boundary) nack .nackData f g) ∧
    ∃ f g, EndsAttempt s 0 { last with phase := .stop .addressNack } (.stopSeen 0 .boundary)
      { last with phase := .stop .addressNack } .nackAddress f g :=
  ⟨⟨_, _, .stop .naturalEnd _ _ (.inr ⟨by decide, .inr (.inl ⟨true, rfl⟩)⟩) .natural⟩,
    ⟨_, _, .stop .dataNack _ _ (.inl rfl) .dataNack⟩,
    ⟨_, _, .stop .aborted _ _ (.inr ⟨by decide, .inr (.inr ⟨rfl, rfl, rfl, false, .inl rfl⟩)⟩) .aborted⟩,
    ⟨_, _, .lossInStop .naturalEnd _ _ (.inr (.inl ⟨true, rfl⟩)) .natural⟩,
    ⟨_, _, .startInStop .dataNack _ _ (.inl rfl) .dataNack⟩, ⟨_, _, .stop .addressNack _ _ (.inl rfl) .addressNack⟩⟩

/-- By a loss, a foreign start and a stop in the repeated start, and in bits sent as 1: of the address byte 0x94, of the address
byte 0x95 whose start has not been reported, of the written byte 0x0A. -/
theorem witness_EndsAttempt_losses (s : State) (it : Item) :
    let a := attemptAt it 1 0 .inByte
    let b := attemptAt it 1 1 .inByte
    let r := attemptAt it 1 2 .repeatedStart
    let next : Attempt := { r with segIndex := 2, byteIndex := 0, phase := .inByte }
    (∃ f g, EndsAttempt s 0 r (.lossInRepeatedStartOrStop { bus := 0, inRepeatedStart := true }) r .lost f g) ∧
    (∃ f g, EndsAttempt s 0 r (.startSeen 0 .foreign .inRepeatedStart) r .lost f g) ∧
    (∃ f g, EndsAttempt s 0 r (.stopSeen 0 .inRepeatedStart) r .lost f g) ∧
    (∃ f g, EndsAttempt s 0 a (.arbitrationLoss 0 (.addressByte 0)) a .lost f g) ∧
    (∃ f g, EndsAttempt s 0 r (.arbitrationLoss 0 (.addressByte 7)) next .lost f g) ∧
    (∃ f g, EndsAttempt s 0 b (.arbitrationLoss 0 (.writtenByte 4)) b .lost f g) ∧
    (∃ f g, EndsAttempt s 0 a (.startSeen 0 .foreign (.inByte 0)) a .lost f g) ∧
    ∃ f g, EndsAttempt s 0 b (.stopSeen 0 (.inByte 4)) b .lost f g :=
  ⟨⟨_, _, .lossInRepeatedStart true (.inl rfl)⟩, ⟨_, _, .startInRepeatedStart _ (.inl rfl)⟩,
    ⟨_, _, .stopInRepeatedStart _ (.inl rfl)⟩, ⟨_, _, .lossInAddress 0 ⟨rfl, _, rfl, .inl ⟨rfl, rfl, by decide⟩⟩⟩,
    ⟨_, _, .lossInNextAddress 7 _ ⟨true, .inl rfl⟩ rfl ⟨rfl, _, rfl, .inl ⟨rfl, rfl, by decide⟩⟩⟩,
    ⟨_, _, .lossInWritten 4 ⟨rfl, _, rfl, .inr ⟨rfl, Nat.one_ne_zero, 0x4A, [0x0A], 0x0A, rfl, rfl, by decide⟩⟩⟩,
    ⟨_, _, .startInSentOne 0 true ⟨rfl, _, rfl, .inl ⟨rfl, rfl, by decide⟩⟩⟩,
    ⟨_, _, .stopInSentOne 4 false ⟨rfl, _, rfl, .inr ⟨rfl, Nat.one_ne_zero, 0x4A, [0x0A], 0x0A, rfl, rfl, by decide⟩⟩⟩⟩

/-- In the NACK after a read byte; in an acknowledge bit of the target's, in a bit of a read byte and in an ACK after one; by a
stretch timeout and by a stuck line. -/
theorem witness_EndsAttempt_others (it : Item) :
    let s := onBus .idle .busy
    let n := attemptAt it 2 3 (.readAck true (.stop .naturalEnd))
    let k := attemptAt it 2 2 (.readAck false .nextByte)
    let a := attemptAt it 1 0 .inByte
    (∃ f g, EndsAttempt s 0 n (.arbitrationLoss 0 .readNack) n .lost f g) ∧
    (∃ f g, EndsAttempt s 0 n (.startSeen 0 .foreign (.inByte 8)) n .lost f g) ∧
    (∃ f g, EndsAttempt s 0 n (.stopSeen 0 (.inByte 8)) n .lost f g) ∧
    (∃ f g, EndsAttempt s 0 a (.stopSeen 0 (.inByte 8)) a .busError f g) ∧
    (∃ f g, EndsAttempt s 0 k (.startSeen 0 .foreign (.inByte 3)) k .busError f g) ∧
    (∃ f g, EndsAttempt s 0 k (.stopSeen 0 (.inByte 8)) k .busError f g) ∧
    (∃ f g, EndsAttempt s 0 a (.stretchTimeout 0) a .stretchTimeout f g) ∧
    ∃ f g, EndsAttempt s 0 a (.stuckDetected { bus := 0, atEntry := none }) a .stretchTimeout f g :=
  ⟨⟨_, _, .lossInNack ⟨true, _, rfl, .inl rfl⟩⟩, ⟨_, _, .startInNack ⟨true, _, rfl, .inl rfl⟩⟩,
    ⟨_, _, .stopInNack ⟨true, _, rfl, .inl rfl⟩⟩, ⟨_, _, .stopInUndriven 8 (.inl ⟨rfl, rfl⟩)⟩,
    ⟨_, _, .startInUndriven 3 (.inr (.inl ⟨false, .inr rfl, Nat.succ_ne_zero 1, by decide, 0x4A, 2, rfl⟩))⟩,
    ⟨_, _, .stopInUndriven 8 (.inr (.inr ⟨rfl, rfl, .nextByte, rfl⟩))⟩, ⟨_, _, .stretch⟩,
    ⟨_, _, .stuck none (.inr (by decide))⟩⟩

/-- The attempts above are those of record 3 and of the read of watch 3. -/
theorem witness_WatchPeriodExpiry_ends : ∀ ph ∈ [Phase.readAck true (.stop .naturalEnd), .inByte, .repeatedStart, .stop .dataNack],
    let a := attemptAt (.watch 3) 2 3 ph
    let w : Watch := { aWatch with read := .active }
    ((watching w a).bus 0).engine = .active (some a) ∧ a.item = .watch 3 ∧ (watching w a).watch 3 = some w ∧
      w.state ≠ .removing ∧ w.owner = some 1 := by decide

theorem witness_AttemptLosses_ends : ∀ ph ∈ [Phase.readAck true (.stop .naturalEnd), .inByte, .repeatedStart, .stop .dataNack],
    let a := attemptAt (.record 3) 2 3 ph
    ((withAttempt aRecord a).bus 0).engine = .active (some a) ∧ a.item = .record 3 := by decide

/-- Ends of records, for a record with attempts left, one without, one under abort and one with no-replay and data acknowledged;
and the two retries. -/
theorem witness_AttemptLosses_outcomes :
    let r : Record := { aRecord with state := .active, attempts := 1 }
    let a := attemptAt (.record 3) 1 0 .inByte
    EndsRecord { r with budget := 0 } a true .lost .lost ∧ EndsRecord { r with abortPending := true } a false .lost .busOff ∧
    EndsRecord r { a with anyAcked := true } true .lost .lostPartial ∧ EndsRecord r a true .stoppedByAbort .aborted ∧
    EndsRecord r a true .nackAddress .nackAddress ∧
    EndsRecord { r with retryNack := true, abortPending := true } a true .nackAddress .aborted ∧
    EndsRecord { r with retryNack := true, budget := 0 } a true .nackAddress .nackAddress ∧
    RetriesRecord r a .lost .lost ∧ RetriesRecord { r with retryNack := true } a .nackAddress .nackAddress :=
  ⟨.lost (.inr rfl) rfl (by decide), .lostAborted (.inr rfl) rfl, .lostPartial ⟨rfl, rfl⟩, .aborted, .nackFinal rfl,
    .nackAborted rfl rfl, .nackAddress rfl rfl (by decide), .lost (.inr rfl) rfl (by decide), .nackAddress rfl rfl (by decide)⟩


/-- Bus 0's target unit. -/
def withTarget (t : Target) : State := base.modTarget 0 fun _ => t

theorem witness_TargetOwn : (base.session 1).state = .opened ∧
    base.takes 1 0x14 1 [BitVec.ofNat 8 (0 : BusIx).val, 1] = true ∧ (base.bus 0).target.owner = none ∧
    ((withTarget { Target.reset with owner := some 1 }).bus 0).target.owner = some 1 ∧
    (withTarget { Target.reset with owner := some 1 }).takes 0 0x14 1 [BitVec.ofNat 8 (0 : BusIx).val, 1] = true ∧
    (withTarget { Target.reset with owner := some 1 }).takes 1 0x14 1 [BitVec.ofNat 8 (0 : BusIx).val, 0] = true := by decide

theorem witness_TargetOwn_values :
    frameOf (.targetOwnOn 1 1 4) = some (1, 0x14, 1, [4, 1]) ∧ base.takes 1 0x14 1 [4, 1] = true ∧ 3 < (4 : Byte).toNat ∧
    frameOf (.targetOwnOn 1 1 3) = some (1, 0x14, 1, [3, 1]) ∧ base.takes 1 0x14 1 [3, 2] = true ∧ 1 < (2 : Byte).toNat := by decide

/-- 32 bytes, and one more. -/
def full32 : List Byte := List.replicate 32 0xA0
def over32 : List Byte := List.replicate 33 0xA0

theorem witness_TargetLoad :
    let owned := withTarget { Target.reset with owner := some 1, outbound := [1] }
    let body (m : Byte) (l : List Byte) := BitVec.ofNat 8 (0 : BusIx).val :: m :: BitVec.ofNat 8 l.length :: l
    (owned.session 1).state = .opened ∧ (owned.bus 0).target.owner = some 1 ∧ (owned.bus 0).target.reading = none ∧
    owned.takes 1 0x15 1 (body 0 full32) = true ∧ owned.takes 1 0x15 1 (body 0 over32) = true ∧
    owned.takes 0 0x15 1 (body 0 []) = true ∧ (owned.bus 0).target.owner ≠ some 0 ∧
    ((withTarget { Target.reset with owner := some 1, reading := some ⟨0, 0, none, false⟩ }).bus 0).target.reading ≠ none ∧
    owned.takes 1 0x15 1 (body 1 full32) = true ∧ (owned.bus 0).target.deferred = none ∧
    32 < (owned.bus 0).target.outbound.length + full32.length ∧
    (owned.bus 0).target.outbound.length + ([2] : List Byte).length ≤ 32 ∧
    ((withTarget { Target.reset with owner := some 1, deferred := some full32 }).bus 0).target.deferred = some full32 ∧
    32 < full32.length + ([2] : List Byte).length ∧ full32.length + ([] : List Byte).length ≤ 32 := by decide

/-- TARGET_LOAD's checks for both modes: bus 4, another session, mode 2, 33 bytes. -/
theorem witness_TargetLoad_values :
    let owned := withTarget { Target.reset with owner := some 1 }
    (∀ b ∈ ([[4, 1, 0], [0, 2, 0], 0 :: 1 :: 33 :: over32, 0 :: 0 :: 33 :: over32] : List (List Byte)),
      owned.takes 1 0x15 1 b = true) ∧ owned.takes 0 0x15 1 [0, 1, 0] = true ∧
    frameOf (.targetLoadAppend 1 1 0 33 over32) = some (1, 0x15, 1, 0 :: 1 :: BitVec.ofNat 8 over32.length :: over32) ∧
    (owned.session 1).state = .opened ∧ (owned.session 0).state = .opened ∧ 3 < (4 : Byte).toNat ∧ (0 : Byte).toNat = (0 : BusIx).val ∧
    (owned.bus 0).target.owner = some 1 ∧ (owned.bus 0).target.owner ≠ some 0 ∧ 1 < (2 : Byte).toNat ∧ 32 < over32.length := by
  decide

/-- TARGET_LOAD bodies that are too short, and with a byte too few. -/
theorem witness_TargetLoad_malformed :
    frameOf (.targetLoadReplace 1 1 0 2 [5]) = some (1, 0x15, 1, [0, 0, 2, 5]) ∧ base.takes 1 0x15 1 [0, 0, 2, 5] = true ∧
    ([5] : List Byte).length ≠ (2 : Byte).toNat ∧ frameOf (.duplicateRequest 1 0x15 1 [0, 1]) = some (1, 0x15, 1, [0, 1]) ∧
    base.takes 1 0x15 1 [0, 1] = true ∧ (base.session 1).state = .opened := by decide

/-- A bus left enabled with a new aging limit of 10 ms, which record 3, BULK for 10 ms, has reached: it becomes NORMAL at once. -/
theorem witness_BusConfigure_kept :
    let s := withQueued { aRecord with cls := .bulk }
    let body := [BitVec.ofNat 8 (0 : BusIx).val, 1, rateCode (s.bus 0).config.rate, 1, 2, 0, 10, 0x2A, 0]
    s.takes 0 0x16 1 body = true ∧ (s.session 0).state = .opened ∧ s.busesCoherent ∧ (s.bus 0).config.enabled = true ∧
    (s.bus 0).config.own = some ((0x2A : Byte).setWidth 7) ∧ (0 : Byte) ++ (10 : Byte) ≠ (s.bus 0).config.aging ∧
    after (fun t => (t.record 3).map (·.cls)) (exec (.busConfigure 0 1 body) s) = some (some .normal) := by decide

/-- A disable, with a record and a watch read queued, of an idle engine, of an attempt of record 3 and of one of watch 4; and an
enable while an attempt still finishes. -/
theorem witness_BusConfigure_disable :
    let body : List Byte := [BitVec.ofNat 8 (0 : BusIx).val, 0, 1, 1, 2, 0, 10, 0x2A, 0]
    let on : List Byte := [BitVec.ofNat 8 (0 : BusIx).val, 1, 1, 1, 2, 0, 10, 0x2A, 0]
    let queued := ((base.putRecord 5 aRecord).putWatch 4 { aWatch with read := .queued }).setQueue 0
      [.record 5, .watchRead 4 .bulk 5 false]
    let active := withAttempt aRecord anAttempt
    let watch := (base.putWatch 4 { aWatch with read := .active }).modBus 0 fun x =>
      { x with engine := .active (some { anAttempt with item := .watch 4 }), line := .busy }
    let finishing := active.modBus 0 fun x => { x with
      config := { x.config with enabled := false }
      engine := .active (some { anAttempt with abortPending := true, underDisable := true }) }
    (queued.takes 0 0x16 1 body = true ∧ queued.busesCoherent ∧ (queued.bus 0).config.enabled = true ∧
      (queued.bus 0).engine = .idle) ∧
    (active.takes 0 0x16 1 body = true ∧ active.busesCoherent ∧ (active.bus 0).engine = .active (some anAttempt) ∧
      anAttempt.item = .record 3 ∧ active.record 3 = some { aRecord with state := .active, attempts := 1 }) ∧
    (watch.takes 0 0x16 1 body = true ∧ watch.busesCoherent ∧
      (watch.bus 0).engine = .active (some { anAttempt with item := .watch 4 })) ∧
    (finishing.takes 0 0x16 1 on = true ∧ finishing.busesCoherent ∧ (finishing.bus 0).config.enabled = false ∧
      (finishing.bus 0).engine ≠ .disabled) ∧
    (onBus .target .busy).busesCoherent ∧ ((onBus .target .busy).bus 0).engine = .target := by decide

/-- Transfers that are cut off: none; a write, with and without the discard mark; a read, for an owner that asks for tallies, one
that does not, and none. -/
theorem witness_BusConfigure_cut_off :
    let w := withTarget { Target.reset with owner := some 1, slots := Target.reset.slots.set 0 { InSlot.empty with state := .filling } }
    let r := withTarget { Target.reset with owner := some 1, reading := some ⟨1, 0, some 7, false⟩ }
    ((base.bus 0).target.reading = none ∧ ∀ j : Fin 4, (base.bus 0).target.slots[j].state ≠ .filling) ∧
    ((w.bus 0).target.reading = none ∧ (w.bus 0).target.slots[(0 : Fin 4)].state = .filling ∧
      (∀ j : Fin 4, j < 0 → (w.bus 0).target.slots[j].state ≠ .filling) ∧ (w.bus 0).target.owner = some 1 ∧
      (w.bus 0).target.discard = false ∧ ((w.modTarget 0 fun t => { t with discard := true }).bus 0).target.discard = true) ∧
    ((∀ j : Fin 4, (r.bus 0).target.slots[j].state ≠ .filling) ∧ (r.bus 0).target.reading = some ⟨1, 0, some 7, false⟩ ∧
      (r.bus 0).target.discard = false ∧ (r.bus 0).target.owner = some 1 ∧ (r.session 1).maskTargetRead = true) ∧
    ((r.modSession 1 fun x => { x with maskTargetRead := false }).session 1).maskTargetRead = false ∧
    ((r.modTarget 0 fun t => { t with discard := true, owner := none }).bus 0).target.owner = none := by decide

theorem witness_BusConfigure :
    let body := [BitVec.ofNat 8 (0 : BusIx).val, 1, 3, 255, 2, 0x27, 0x10, 0x77, 0]
    base.takes 0 0x16 1 body = true ∧ (base.session 0).state = .opened ∧ ((0x27 : Byte) ++ (0x10 : Byte)).toNat = 10000 ∧
    base.busesCoherent ∧ (base.bus 0).config.enabled = true ∧ (base.bus 0).config.rate ≠ .c3 ∧
    base.takes 0 0x16 1 [BitVec.ofNat 8 (0 : BusIx).val, 1, 1, 1, 2, 0, 10, 0x2A, 0] = true ∧
    (base.bus 0).config.own = some ((0x2A : Byte).setWidth 7) ∧
    base.takes 0 0x16 1 [BitVec.ofNat 8 (0 : BusIx).val, 0, 1, 1, 2, 0, 10, 0xFF, 0] = true ∧
    (withAttempt aRecord anAttempt).busesCoherent ∧
    ((withAttempt aRecord anAttempt).bus 0).engine = .active (some anAttempt) ∧
    (base.bus 3).config.enabled = false ∧ (base.bus 3).engine = .disabled := by decide

/-- R174's checks of values: bus 4; own addresses 0x07 and 0x78; an enable of 2, a rate class of 4, no stretch limit, an aging
limit of 9 and of 10001. -/
theorem witness_BusConfigure_values :
    (∀ body ∈ [[4, 1, 1, 1, 2, 0, 10, 0x2A, 0], [0, 1, 1, 1, 2, 0, 10, 0x07, 0], [0, 1, 1, 1, 2, 0, 10, 0x78, 0],
      [0, 2, 1, 1, 2, 0, 10, 0x2A, 0], [0, 1, 4, 1, 2, 0, 10, 0x2A, 0], [0, 1, 1, 0, 2, 0, 10, 0x2A, 0],
      [0, 1, 1, 1, 2, 0, 9, 0xFF, 0], [0, 1, 1, 1, 2, 0x27, 0x11, 0xFF, 0]], base.takes 0 0x16 1 body = true) ∧
    (base.session 0).state = .opened ∧ 3 < (4 : Byte).toNat ∧ (0x07 : Byte).toNat < 0x08 ∧ 0x77 < (0x78 : Byte).toNat ∧
    1 < (2 : Byte).toNat ∧ 3 < (4 : Byte).toNat ∧ ((0 : Byte) ++ (9 : Byte)).toNat ≤ 9 ∧
    10000 < ((0x27 : Byte) ++ (0x11 : Byte)).toNat := by decide

theorem witness_BusRecover : base.takes 1 0x17 1 [4] = true ∧ (base.session 1).state = .opened ∧
    base.takes 1 0x17 1 [BitVec.ofNat 8 (3 : BusIx).val] = true ∧ (base.bus 3).config.enabled = false ∧
    base.takes 1 0x17 1 [BitVec.ofNat 8 (0 : BusIx).val] = true ∧ (base.bus 0).config.enabled = true ∧
    (base.bus 0).engine = .idle ∧ (base.bus 0).line = .free ∧ ((onBus .target .busy).bus 0).engine = .target ∧
    ((onBus .idle .busy).bus 0).engine = .idle ∧ ((onBus .idle .busy).bus 0).line ≠ .free ∧
    (onBus .fault .stuck).takes 1 0x17 1 [BitVec.ofNat 8 (0 : BusIx).val] = true ∧
    ((onBus .fault .stuck).bus 0).engine = .fault ∧ ((onBus .fault .stuck).bus 0).line ≠ .free ∧
    ((onBus .fault .free).bus 0).engine = .fault ∧ ((onBus .fault .free).bus 0).line = .free := by decide

theorem witness_TimesReached :
    (withQueued { aRecord with deadlineTime := some 1000, notBefore := some 1000 }).record 3 =
      some { aRecord with deadlineTime := some 1000, notBefore := some 1000 } ∧ aRecord.state = .queued ∧
    (base.clock - 1000).toNat < 2 ^ 31 ∧
    (withQueued { aRecord with notBefore := some 1000 }).leasedAway 0 (.record 3) = false ∧
    QItem.record 3 ∈ ((withQueued aRecord).bus 0).queue ∧ ((withQueued aRecord).bus 0).engine = .idle ∧
    ({ aRecord with spacingOver := true } : Record).spacingOver = true ∧
    let s := withQueued { aRecord with cls := .bulk, entryTime := some 500 }
    (s.bus 0).queue = [] ++ .record 3 :: [] ∧ (s.bus 0).config.aging ≠ 0 ∧
    (s.bus 0).config.aging.toNat ≤ s.itemAge (.record 3) ∧
    ((base.modBus 0 fun x => { x with config := { x.config with aging := 0 } }).bus 0).config.aging = 0 := by decide

/-- Two BULK items that have reached the limit, a record behind a due watch read, with one between them that has not. -/
theorem witness_TimesReached_several :
    let q : List QItem := [.watchRead 4 .bulk 400 false, .watchRead 5 .bulk 900 false, .record 3]
    let s := ((withQueued { aRecord with cls := .bulk, entryTime := some 500 }).putWatch 4 aWatch).setQueue 0 q
    let promoted := (s.setQueue 0 [.watchRead 5 .bulk 900 false, .record 3]).enqueue 0 (.watchRead 4 .normal 400 false)
    (s.bus 0).queue = [] ++ .watchRead 4 .bulk 400 false :: [.watchRead 5 .bulk 900 false, .record 3] ∧
    (s.bus 0).config.aging ≠ 0 ∧ (s.bus 0).config.aging.toNat ≤ s.itemAge (.watchRead 4 .bulk 400 false) ∧
    (promoted.bus 0).queue = [.watchRead 4 .normal 400 false, .watchRead 5 .bulk 900 false] ++ .record 3 :: [] ∧
    (promoted.bus 0).config.aging.toNat ≤ promoted.itemAge (.record 3) ∧
    ¬(promoted.bus 0).config.aging.toNat ≤ promoted.itemAge (.watchRead 5 .bulk 900 false) ∧
    after (fun t => ((t.bus 0).queue, (t.record 3).map (·.cls))) (exec (.agingPromotion 0) s) =
      some ([.watchRead 4 .normal 400 false, .record 3, .watchRead 5 .bulk 900 false], some .normal) ∧
    (∀ y ∈ (base.bus 0).queue, base.itemClass y ≠ .bulk) := by decide

theorem witness_JoiningKeepsQueueOrder :
    [QItem.record 3, .watchRead 0 .bulk 995 false].Pairwise fun y z => (withQueued aRecord).standsBefore y z = true := by decide

theorem witness_JoiningKeepsQueueOrder_wake :
    (((withQueued aRecord).bus 0).engine = .idle ∧ ∃ y ∈ ((withQueued aRecord).bus 0).queue, (withQueued aRecord).isEligible 0 y = true) ∧
    (onBus .fault .busy).bus 0 ≠ base.bus 0 ∧ ((onBus .fault .busy).bus 0).engine ≠ .idle ∧
    ∀ y ∈ (base.bus 0).queue, base.isEligible 0 y = false := by
  refine ⟨⟨by decide, .record 3, by decide, by decide⟩, by decide, by decide, by decide⟩

/-- Bus 0 in its bus-free wait, with a queue. -/
def waitingWith (q : List QItem) : State :=
  ((withQueued aRecord).putWatch 3 aWatch).modBus 0 fun x => { x with engine := .reserved true, queue := q }

theorem witness_BusFreeWaitEnd : ((waitingWith [.record 3]).bus 0).engine = .reserved true ∧
    ((waitingWith [.record 3]).bus 0).queue = [] ++ .record 3 :: [] ∧
    (waitingWith [.record 3]).isEligible 0 (.record 3) = true ∧ (waitingWith [.record 3]).record 3 = some aRecord ∧
    ((waitingWith [.watchRead 3 .bulk 1000 false]).bus 0).queue = [] ++ .watchRead 3 .bulk 1000 false :: [] ∧
    (waitingWith [.watchRead 3 .bulk 1000 false]).isEligible 0 (.watchRead 3 .bulk 1000 false) = true ∧
    ((waitingWith [.record 3]).putLease 3 { aLease with owner := 0, low := 0x08, high := 0x77 }).isEligible 0 (.record 3) = false := by
  decide

theorem witness_EligibilityAndSelection : (waitingWith [.record 3]).busesCoherent ∧
    (waitingWith [.record 3]).record 3 = some aRecord ∧ (waitingWith [.record 3]).watch 3 = some aWatch ∧
    after (fun t => (t.bus 0).engine.runs (.record 3)) (exec (.busFreeWaitEnd 0) (waitingWith [.record 3])) = some true := by
  decide

theorem witness_EligibilityAndSelection_watch :
    let s := waitingWith [.watchRead 3 .bulk 1000 false]
    s.busesCoherent ∧ (s.bus 0).engine = .reserved true ∧
    after (fun t => (t.bus 0).engine.runs (.watch 3)) (exec (.busFreeWaitEnd 0) s) = some true := by
  decide

theorem witness_AttemptBytes : ((withAttempt aRecord anAttempt).bus 0).engine = .active (some anAttempt) ∧
    anAttempt.phase = .inByte ∧ anAttempt.segments[anAttempt.segIndex - 1]? = some (.write 0x48 [0x0A]) ∧
    anAttempt.byteIndex = 0 ∧
    ({ anAttempt with byteIndex := 1 } : Attempt).segments[({ anAttempt with byteIndex := 1 } : Attempt).segIndex - 1]? =
      some (.write 0x48 [0x0A]) ∧ (Segment.write 0x48 [0x0A]).dir = .write ∧
    ({ anAttempt with segIndex := 2, byteIndex := 2 } : Attempt).segments[2 - 1]? = some (.read 0x48 2) ∧
    (Segment.read 0x48 2).dir = .read := by decide

theorem witness_AttemptBytes_later :
    let a : Attempt := { anAttempt with segIndex := 2, byteIndex := 2, phase := .readAck false .nextByte }
    ((withAttempt aRecord a).bus 0).engine = .active (some a) ∧ a.segments[a.segIndex - 1]? = some (.read 0x48 2) ∧
      a.byteIndex ≠ 0 ∧ ((withAttempt aRecord anAttempt).bus 0).engine = .active (some anAttempt) ∧
      ({ anAttempt with byteIndex := 1 } : Attempt).byteIndex ≠ 0 := by decide

/-- The address byte of segment 2 ends while its repeated start, after a written byte and after a read byte, was not reported. -/
theorem witness_AttemptBytes_unreported_start :
    (∀ ph ∈ [Phase.repeatedStart, .readAck true .repeatedStart],
      ((withAttempt aRecord { anAttempt with byteIndex := 2, phase := ph }).bus 0).engine =
        .active (some { anAttempt with byteIndex := 2, phase := ph })) ∧
    anAttempt.segments[anAttempt.segIndex]? = some (.read 0x48 2) := by decide

theorem witness_StartsAndStops :
    let s (ph : Phase) := withAttempt aRecord { anAttempt with segIndex := 2, phase := ph }
    (∀ ph ∈ [Phase.stop .naturalEnd, .stop .dataNack, .repeatedStart],
      ((s ph).bus 0).engine = .active (some { anAttempt with segIndex := 2, phase := ph })) ∧
    (s .inByte).record 3 = some { aRecord with state := .active, attempts := 1 } ∧
    ((s .inByte).session aRecord.owner).state = .opened ∧ ((s .inByte).bus 0).config.enabled = true ∧
    anAttempt.item = .record 3 ∧ anAttempt.underDisable = false ∧
    ((onBus .idle .busy).bus 0).engine = .idle ∧ ((onBus .fault .stuck).bus 0).engine = .fault ∧
    ((onBus (.reserved true) .free).bus 0).engine = .reserved true ∧ (base.bus 3).engine = .disabled := by decide

/-- An address tail, and an engine without an attempt for the start of the 3400's own. -/
theorem witness_StartsAndStops_tail : ((onBus (.active none) .busy).bus 0).engine = .active none ∧
    (∀ a, ((onBus (.active none) .busy).bus 0).engine ≠ .active (some a)) ∧
    (∀ a, (base.bus 0).engine ≠ .active (some a)) ∧
    after (fun s => ((s.bus 0).engine, (s.bus 0).line, (s.bus 0).following))
      (exec (.startSeen 0 .foreign (.inByte 3)) (onBus (.active none) .busy)) = some (.idle, .busy, true) := by
  have tail : ((onBus (.active none) .busy).bus 0).engine = .active none := rfl
  have idle : (base.bus 0).engine = .idle := rfl
  refine ⟨tail, fun a h => ?_, fun a h => ?_, by decide⟩
  · simp [tail] at h
  · simp [idle] at h

/-- R76: after an address NACK, without retry-on-NACK; past the budget; under abort; with attempts left, and a deadline ahead or
reached. -/
theorem witness_StartsAndStops_nack :
    let r : Record := { aRecord with state := .active, attempts := 1 }
    let a : Attempt := { anAttempt with phase := .stop .addressNack }
    ((withAttempt aRecord a).bus 0).engine = .active (some a) ∧ a.item = .record 3 ∧ (withAttempt aRecord a).record 3 = some r ∧
    r.bus = 0 ∧ ((withAttempt aRecord a).session r.owner).state = .opened ∧ ((withAttempt aRecord a).bus 0).config.enabled = true ∧
    a.underDisable = false ∧ r.retryNack = false ∧ r.abortPending = false ∧ r.attempts ≤ r.budget ∧ r.deadlineTime = none ∧
    (withAttempt { aRecord with retryNack := true } a).record 3 = some { r with retryNack := true } ∧
    (withAttempt { aRecord with retryNack := true, budget := 0 } a).record 3 = some { r with retryNack := true, budget := 0 } ∧
    (withAttempt { aRecord with retryNack := true, abortPending := true } a).record 3 =
      some { r with retryNack := true, abortPending := true } ∧
    (withAttempt { aRecord with retryNack := true, deadlineTime := some 1000 } a).record 3 =
      some { r with retryNack := true, deadlineTime := some 1000 } ∧ (base.clock - 1000).toNat < 2 ^ 31 ∧
    2 ^ 31 ≤ (base.clock - 1001).toNat := by decide

/-- A record whose last segment is a READ, and an abort honoured by the NACK of a read byte: in that NACK, at the stop that
follows; and the 3400's own repeated start after a READ. -/
theorem witness_StartsAndStops_after_read :
    let last := attemptAt (.record 3) 2 3 (.readAck true (.stop .naturalEnd))
    let cut : Attempt := { attemptAt (.record 3) 2 2 (.readAck true (.stop .aborted)) with abortPending := true }
    let r : Record := { aRecord with state := .active, attempts := 1 }
    (((withAttempt aRecord last).bus 0).engine = .active (some last) ∧ last.makesStop .naturalEnd (Place.boundary = .boundary)) ∧
    (((withAttempt aRecord cut).bus 0).engine = .active (some cut) ∧ cut.makesStop .aborted (Place.boundary = .boundary)) ∧
    (((withAttempt aRecord betweenSegments).bus 0).engine = .active (some betweenSegments) ∧
      betweenSegments.phase = .readAck true .repeatedStart) ∧
    (withAttempt aRecord last).record 3 = some r ∧ r.bus = 0 ∧ ((withAttempt aRecord last).session r.owner).state = .opened ∧
    last.item = .record 3 ∧ cut.item = .record 3 ∧ Place.boundary ≠ .inByte 8 :=
  ⟨⟨rfl, .inr (.inl ⟨true, rfl⟩)⟩, ⟨rfl, .inr (.inl ⟨true, rfl⟩)⟩, ⟨rfl, rfl⟩, rfl, rfl, rfl, rfl, rfl, by decide⟩

/-- R19 case 5 and R68: stopped by an abort, or with the abort taken in a read byte's acknowledge bit; on an enabled bus, one
enabled again, and a disabled one. -/
theorem witness_StartsAndStops_aborted :
    let r : Record := { aRecord with state := .active, attempts := 1 }
    let a : Attempt := { anAttempt with abortPending := true, phase := .stop .aborted }
    let again : Attempt := { a with underDisable := true }
    let late : Attempt := { anAttempt with abortPending := true, phase := .readAck false .nextByte }
    let last : Attempt := { anAttempt with abortPending := true, phase := .readAck true .repeatedStart }
    ((withAttempt aRecord a).bus 0).engine = .active (some a) ∧ ((withAttempt aRecord again).bus 0).engine = .active (some again) ∧
    ((withAttempt aRecord late).bus 0).engine = .active (some late) ∧ ((withAttempt aRecord last).bus 0).engine = .active (some last) ∧
    late.abortPending = true ∧ late.phase = .readAck false .nextByte ∧ last.phase = .readAck true .repeatedStart ∧
    (withAttempt aRecord a).record 3 = some r ∧ r.bus = 0 ∧ ((withAttempt aRecord a).session r.owner).state = .opened ∧
    ((withAttempt aRecord a).bus 0).config.enabled = true ∧
    (((withAttempt aRecord again).modBus 0 fun x => { x with config := BusConfig.reset }).bus 0).config.enabled = false := by decide

/-- R22, R149: the last record of a CLOSING session, in its own stop. -/
theorem witness_StartsAndStops_silent :
    let a : Attempt := { anAttempt with phase := .stop .dataNack }
    let s := (withAttempt aRecord a).modSession 1 fun x => { x with state := .closing }
    (s.bus 0).engine = .active (some a) ∧ s.record 3 = some { aRecord with state := .active, attempts := 1 } ∧
      (s.session aRecord.owner).state ≠ .opened ∧ (s.session aRecord.owner).state = .closing ∧
      (s.bus 0).config.enabled = true ∧ a.underDisable = false ∧ (s.freeRecord 3).activeCount aRecord.owner = 0 := by decide

theorem witness_MonitorEvents : (base.bus 0).line = .free ∧ ((onBus .idle .busy).bus 0).line ≠ .free ∧
    ((onBus .idle .busy).bus 0).line ≠ .off ∧ ((onBus .idle .busy).bus 0).engine = .idle ∧
    ((onBus (.reserved false) .unknown).bus 0).engine = .reserved false ∧ ((onBus (.reserved false) .unknown).bus 0).line = .unknown ∧
    ((onBus .fault .stuck).bus 0).engine = .fault ∧ ((onBus .fault .stuck).bus 0).line = .stuck ∧
    (base.bus 3).line = .off ∧ ((onBus (.recovery ⟨.pulsing, 8, true⟩) .busy).bus 0).engine = .recovery ⟨.pulsing, 8, true⟩ := by decide

/-- A target unit of session 1 whose slot 0 is in state `x`. -/
def slot0 (x : InState) : Target :=
  { Target.reset with owner := some 1, slots := Target.reset.slots.set 0 { InSlot.empty with state := x } }

/-- R80: the step after a STUCK report in TARGET, by the levels at entry: CLK low; CLK high and DAT low; and both high, where the
3400 alone had held DAT low. -/
theorem test_stuck_step : [none, some false, some true].map (fun x => after (fun s => (s.bus 0).engine)
    (exec (.stuckDetected { bus := 0, atEntry := x }) (onBus .target .busy))) =
      [RecoveryStep.waitClock, .pulsing, .stopping].map fun y => some (.recovery { step := y, pulses := 0, fromFault := false }) := by
  decide

/-- A line is stuck, or both are idle, in an attempt of a record and of a watch, in an address tail and in TARGET. -/
theorem witness_MonitorEvents_engines :
    let a := attemptAt (.record 3) 1 1 .inByte
    let v := attemptAt (.watch 3) 1 1 .inByte
    let w : Watch := { aWatch with read := .active, failures := 2 }
    let c := (onBus .target .busy).modTarget 0 fun _ => slot0 .filling
    (((withAttempt aRecord a).bus 0).line = .busy ∧ ((withAttempt aRecord a).bus 0).engine = .active (some a) ∧
      (withAttempt aRecord a).record 3 = some { aRecord with state := .active, attempts := 1 } ∧ aRecord.bus = 0 ∧
      ((withAttempt aRecord a).session aRecord.owner).state = .opened ∧ ((withAttempt aRecord a).bus 0).config.enabled = true) ∧
    (((watching w v).bus 0).engine = .active (some v) ∧ (watching w v).watch 3 = some w ∧ w.bus = 0 ∧ w.state ≠ .removing ∧
      w.owner = some 1) ∧
    ((onBus (.active none) .busy).bus 0).engine = .active none ∧
    ((c.bus 0).engine = .target ∧ (c.bus 0).line = .busy) ∧ (base.bus 3).line = .off ∧
    (∃ u, FailureLeaves w .stretchTimeout u) ∧ ∃ u, TransferEnds (c.modBus 0 fun x => { x with line := .stuck }) 0 u :=
  ⟨by decide, by decide, by decide, by decide, by decide, ⟨_, .suspended (by decide)⟩,
    ⟨_, .write 0 1 ⟨by decide, by decide⟩ (by decide) (by decide) (by decide)⟩⟩

theorem witness_AttemptLosses :
    let s (r : Record) (a : Attempt) := withAttempt r a
    let r1 : Record := { aRecord with state := .active, attempts := 1 }
    ((s aRecord anAttempt).bus 0).engine = .active (some anAttempt) ∧ anAttempt.item = .record 3 ∧
    (s aRecord anAttempt).record 3 = some r1 ∧ r1.bus = 0 ∧ ((s aRecord anAttempt).session r1.owner).state = .opened ∧
    ((s aRecord anAttempt).bus 0).config.enabled = true ∧ anAttempt.phase = .inByte ∧ anAttempt.byteIndex = 0 ∧
    anAttempt.anyAcked = false ∧ r1.abortPending = false ∧ r1.attempts ≤ r1.budget ∧ r1.cls ≠ .bulk ∧
    r1.deadlineTime = none ∧
    (s { aRecord with budget := 0 } anAttempt).record 3 = some { r1 with budget := 0 } ∧ 0 < r1.attempts ∧
    r1.noReplay = true ∧
    ((s aRecord { anAttempt with anyAcked := true }).bus 0).engine = .active (some { anAttempt with anyAcked := true }) ∧
    ((s aRecord { anAttempt with phase := .stop .naturalEnd }).bus 0).engine =
      .active (some { anAttempt with phase := .stop .naturalEnd }) := by decide

/-- The bits of 0x90, the address byte of `anAttempt`: bit 0 is sent as 1, bit 7 as 0. And of the data byte 0x0A that follows it:
bit 4 is sent as 1, bit 0 as 0. -/
theorem witness_AttemptLosses_bits :
    anAttempt.segments[anAttempt.segIndex - 1]? = some (.write 0x48 [0x0A]) ∧
    (Segment.write 0x48 [0x0A]).addressByte.getMsbD (0 : Fin 8).val = true ∧
    (Segment.write 0x48 [0x0A]).addressByte.getMsbD (7 : Fin 8).val = false ∧
    (let a : Attempt := { anAttempt with byteIndex := 1 }
     ((withAttempt aRecord a).bus 0).engine = .active (some a) ∧ a.phase = .inByte ∧ a.byteIndex ≠ 0 ∧
       [(0x0A : Byte)][a.byteIndex - 1]? = some 0x0A ∧ (0x0A : Byte).getMsbD (4 : Fin 8).val = true ∧
       (0x0A : Byte).getMsbD (0 : Fin 8).val = false) ∧
    (withAttempt { aRecord with abortPending := true } anAttempt).record 3 =
      some { aRecord with state := .active, attempts := 1, abortPending := true } := by decide

/-- In a repeated start, and after a READ segment in one or in the acknowledge bit before it, under abort or not. -/
theorem witness_AttemptLosses_repeated_start :
    let s (r : Record) (a : Attempt) := withAttempt r a
    let plain : Attempt := { anAttempt with phase := .repeatedStart }
    (((s aRecord betweenSegments).bus 0).engine = .active (some betweenSegments) ∧
      betweenSegments.segments[betweenSegments.segIndex - 1]? = some (.read 0x48 2) ∧ betweenSegments.item = .record 3 ∧
      betweenSegments.phase = .readAck true .repeatedStart ∧ betweenSegments.anyAcked = true ∧ aRecord.noReplay = true ∧
      betweenSegments.abortPending = true) ∧
    (s { aRecord with abortPending := true, noReplay := false } betweenSegments).record 3 =
      some { aRecord with abortPending := true, noReplay := false, state := .active, attempts := 1 } ∧
    (((s { aRecord with budget := 0 } plain).bus 0).engine = .active (some plain) ∧ plain.phase = .repeatedStart ∧
      plain.anyAcked = false ∧ (s { aRecord with budget := 0 } plain).record 3 =
        some { aRecord with budget := 0, state := .active, attempts := 1 }) ∧
    (let a : Attempt := { betweenSegments with phase := .readAck true .nextByte }
     ((s aRecord a).bus 0).engine = .active (some a) ∧ a.phase = .readAck true .nextByte ∧ a.abortPending = true) := by decide

/-- Bus 0 follows an address byte, in engine state `e` with target unit `t`. -/
def followed (e : Engine) (t : Target) : State :=
  base.modBus 0 fun x => { x with engine := e, line := .busy, following := true, target := t }

/-- A target unit of session 1 whose slots are all COMPLETE. -/
def allComplete : Target :=
  { Target.reset with owner := some 1, slots := Vector.replicate 4 { InSlot.empty with state := .complete } }

theorem witness_ForeignAddresses :
    (((onBus (.active none) .busy).bus 0).engine = .active none ∧
      ((onBus (.active none) .busy).bus 0).config.own ≠ some 0x2B ∧
      ((onBus (.active none) .busy).bus 0).config.own = some 0x2A ∧
      ((onBus (.active none) .busy).bus 0).target.owner = none) ∧
    (let x := (followed .idle (slot0 .complete)).bus 0;
      x.following = true ∧ x.target.slots[(1 : Fin 4)].state = .empty ∧
      (∀ j : Fin 4, j < 1 → x.target.slots[j].state = .complete) ∧ ∀ j : Fin 4, x.target.slots[j].state ≠ .filling) ∧
    (let x := (followed .idle allComplete).bus 0;
      (∀ j : Fin 4, x.target.slots[j].state = .complete) ∧ ∀ j : Fin 4, x.target.slots[j].state ≠ .filling) ∧
    let x := (followed .target (slot0 .filling)).bus 0;
    x.engine = .target ∧ x.following = true ∧ x.config.own ≠ some 0x2B ∧ x.target.owner = some 1 ∧
      x.target.discard = false ∧ x.target.slots[(0 : Fin 4)].state = .filling ∧
      ∀ j : Fin 4, j < 0 → x.target.slots[j].state ≠ .filling := by decide

/-- An address tail, a read and a repeated start that name the own address 0x2A. -/
theorem witness_ForeignAddresses_own :
    (let x := ((onBus (.active none) .busy).modTarget 0 fun _ => slot0 .complete).bus 0
     x.engine = .active none ∧ x.config.own = some 0x2A ∧ x.target.owner = some 1 ∧ x.target.slots[(1 : Fin 4)].state = .empty ∧
       ∀ j : Fin 4, j < 1 → x.target.slots[j].state ≠ .empty) ∧
    (let x := ((onBus (.active none) .busy).modTarget 0 fun _ => allComplete).bus 0
     x.target.owner = some 1 ∧ ∀ j : Fin 4, x.target.slots[j].state ≠ .empty) ∧
    (let x := (followed .fault (slot0 .complete)).bus 0
     x.engine = .fault ∧ x.following = true ∧ x.config.own = some 0x2A ∧ x.target.owner = some 1 ∧
       ∀ j : Fin 4, x.target.slots[j].state ≠ .filling) ∧
    ((onBus .idle .busy).bus 0).following = false ∧ (base.bus 3).config.own = none ∧
    (let x := (followed .target (slot0 .filling)).bus 0
     x.engine = .target ∧ x.following = true ∧ x.config.own = some 0x2A ∧ x.target.owner = some 1 ∧ x.target.discard = false ∧
       x.target.slots[(0 : Fin 4)].state = .filling ∧ ∀ j : Fin 4, j < 0 → x.target.slots[j].state ≠ .filling) := by decide

/-- After the write that the repeated start ended, slot 1 is the lowest EMPTY one, or there is none when the report waits. -/
theorem witness_ForeignAddresses_repeated_start :
    let waiting := fun (s : State) => (s.completeWrite 0 false).bus 0
    (∀ j : Fin 4, j < 0 → (waiting (followed .target (slot0 .filling))).target.slots[j].state ≠ .empty) ∧
    (waiting (followed .target (slot0 .filling))).target.slots[(0 : Fin 4)].state = .empty ∧
    ∀ j : Fin 4, (waiting (fullOutbox (followed .target
      { allComplete with slots := allComplete.slots.set 3 { InSlot.empty with state := .filling } }))).target.slots[j].state ≠ .empty := by
  decide

/-- A write of slot 0, under the discard mark, that a repeated start has ended: another address, or the own one of an owned or
an unowned unit. -/
theorem witness_ForeignAddresses_discard :
    let s := followed .target { slot0 .filling with discard := true }
    let u := s.modBus 0 fun x => { x with
      following := false
      counters := { x.counters with targetWrites := satInc x.counters.targetWrites }
      target := { x.target with slots := x.target.slots.set 0 InSlot.empty, discard := false } }
    (s.bus 0).engine = .target ∧ (s.bus 0).following = true ∧ (s.bus 0).target.discard = true ∧
    (s.bus 0).target.slots[(0 : Fin 4)].state = .filling ∧ (∀ j : Fin 4, j < 0 → (s.bus 0).target.slots[j].state ≠ .filling) ∧
    (s.bus 0).config.own = some 0x2A ∧ (s.bus 0).config.own ≠ some 0x2B ∧ (s.bus 0).target.owner = some 1 ∧
    ((followed .target { slot0 .filling with discard := true, owner := none }).bus 0).target.owner = none ∧
    (u.bus 0).target.slots[(0 : Fin 4)].state = .empty ∧ ∀ j : Fin 4, j < 0 → (u.bus 0).target.slots[j].state ≠ .empty := by decide

theorem witness_TargetBytes :
    (let x := ((followed .target (slot0 .filling)).setFollowing 0 false).bus 0;
      x.engine = .target ∧ x.following = false ∧ x.target.slots[(0 : Fin 4)].state = .filling) ∧
    (let x := ((onBus .target .busy).modTarget 0 fun t => { t with reading := some ⟨0, 0, none, false⟩, outbound := [7] }).bus 0;
      x.engine = .target ∧ x.target.reading = some ⟨0, 0, none, false⟩ ∧ x.target.outbound = 7 :: []) ∧
    let x := ((onBus .target .busy).modTarget 0 fun t => { t with reading := some ⟨0, 0, none, false⟩ }).bus 0;
    x.target.reading = some ⟨0, 0, none, false⟩ ∧ x.target.outbound = [] := by decide

/-- The ends of transfers: a write of slot 0, owned, in its first byte or between bytes, with and without the discard mark; a
read with a deferred replacement, for an owner that asks for tallies and one that does not; no transfer, from FAULT or not. -/
theorem witness_TargetBytes_ends :
    let w := (followed .target (slot0 .filling)).setFollowing 0 false
    let d := w.modTarget 0 fun t => { t with discard := true }
    let r := (onBus .target .busy).modTarget 0 fun t =>
      { t with owner := some 1, reading := some ⟨1, 0, some 7, false⟩, deferred := some [9] }
    ((w.bus 0).engine = .target ∧ (w.bus 0).following = false ∧ (w.bus 0).target.slots[(0 : Fin 4)].state = .filling ∧
      (∀ j : Fin 4, j < 0 → (w.bus 0).target.slots[j].state ≠ .filling) ∧ (w.bus 0).target.reading = none ∧
      (w.bus 0).target.owner = some 1 ∧ (w.bus 0).faultReason = none ∧ (w.bus 0).target.discard = false) ∧
    ((d.bus 0).target.discard = true ∧ (d.bus 0).target.slots[(0 : Fin 4)].state = .filling) ∧
    ((r.bus 0).engine = .target ∧ (∀ j : Fin 4, (r.bus 0).target.slots[j].state ≠ .filling) ∧
      (r.bus 0).target.reading = some ⟨1, 0, some 7, false⟩ ∧ (r.bus 0).target.owner = some 1 ∧ (r.bus 0).faultReason = none ∧
      (r.bus 0).following = false ∧ (r.bus 0).target.discard = false ∧ (r.session 1).maskTargetRead = true) ∧
    ((r.modSession 1 fun x => { x with maskTargetRead := false }).session 1).maskTargetRead = false ∧
    (((onBus .target .busy).bus 0).engine = .target ∧ ((onBus .target .busy).bus 0).target.reading = none ∧
      (∀ j : Fin 4, ((onBus .target .busy).bus 0).target.slots[j].state ≠ .filling) ∧
      ((onBus .target .busy).bus 0).faultReason = none) ∧
    (((onBus .target .busy).modBus 0 fun x => { x with faultReason := some .dataHeld }).bus 0).faultReason ≠ none ∧
    (let x := ((onBus .target .busy).modTarget 0 fun t => { t with reading := some ⟨1, 0, none, true⟩ }).bus 0
     x.engine = .target ∧ x.target.reading = some ⟨1, 0, none, true⟩) := by decide

/-- Transfers that end: none; a write without the discard mark and, of a unit that lost its owner, with it; a read of such a unit,
of an owner that asks for tallies and of one that does not. And a transfer entered from FAULT. -/
theorem witness_TargetBytes_transfer_ends :
    let w := (followed .target (slot0 .filling)).setFollowing 0 false
    let marked := w.modTarget 0 fun t => { t with owner := none, discard := true }
    let r := (onBus .target .busy).modTarget 0 fun t =>
      { t with owner := some 1, reading := some ⟨1, 0, some 7, false⟩, deferred := some [9] }
    let alone := r.modTarget 0 fun t => { t with owner := none, discard := true }
    let quiet := r.modSession 1 fun x => { x with maskTargetRead := false }
    let faulted := w.modBus 0 fun x => { x with faultReason := some .dataHeld }
    (∃ u, TransferEnds (onBus .target .busy) 0 u) ∧ (∃ u, TransferEnds w 0 u) ∧ (∃ u, TransferEnds marked 0 u) ∧
    (∃ u, TransferEnds alone 0 u) ∧ (∃ u, TransferEnds quiet 0 u) ∧ (∃ u, TransferEnds r 0 u) ∧
    ((marked.bus 0).engine = .target ∧ (marked.bus 0).following = false ∧ (marked.bus 0).target.inTransfer = true ∧
      (marked.bus 0).target.holdsLow 3 = false ∧ (marked.bus 0).target.owner = none) ∧
    ((faulted.bus 0).engine = .target ∧ (faulted.bus 0).faultReason = some .dataHeld) :=
  ⟨⟨_, .none (by decide) (by decide)⟩, ⟨_, .write 0 1 ⟨by decide, by decide⟩ (by decide) (by decide) (by decide)⟩,
    ⟨_, .markedWrite 0 ⟨by decide, by decide⟩ (by decide) (by decide)⟩, ⟨_, .read ⟨1, 0, some 7, false⟩ (by decide) (by decide)
      (.inl (by decide))⟩, ⟨_, .read ⟨1, 0, some 7, false⟩ (by decide) (by decide) (.inr (.inr ⟨1, by decide, by decide⟩))⟩,
    ⟨_, .talliedRead ⟨1, 0, some 7, false⟩ 1 (by decide) (by decide) (by decide) (by decide) (by decide)⟩, by decide, by decide⟩

/-- Bits that the 3400 holds low in a transfer, and bits in which a condition cuts it off: of a write that it ACKs or has begun
to NACK, of a read byte 0x0F, of the address before a read and after the master's NACK. -/
theorem witness_TargetBytes_held_low :
    let w := (followed .target (slot0 .filling)).setFollowing 0 false
    let r (x : ReadProgress) := (onBus .target .busy).modTarget 0 fun t => { t with owner := some 1, reading := some x }
    let full : Target :=
      { slot0 .filling with slots := (slot0 .filling).slots.set 0 { InSlot.empty with state := .filling, overflow := true } }
    ((w.bus 0).engine = .target ∧ (w.bus 0).following = false ∧ (w.bus 0).target.holdsLow 8 = true ∧
      (w.bus 0).target.holdsLow 0 = false ∧ (w.bus 0).target.reading = none ∧ (w.bus 0).faultReason = none ∧
      (w.bus 0).target.owner = some 1) ∧
    (full.slots[(0 : Fin 4)].state = .filling ∧ full.holdsLow 8 = false) ∧
    (((r ⟨0, 0, some 0x0F, false⟩).bus 0).target.holdsLow 0 = true ∧ ((r ⟨0, 0, some 0x0F, false⟩).bus 0).target.holdsLow 4 = false ∧
      ((r ⟨0, 0, some 0x0F, false⟩).bus 0).target.holdsLow 8 = false ∧
      (∀ j : Fin 4, ((r ⟨0, 0, some 0x0F, false⟩).bus 0).target.slots[j].state ≠ .filling)) ∧
    ((r ⟨0, 0, none, false⟩).bus 0).target.holdsLow 8 = true ∧ ((r ⟨0, 0, none, true⟩).bus 0).target.holdsLow 8 = false := by decide

theorem witness_RecoverySteps :
    let e (x : RecoveryStep) (n : Nat) (l : LineState) := onBus (.recovery { step := x, pulses := n, fromFault := true }) l
    ((e .waitClock 0 .stuck).bus 0).engine = .recovery { step := .waitClock, pulses := 0, fromFault := true } ∧
    ((e .waitClock 0 .stuck).bus 0).line ≠ .free ∧ ((e .waitClock 0 .free).bus 0).line = .free ∧
    ((e .pulsing 7 .stuck).bus 0).engine = .recovery { step := .pulsing, pulses := 7, fromFault := true } ∧
    ((e .pulsing 8 .stuck).bus 0).engine = .recovery { step := .pulsing, pulses := 8, fromFault := true } ∧
    ((e .stopping 9 .stuck).bus 0).engine = .recovery { step := .stopping, pulses := 9, fromFault := true } := by decide

/-- A session that takes bus events, with room, with a full outbox, and with the bus's event waiting; and one that takes none. -/
theorem witness_RecoverySteps_offers :
    ((base.session 1).state = .opened ∧ (base.session 1).maskBusEvent = true ∧ Source.busEvent 0 ∉ (base.session 1).admission ∧
      (base.session 1).outbox.length < 16) ∧
    (((fullOutbox base).session 1).state = .opened ∧ 16 ≤ ((fullOutbox base).session 1).outbox.length ∧
      Source.busEvent 0 ∉ ((fullOutbox base).session 1).admission) ∧
    Source.busEvent 0 ∈ (((fullOutbox base).modSession 1 fun x => { x with admission := [.busEvent 0] }).session 1).admission ∧
    (base.session 2).state ≠ .opened ∧
    ((onBus (.recovery ⟨.waitClock, 0, false⟩) .busy).bus 0).engine = .recovery ⟨.waitClock, 0, false⟩ ∧
    ((onBus (.recovery ⟨.waitClock, 0, false⟩) .busy).bus 0).line ≠ .off := by decide

end Sys2Proof.Tests
end

section
/-! PROOF. RENEW (05_leases.md, 5.3): what the rule answers, case by case, and from it what the request row answers. -/

namespace Sys2Proof.Machine

section renewRequest

variable {s : State} {p : PortIx} {id hi lo : Byte} {i : Fin 16} {e : Lease}

/-- R92: an id that resolves to nothing. -/
theorem State.renewRequest_unknownId (h : s.findLease id = none) :
    s.renewRequest p [id, hi, lo] = (s, answer .unknownId) := by
  simp only [State.renewRequest, parseRenew, h]

/-- R92 and R93 on an entry found, in the order of their checks: the owner, the duration, the entry's state. -/
theorem State.renewRequest_found (h : s.findLease id = some (i, e)) :
    s.renewRequest p [id, hi, lo] =
      if e.owner ≠ p then (s, answer .wrongOwner)
      else if hi ++ lo = 0#16 then (s, answer .badField)
      else if e.state = .waiting then (s, answer .wrongState)
      else if e.state = .ended then (s, answer .tooLate)
      else
        (s.putLease i { e with duration := hi ++ lo, expiryTime := some (addTime s.clock (hi ++ lo)) },
          statusByte .ok :: be32 (addTime s.clock (hi ++ lo))) := by
  simp only [State.renewRequest, parseRenew, h, half]
  cases e.state <;> rfl

end renewRequest

/-- A RENEW row in an OPEN session answers what the rule answers on the state in which the frame has arrived. -/
theorem exec_renew {s u : State} {p : PortIx} {q id hi lo : Byte} {r : Reply}
    (ht : s.takes p 0x09 q [id, hi, lo] = true) (ho : (s.session p).state = .opened)
    (hr : (s.arrived p).renewRequest p [id, hi, lo] = (u, r)) :
    exec (.renew p q [id, hi, lo]) s = .next (u.replied p 0x09 q r) :=
  exec_open (kind := 0x09) rfl (by decide) (by decide) (by decide) ho ht hr

end Sys2Proof.Machine

namespace Sys2Proof.Proofs

open Sys2Proof Sys2Proof.Machine

/-- Settles O36: each clause is one branch of RENEW's checks (`State.renewRequest_found`), which see the same lease table and
clock after the frame's arrival as before it. -/
theorem renewMovesTheExpiryTime : Obligations.RenewMovesTheExpiryTime := by
  unfold Obligations.RenewMovesTheExpiryTime
  intro s p q id hi lo ht ho
  refine ⟨fun hn => ?unknownId, fun i e hf => ?found⟩
  case unknownId => exact exec_renew ht ho (State.renewRequest_unknownId ((State.arrived_findLease s p id).trans hn))
  case found =>
    have answers := State.renewRequest_found (p := p) (hi := hi) (lo := lo) ((State.arrived_findLease s p id).trans hf)
    refine ⟨fun hp => ?wrongOwner, fun hp hd => ?badField, fun hp hd hs => ?waiting, fun hp hd hs => ?ended,
      fun hp hd hs => ?granted⟩
    case wrongOwner => exact exec_renew ht ho (by rw [answers, if_pos hp]; rfl)
    case badField => exact exec_renew ht ho (by rw [answers, if_neg (not_not.mpr hp), if_pos hd]; rfl)
    case waiting => exact exec_renew ht ho (by rw [answers, if_neg (not_not.mpr hp), if_neg hd, if_pos hs]; rfl)
    case ended =>
      have hw : e.state ≠ .waiting := by simp [hs]
      exact exec_renew ht ho (by rw [answers, if_neg (not_not.mpr hp), if_neg hd, if_neg hw, if_pos hs]; rfl)
    case granted =>
      have hw : e.state ≠ .waiting := by simp [hs]
      have he : e.state ≠ .ended := by simp [hs]
      exact exec_renew ht ho (by rw [answers, if_neg (not_not.mpr hp), if_neg hd, if_neg hw, if_neg he]; rfl)

end Sys2Proof.Proofs
end

section
/-! PROOF. NOTICE_REWIND and the retransmit timer (09_sessions_notices_and_the_outbox.md, 9.6): both come to `Session.rewind`. -/

namespace Sys2Proof.Machine

/-- R159: what the rule answers to a well-formed NOTICE_REWIND. -/
theorem State.rewindRequest_empty (s : State) (p : PortIx) :
    s.rewindRequest p [] = (s.modSession p Session.rewind, [statusByte .ok, byteOf (s.session p).outbox.length]) := by
  rw [State.rewindRequest, if_neg (not_not.mpr rfl)]

/-- R160: a running timer whose expiry time is reached. -/
theorem State.timerExpired_reached {s : State} {p : PortIx} {t : Clock} (ht : (s.session p).timer = some t)
    (hr : (s.clock - t).toNat < 2 ^ 31) : s.timerExpired p = s.modSession p Session.rewind := by
  have due : (s.session p).timer.any (reached s.clock) = true := by
    rw [ht, Option.any_some, reached, decide_eq_true hr]
  rw [State.timerExpired, if_pos due]

/-- RETRANSMIT_TIMER_EXPIRY has its effect, and the idle transmitters choose (R171). -/
theorem exec_retransmitTimerExpiry (s : State) (p : PortIx) :
    exec (.retransmitTimerExpiry p) s = .next (s.timerExpired p).settle := rfl

end Sys2Proof.Machine

namespace Sys2Proof.Proofs

open Sys2Proof Sys2Proof.Machine

/-- Settles O26: the request's rule and the timer's rewind the same way; the request sees the outbox after the frame's
arrival, which is the one before it. -/
theorem rewindAndRetransmit : Obligations.RewindAndRetransmit := by
  unfold Obligations.RewindAndRetransmit
  refine ⟨fun s p q ht ho => ?request, fun s p t ht hr => ?timer⟩
  case request =>
    have answers := State.rewindRequest_empty (s.arrived p) p
    rw [State.arrived_session] at answers
    exact exec_open (kind := 0x05) rfl (by decide) (by decide) (by decide) ho ht answers
  case timer =>
    rw [exec_retransmitTimerExpiry, State.timerExpired_reached ht hr]
    rfl

end Sys2Proof.Proofs
end

section
/-! PROOF. The check of a frame (10_host_link_framing.md, R166): the register ends at 0 exactly when the data bits are its own
bits, and from it the two forms of the receiver's test. -/

namespace Sys2Proof.Machine

/-! ### Bits into the register -/

theorem crcBit_eq (r : BitVec 16) (bit : Bool) :
    crcBit r bit = if r.getLsbD 15 = bit then r <<< 1 else (r <<< 1) ^^^ 0x1021#16 := by
  rw [crcBit, BitVec.msb_eq_getLsbD_last]

/-- A data bit that is the bit shifted out leaves no trace. -/
theorem crcBit_of_msb_eq {r : BitVec 16} {bit : Bool} (h : r.msb = bit) : crcBit r bit = r <<< 1 := if_pos h

/-- A data bit that differs from the bit shifted out sets the register's lowest bit, as 0x1021 is odd. -/
theorem crcBit_lowest_of_msb_ne {r : BitVec 16} {bit : Bool} (h : r.msb ≠ bit) : (crcBit r bit).getMsbD 15 = true := by
  rw [crcBit, if_neg h]
  simp [BitVec.getMsbD_shiftLeft]

/-- At most 16 data bits take the register to 0 exactly when they are its leading bits and the rest of it is 0: each bit
shifted out must agree with its data bit, for once the lowest bit is set it no longer leaves the register in time. -/
theorem foldl_crcBit_eq_zero_iff (bits : List Bool) (r : BitVec 16) (fits : bits.length ≤ 16) :
    bits.foldl crcBit r = 0 ↔ ∀ i < 16, r.getMsbD i = bits.getD i false := by
  induction bits generalizing r with
  | nil =>
    refine ⟨fun h i _ => ?_, fun h => BitVec.eq_of_getMsbD_eq fun i hi => ?_⟩
    · simp [show r = 0 from h]
    · simpa using h i hi
  | cons bit rest ih =>
    rw [List.length_cons] at fits
    have past : rest.getD 15 false = false := List.getD_eq_default _ _ (by omega)
    rw [List.foldl_cons, ih _ (by omega), Nat.forall_lt_succ_right, Nat.forall_lt_succ_left (n := 15), past,
      ← BitVec.msb_eq_getMsbD_zero]
    by_cases h : r.msb = bit
    · simp [crcBit_of_msb_eq h, BitVec.getMsbD_shiftLeft, h]
    · simp [crcBit_lowest_of_msb_ne h, h]

/-! ### Bytes into the register -/

/-- The bits of a byte in the order in which the check takes them. -/
def checkBits (x : Byte) : List Bool := [7, 6, 5, 4, 3, 2, 1, 0].map x.getLsbD

@[simp] theorem length_checkBits (x : Byte) : (checkBits x).length = 8 := rfl

theorem crcByte_eq_foldl_checkBits (r : BitVec 16) (x : Byte) : crcByte r x = (checkBits x).foldl crcBit r := by
  rw [checkBits, List.foldl_map, crcByte]

theorem getD_checkBits (x : Byte) {i : Nat} (h : i < 8) : (checkBits x).getD i false = x.getMsbD i := by
  interval_cases i <;> rfl

theorem getD_checkBits_append (hi lo : Byte) {i : Nat} (h : i < 16) :
    (checkBits hi ++ checkBits lo).getD i false = (hi ++ lo).getMsbD i := by
  rw [BitVec.getMsbD_append]
  split
  case isTrue second =>
    rw [List.getD_append_right _ _ _ _ second, length_checkBits, getD_checkBits lo (by omega)]
  case isFalse first =>
    have first : i < 8 := by omega
    rw [List.getD_append _ _ _ _ first, getD_checkBits hi first]

/-- Two bytes take the register to 0 exactly when they are the register itself, high byte first. -/
theorem crcByte_crcByte_eq_zero_iff (r : BitVec 16) (hi lo : Byte) :
    crcByte (crcByte r hi) lo = 0 ↔ hi ++ lo = r := by
  rw [crcByte_eq_foldl_checkBits, crcByte_eq_foldl_checkBits, ← List.foldl_append,
    foldl_crcBit_eq_zero_iff _ _ (by simp)]
  refine ⟨fun h => BitVec.eq_of_getMsbD_eq fun i hi16 => ?_, fun h i hi16 => ?_⟩
  · rw [h i hi16, getD_checkBits_append hi lo hi16]
  · rw [← h, getD_checkBits_append hi lo hi16]

@[simp] theorem crc_nil : crc [] = 0xFFFF := rfl

theorem crc_append_singleton (bytes : List Byte) (x : Byte) : crc (bytes ++ [x]) = crcByte (crc bytes) x := by
  rw [crc, List.foldl_append]
  rfl

theorem crc_append_pair (bytes : List Byte) (hi lo : Byte) :
    crc (bytes ++ [hi, lo]) = crcByte (crcByte (crc bytes) hi) lo := by
  rw [crc, List.foldl_append]
  rfl

/-! ### The two check bytes -/

theorem toNat_append_byte (hi lo : Byte) : (hi ++ lo).toNat = hi.toNat * 256 + lo.toNat := by
  rw [BitVec.toNat_append, ← Nat.shiftLeft_add_eq_or_of_lt lo.isLt, Nat.shiftLeft_eq]

/-- Two bytes are a 16-bit field's form exactly when the field is the two together. -/
theorem pair_eq_be16_iff (c : Half) (hi lo : Byte) : [hi, lo] = be16 c ↔ hi ++ lo = c := by
  have bound := hi.isLt
  simp only [be16, List.cons.injEq, and_true, ← BitVec.toNat_inj, toNat_append_byte, BitVec.toNat_setWidth,
    BitVec.toNat_ushiftRight, Nat.shiftRight_eq_div_pow]
  omega

/-- Every 16-bit field is two bytes, and they are its form, high byte first. -/
theorem exists_be16_eq_pair (c : Half) : ∃ hi lo : Byte, hi ++ lo = c ∧ be16 c = [hi, lo] :=
  ⟨_, _, (pair_eq_be16_iff c _ _).mp rfl, rfl⟩

/-- The content of a frame ends in its check, high byte first. -/
theorem Message.exists_content (m : Message) : ∃ hi lo : Byte, hi ++ lo = crc ([m.kind, m.seq] ++ m.body) ∧
    m.content = [m.kind, m.seq] ++ m.body ++ [hi, lo] := by
  obtain ⟨hi, lo, joined, form⟩ := exists_be16_eq_pair (crc m.covered)
  exact ⟨hi, lo, joined, by rw [Message.content, form]; rfl⟩

/-- The receiver's verdict on a content of 4 bytes or more. -/
theorem messageOf_append_pair (kind q : Byte) (body : List Byte) (hi lo : Byte) :
    messageOf ([kind, q] ++ body ++ [hi, lo]) =
      if hi ++ lo = crc ([kind, q] ++ body) then some { kind := kind, seq := q, body := body } else none := by
  simp [messageOf, pair_eq_be16_iff]

end Sys2Proof.Machine

namespace Sys2Proof.Proofs

open Sys2Proof Sys2Proof.Machine

/-- Settles O14: the last clause is the register's end at 0 (`crcByte_crcByte_eq_zero_iff`), begun from the check of the bytes
covered. -/
theorem frameCheck : Obligations.FrameCheck := by
  unfold Obligations.FrameCheck
  refine ⟨crc_nil, fun bytes x => ?byte, by decide +kernel, fun m => ?sent, messageOf_append_pair,
    fun covered hi lo => ?residue⟩
  case byte =>
    simp only [← crcBit_eq]
    exact crc_append_singleton bytes x
  case sent =>
    obtain ⟨hi, lo, joined, content⟩ := m.exists_content
    exact ⟨hi, lo, content, joined⟩
  case residue => rw [crc_append_pair, crcByte_crcByte_eq_zero_iff]

end Sys2Proof.Proofs
end

section
/-! PROOF. Frames on the line and the receiver (10_host_link_framing.md, R165 and R167): what a receiver takes of a stuffed
byte, of a content and of a whole frame. -/

namespace Sys2Proof.Machine

/-! ### The form on the line -/

@[simp] theorem stuff_delimiter : stuff 0xC5 = [0xCA, 0xD5] := rfl

@[simp] theorem stuff_escape : stuff 0xCA = [0xCA, 0xDA] := rfl

theorem stuff_plain {x : Byte} (hd : x ≠ 0xC5) (he : x ≠ 0xCA) : stuff x = [x] := by
  rw [stuff, if_neg (show x ≠ delimiter from hd), if_neg (show x ≠ escape from he)]

theorem length_stuff_of_escaped {x : Byte} (h : x = 0xC5 ∨ x = 0xCA) : (stuff x).length = 2 := by
  obtain rfl | rfl := h <;> rfl

theorem length_stuff_le (x : Byte) : (stuff x).length ≤ 2 := by
  by_cases h : x = 0xC5 ∨ x = 0xCA
  · exact (length_stuff_of_escaped h).le
  · rw [not_or] at h
    simp [stuff_plain h.1 h.2]

theorem length_flatMap_stuff_le (content : List Byte) : (content.flatMap stuff).length ≤ 2 * content.length := by
  induction content with
  | nil => simp
  | cons x rest ih =>
    have := length_stuff_le x
    rw [List.flatMap_cons, List.length_append, List.length_cons]
    omega

theorem length_flatMap_stuff_of_escaped {content : List Byte} (h : ∀ x ∈ content, x = 0xC5 ∨ x = 0xCA) :
    (content.flatMap stuff).length = 2 * content.length := by
  induction content with
  | nil => simp
  | cons x rest ih =>
    rw [List.forall_mem_cons] at h
    rw [List.flatMap_cons, List.length_append, List.length_cons, length_stuff_of_escaped h.1, ih h.2]
    omega

theorem Message.length_content (m : Message) : m.content.length = m.body.length + 4 := by
  simp [Message.content, Message.covered, be16]

theorem Message.length_wire (m : Message) : m.wire.length = (m.content.flatMap stuff).length + 2 := by
  simp [Message.wire]

theorem messageOf_content (m : Message) : messageOf m.content = some m := by
  obtain ⟨hi, lo, joined, content⟩ := m.exists_content
  rw [content, messageOf_append_pair, if_pos joined]

/-! ### Characters into the receiver -/

/-- A receiver that is IN_FRAME. -/
def Receiver.inFrame (buffer : List Byte) : Receiver := { state := .inFrame, buffer := buffer }

theorem Receiver.take_escape (buffer : List Byte) :
    (Receiver.inFrame buffer).take (.char 0xCA) = ({ state := .escape, buffer := buffer }, .quiet) := rfl

theorem Receiver.take_plain {buffer : List Byte} {x : Byte} (hd : x ≠ 0xC5) (he : x ≠ 0xCA) (room : buffer.length < 100) :
    (Receiver.inFrame buffer).take (.char x) = (Receiver.inFrame (buffer ++ [x]), .quiet) :=
  (if_neg hd).trans ((if_neg he).trans (if_pos room))

/-- R167: an escaped byte is unstuffed, whatever its value. -/
theorem Receiver.take_escaped {buffer : List Byte} {x : Byte} (hd : x ≠ 0xC5) (room : buffer.length < 100) :
    Receiver.take { state := .escape, buffer := buffer } (.char x) =
      (Receiver.inFrame (buffer ++ [x ^^^ 0x10]), .quiet) :=
  (if_neg hd).trans (if_pos room)

/-- R167: a delimiter after 4 bytes or more ends the frame, and opens the next. -/
theorem Receiver.take_closing {buffer : List Byte} (long : 4 ≤ buffer.length) :
    (Receiver.inFrame buffer).take (.char 0xC5) = (Receiver.inFrame [], .ended buffer) := by
  have occupied : ¬ (Receiver.inFrame buffer).buffer.length = 0 := by simp only [Receiver.inFrame]; omega
  have enough : ¬ (Receiver.inFrame buffer).buffer.length < 4 := by simp only [Receiver.inFrame]; omega
  change (Receiver.inFrame buffer).close = _
  rw [Receiver.close, if_neg occupied, if_neg enough]
  rfl

@[simp] theorem Receiver.feed_nil (r : Receiver) : r.feed [] = (r, []) := rfl

theorem Receiver.feed_cons_quiet {r t : Receiver} {x : Byte} (h : r.take (.char x) = (t, .quiet)) (rest : List Byte) :
    r.feed (x :: rest) = t.feed rest := by
  rw [Receiver.feed, h]
  rfl

theorem Receiver.feed_singleton_ended {r t : Receiver} {x : Byte} {content : List Byte}
    (h : r.take (.char x) = (t, .ended content)) : r.feed [x] = (t, [.ended content]) := by
  rw [Receiver.feed, h]
  rfl

theorem Receiver.feed_append (r : Receiver) (xs ys : List Byte) :
    r.feed (xs ++ ys) = (((r.feed xs).1.feed ys).1, (r.feed xs).2 ++ ((r.feed xs).1.feed ys).2) := by
  induction xs generalizing r with
  | nil => rfl
  | cons x rest ih =>
    simp only [List.cons_append, Receiver.feed, ih]
    split <;> rfl

theorem Receiver.feed_append_of_eq {r t u : Receiver} {xs ys : List Byte} {es fs : List RxEvent}
    (hx : r.feed xs = (t, es)) (hy : t.feed ys = (u, fs)) : r.feed (xs ++ ys) = (u, es ++ fs) := by
  rw [Receiver.feed_append, hx, hy]

/-- R167: the characters of a stuffed byte bring that byte into the buffer while it has room. -/
theorem Receiver.feed_stuff {buffer : List Byte} (room : buffer.length < 100) (x : Byte) :
    (Receiver.inFrame buffer).feed (stuff x) = (Receiver.inFrame (buffer ++ [x]), []) := by
  by_cases hd : x = 0xC5
  · rw [hd, stuff_delimiter, Receiver.feed_cons_quiet (Receiver.take_escape buffer),
      Receiver.feed_cons_quiet (Receiver.take_escaped (by decide) room)]
    rfl
  by_cases he : x = 0xCA
  · rw [he, stuff_escape, Receiver.feed_cons_quiet (Receiver.take_escape buffer),
      Receiver.feed_cons_quiet (Receiver.take_escaped (by decide) room)]
    rfl
  · rw [stuff_plain hd he, Receiver.feed_cons_quiet (Receiver.take_plain hd he room), Receiver.feed_nil]

theorem Receiver.feed_flatMap_stuff {buffer content : List Byte} (room : buffer.length + content.length ≤ 100) :
    (Receiver.inFrame buffer).feed (content.flatMap stuff) = (Receiver.inFrame (buffer ++ content), []) := by
  induction content generalizing buffer with
  | nil => simp
  | cons x rest ih =>
    rw [List.length_cons] at room
    have first := Receiver.feed_stuff (buffer := buffer) (by omega) x
    have others := ih (buffer := buffer ++ [x]) (by rw [List.length_append, List.length_singleton]; omega)
    rw [List.flatMap_cons, Receiver.feed_append_of_eq first others, List.append_assoc]
    rfl

/-- R167: a delimiter outside a frame, or in one with nothing yet, opens a frame. -/
theorem Receiver.feed_opening {r : Receiver} (empty : r.buffer = []) (unescaped : r.state ≠ .escape) :
    r.feed [0xC5] = (Receiver.inFrame [], []) := by
  obtain ⟨state, buffer⟩ := r
  obtain rfl : buffer = [] := empty
  cases state with
  | hunt => rfl
  | inFrame => rfl
  | escape => exact absurd rfl unescaped

/-- The characters after the opening delimiter end one frame, with the message's content. -/
theorem Receiver.feed_wire_tail {m : Message} (fits : m.body.length ≤ 96) :
    (Receiver.inFrame []).feed m.wire.tail = (Receiver.inFrame [], [.ended m.content]) := by
  have length := m.length_content
  have content := Receiver.feed_flatMap_stuff (buffer := []) (content := m.content) (by rw [List.length_nil]; omega)
  have closing := Receiver.take_closing (buffer := [] ++ m.content) (by rw [List.nil_append]; omega)
  exact Receiver.feed_append_of_eq content (Receiver.feed_singleton_ended closing)

theorem Receiver.feed_wire {m : Message} {r : Receiver} (fits : m.body.length ≤ 96) (empty : r.buffer = [])
    (unescaped : r.state ≠ .escape) : r.feed m.wire = (Receiver.inFrame [], [.ended m.content]) :=
  Receiver.feed_append_of_eq (xs := [0xC5]) (Receiver.feed_opening empty unescaped) (Receiver.feed_wire_tail fits)

end Sys2Proof.Machine

namespace Sys2Proof.Proofs

open Sys2Proof Sys2Proof.Machine

/-- Settles O13: a frame leaves the receiver IN_FRAME and empty (`Receiver.feed_wire`), from where the next one is taken with
or without a delimiter of its own. -/
theorem frameRoundTrip : Obligations.FrameRoundTrip := by
  unfold Obligations.FrameRoundTrip
  refine ⟨fun m => ⟨rfl, m.exists_content, fun fits => ?bounds, fun full escaped => ?longest⟩, stuff_delimiter, stuff_escape,
    fun _ => stuff_plain, fun m n r hm hn empty unescaped => ⟨?between, ?both, ?shared⟩,
    fun m r hm empty unescaped => ⟨Receiver.feed_wire hm empty unescaped, messageOf_content m⟩⟩
  case bounds =>
    have content := m.length_content
    have wire := m.length_wire
    have stuffed := length_flatMap_stuff_le m.content
    omega
  case longest =>
    have wire : m.wire.length = 202 := by rw [m.length_wire, length_flatMap_stuff_of_escaped escaped, full]
    rw [wire]
    decide
  case between =>
    exact ⟨0xC5 :: m.content.flatMap stuff, n.content.flatMap stuff ++ [0xC5], by simp [Message.wire, delimiter]⟩
  case both =>
    exact Receiver.feed_append_of_eq (Receiver.feed_wire hm empty unescaped) (Receiver.feed_wire hn rfl nofun)
  case shared =>
    exact Receiver.feed_append_of_eq (Receiver.feed_wire hm empty unescaped) (Receiver.feed_wire_tail hn)

end Sys2Proof.Proofs
end

section
/-! PROOF. What the shared operations keep, said once for all the laws of `Safety.lean` that speak of one part of the state
alone: the session laws, the exclusive leases, the bus laws and the buffer bounds. -/

namespace Sys2Proof.Machine

/-! ### The laws by part -/

/-- The laws of a session unit, of which the last, that a source waits only behind a full outbox, is asked for on `full`. -/
def Session.lawfulIf (full : Prop) (x : Session) : Prop :=
  x.outbox.length ≤ Config.outboxRoom ∧ consecutiveTo x.nextSeq x.outbox = true ∧ x.admission.Nodup ∧
    (full → x.admission ≠ [] → x.outbox.length = Config.outboxRoom)

/-- The session laws, but that sources may wait in the sessions of `X` while there is room: so it is between an
acknowledgement and the admissions that follow it (R158, R156). -/
def State.lawfulBut (s : State) (X : PortIx → Prop) : Prop := ∀ p, (s.session p).lawfulIf (¬X p)

theorem State.sessionsLawful_iff (s : State) : s.sessionsLawful ↔ s.lawfulBut fun _ => False :=
  forall_congr' fun p => by simp [Session.lawful, Session.lawfulIf]

/-- What the bus laws look at. -/
def Bus.core (x : Bus) : BusConfig × LineState × Engine × Option FaultReason := (x.config, x.line, x.engine, x.faultReason)

theorem Bus.coherent_of_core {x y : Bus} (h : y.core = x.core) (hx : x.coherent) : y.coherent := by
  simp only [Bus.core, Prod.mk.injEq] at h
  obtain ⟨hc, hl, he, hf⟩ := h
  simpa only [Bus.coherent, hc, hl, he, hf] using hx

/-- From `s` to `t` no law is lost. -/
structure State.Safe (s t : State) : Prop where
  sessions : ∀ X, s.lawfulBut X → t.lawfulBut X
  leases : s.leasesExclusive → t.leasesExclusive
  buses : ∀ b, (s.bus b).coherent → (t.bus b).coherent
  buffers : s.buffersBounded → t.buffersBounded

/-- What a port holds but its counters. -/
def Port.link (x : Port) : Receiver × Option Cached × List Message × Option Message := (x.rx, x.cache, x.replies, x.tx)

/-- And the ports stand as they did, but for their counters. -/
structure State.Inside (s t : State) : Prop extends s.Safe t where
  links : ∀ p, (t.port p).link = (s.port p).link

/-- And no configuration changes. -/
structure State.Keeps (s t : State) : Prop extends s.Inside t where
  configs : ∀ b, (t.bus b).config = (s.bus b).config

/-- And no monitor and no port changes. -/
structure State.Still (s t : State) : Prop extends s.Keeps t where
  lines : ∀ b, (t.bus b).line = (s.bus b).line
  ports : t.ports = s.ports

/-- And no engine changes. -/
structure State.Calm (s t : State) : Prop extends s.Still t where
  engines : ∀ b, (t.bus b).engine = (s.bus b).engine
  reasons : ∀ b, (t.bus b).faultReason = (s.bus b).faultReason

section order

variable {s t u : State}

theorem State.Safe.rfl : s.Safe s := ⟨fun _ => id, id, fun _ => id, id⟩

theorem State.Safe.trans (h : s.Safe t) (k : t.Safe u) : s.Safe u :=
  ⟨fun X => k.sessions X ∘ h.sessions X, k.leases ∘ h.leases, fun b => k.buses b ∘ h.buses b, k.buffers ∘ h.buffers⟩

theorem State.Inside.rfl : s.Inside s := ⟨.rfl, fun _ => Eq.refl _⟩

theorem State.Inside.trans (h : s.Inside t) (k : t.Inside u) : s.Inside u :=
  ⟨h.toSafe.trans k.toSafe, fun p => (k.links p).trans (h.links p)⟩

theorem State.Keeps.rfl : s.Keeps s := ⟨.rfl, fun _ => Eq.refl _⟩

theorem State.Keeps.trans (h : s.Keeps t) (k : t.Keeps u) : s.Keeps u :=
  ⟨h.toInside.trans k.toInside, fun b => (k.configs b).trans (h.configs b)⟩

theorem State.Still.rfl : s.Still s := ⟨.rfl, fun _ => Eq.refl _, Eq.refl _⟩

theorem State.Still.trans (h : s.Still t) (k : t.Still u) : s.Still u :=
  ⟨h.toKeeps.trans k.toKeeps, fun b => (k.lines b).trans (h.lines b), k.ports.trans h.ports⟩

theorem State.Calm.rfl : s.Calm s := ⟨.rfl, fun _ => Eq.refl _, fun _ => Eq.refl _⟩

theorem State.Calm.trans (h : s.Calm t) (k : t.Calm u) : s.Calm u :=
  ⟨h.toStill.trans k.toStill, fun b => (k.engines b).trans (h.engines b), fun b => (k.reasons b).trans (h.reasons b)⟩

theorem State.Calm.foldl {α : Type} {f : State → α → State} (h : ∀ (s : State) (x : α), s.Calm (f s x)) (l : List α) (s : State) :
    s.Calm (l.foldl f s) := by
  induction l generalizing s with
  | nil => exact .rfl
  | cons x l ih => exact (h s x).trans (ih _)

theorem State.Still.foldl {α : Type} {f : State → α → State} (h : ∀ (s : State) (x : α), s.Still (f s x)) (l : List α) (s : State) :
    s.Still (l.foldl f s) := by
  induction l generalizing s with
  | nil => exact .rfl
  | cons x l ih => exact (h s x).trans (ih _)

theorem State.Calm.core (h : s.Calm t) (b : BusIx) : (t.bus b).core = (s.bus b).core := by
  simp only [Bus.core, h.configs, h.lines, h.engines, h.reasons]

theorem State.Calm.enabled (h : s.Calm t) (b : BusIx) : t.enabled b = s.enabled b := by
  simp only [State.enabled, h.configs]

end order

/-! ### The updates of one place -/

section updates

variable (s : State)

/-- What leaves sessions, leases, buses and ports as they are is calm. -/
theorem State.Calm.of_eq {t : State} (hs : t.sessions = s.sessions) (hl : t.leases = s.leases) (hb : t.buses = s.buses)
    (hp : t.ports = s.ports) : s.Calm t := by
  have session (p) : t.session p = s.session p := by simp only [State.session, hs]
  have lease (i) : t.lease i = s.lease i := by simp only [State.lease, hl]
  have bus (b) : t.bus b = s.bus b := by simp only [State.bus, hb]
  have port (p) : t.port p = s.port p := by simp only [State.port, hp]
  have safe : s.Safe t := by
    constructor <;> simp only [State.lawfulBut, State.leasesExclusive, State.buffersBounded, session,
      lease, bus, port, imp_self, implies_true]
  exact ⟨⟨⟨⟨safe, fun p => by rw [port]⟩, fun b => by rw [bus]⟩, fun b => by rw [bus], hp⟩, fun b => by rw [bus],
    fun b => by rw [bus]⟩

theorem State.modSession_calm (p : PortIx) (f : Session → Session)
    (h : ∀ full, (s.session p).lawfulIf full → (f (s.session p)).lawfulIf full) : s.Calm (s.modSession p f) where
  sessions X hX n := by
    rw [State.modSession_session]
    split
    next hn => exact hn ▸ h _ (hX p)
    next => exact hX n
  leases := id
  buses _ := id
  buffers := id
  links _ := rfl
  configs _ := rfl
  lines _ := rfl
  ports := rfl
  engines _ := rfl
  reasons _ := rfl

/-- An update of a bus that keeps its core and the bounds of its target unit is calm. -/
theorem State.modBus_calm (b : BusIx) (f : Bus → Bus) (hc : (f (s.bus b)).core = (s.bus b).core)
    (ht : (s.bus b).target.bounded → (f (s.bus b)).target.bounded) : s.Calm (s.modBus b f) := by
  have core (n : BusIx) : ((s.modBus b f).bus n).core = (s.bus n).core := by
    rw [State.modBus_bus]
    split
    next hn => exact hn ▸ hc
    next => rfl
  simp only [Bus.core, Prod.mk.injEq] at core
  exact {
    sessions := fun _ => id
    leases := id
    buses := fun n => Bus.coherent_of_core (by simp only [Bus.core, core])
    buffers := fun h => ⟨h.1, fun n => by
      rw [State.modBus_bus]
      split
      next => exact ht (h.2 b)
      next => exact h.2 n⟩
    links := fun _ => rfl
    configs := fun n => (core n).1
    lines := fun n => (core n).2.1
    ports := rfl
    engines := fun n => (core n).2.2.1
    reasons := fun n => (core n).2.2.2 }

/-- An update of a bus that keeps its configuration, its law and the bounds of its target unit. -/
theorem State.modBus_keeps (b : BusIx) (f : Bus → Bus) (hc : (f (s.bus b)).config = (s.bus b).config)
    (hl : (s.bus b).coherent → (f (s.bus b)).coherent) (ht : (s.bus b).target.bounded → (f (s.bus b)).target.bounded) :
    s.Keeps (s.modBus b f) where
  sessions _ := id
  leases := id
  buses n h := by
    rw [State.modBus_bus]
    split
    next hn => exact hl (hn ▸ h)
    next => exact h
  buffers h := ⟨h.1, fun n => by
    rw [State.modBus_bus]
    split
    next => exact ht (h.2 b)
    next => exact h.2 n⟩
  links _ := rfl
  configs n := by
    rw [State.modBus_bus]
    split
    next hn => exact hn ▸ hc
    next => rfl

/-- The same where the monitor stays as it is too. -/
theorem State.modBus_still (b : BusIx) (f : Bus → Bus) (hc : (f (s.bus b)).config = (s.bus b).config)
    (hm : (f (s.bus b)).line = (s.bus b).line) (hl : (s.bus b).coherent → (f (s.bus b)).coherent)
    (ht : (s.bus b).target.bounded → (f (s.bus b)).target.bounded) : s.Still (s.modBus b f) where
  toKeeps := s.modBus_keeps b f hc hl ht
  lines n := by
    rw [State.modBus_bus]
    split
    next hn => exact hn ▸ hm
    next => rfl
  ports := rfl

/-- An update of a port that keeps its bounds. -/
theorem State.modPort_safe (p : PortIx) (f : Port → Port) (h : (s.port p).bounded → (f (s.port p)).bounded) :
    s.Safe (s.modPort p f) where
  sessions _ := id
  leases := id
  buses _ := id
  buffers k := ⟨fun n => by
    rw [State.modPort_port]
    split
    next => exact h (k.1 p)
    next => exact k.1 n, k.2⟩

theorem State.countPort_keeps (p : PortIx) (f : PortCounters → PortCounters) : s.Keeps (s.countPort p f) where
  toSafe := s.modPort_safe p _ id
  links n := by
    rw [State.countPort, State.modPort_port]
    split
    next hn => exact hn ▸ rfl
    next => rfl
  configs _ := rfl

/-- GRANTED entries that all stood before, with their owners, buses and ranges, are exclusive as before. -/
theorem State.leasesExclusive_of_granted {s t : State} (h : s.leasesExclusive)
    (hsub : ∀ i, ∀ x ∈ t.lease i, x.state = .granted → ∃ y ∈ s.lease i, y.state = .granted ∧ y.bus = x.bus ∧
      y.owner = x.owner ∧ y.low = x.low ∧ y.high = x.high) : t.leasesExclusive := by
  intro i j x hx y hy gx gy hb ho a
  obtain ⟨x', hx', gx', bx, ox, lx, ux⟩ := hsub i x hx gx
  obtain ⟨y', hy', gy', bys, oy, ly, uy⟩ := hsub j y hy gy
  have := h i j x' hx' y' hy' gx' gy' (by rw [bx, bys, hb]) (by rwa [ox, oy]) a
  simpa only [Lease.covers, lx, ux, ly, uy] using this

theorem State.leases_calm {t : State} (hs : t.sessions = s.sessions) (hb : t.buses = s.buses) (hp : t.ports = s.ports)
    (hl : s.leasesExclusive → t.leasesExclusive) : s.Calm t := by
  have c : s.Calm { t with leases := s.leases } := .of_eq s hs rfl hb hp
  exact { c with leases := hl }

/-- An entry that is not GRANTED, or differs from the one before in neither state, owner, bus nor range. -/
theorem State.putLease_calm (i : Fin 16) (e : Lease)
    (h : e.state = .granted → ∃ y ∈ s.lease i, y.state = .granted ∧ y.bus = e.bus ∧ y.owner = e.owner ∧ y.low = e.low ∧
      y.high = e.high) : s.Calm (s.putLease i e) := by
  refine State.leases_calm s rfl rfl rfl fun hs => State.leasesExclusive_of_granted hs fun k x hx gx => ?_
  rw [State.putLease_lease] at hx
  split at hx
  next hk =>
    cases Option.mem_def.mp hx
    exact hk ▸ h gx
  next => exact ⟨x, hx, gx, rfl, rfl, rfl, rfl⟩

/-- A grant that no GRANTED entry of another session overlaps. -/
theorem State.putLease_grant_calm (i : Fin 16) (e : Lease)
    (h : ∀ j, ∀ g ∈ s.lease j, g.state = .granted → g.conflicts e.owner e.bus e.low e.high = false) :
    s.Calm (s.putLease i e) := by
  have apart (j) (g) (hg : g ∈ s.lease j) (gg : g.state = .granted) (hb : g.bus = e.bus) (ho : g.owner ≠ e.owner) (a) :
      ¬(g.covers a = true ∧ e.covers a = true) := by
    have := h j g hg gg
    simp only [Lease.conflicts, rangesOverlap, gg, hb, ho, decide_not, ne_eq] at this
    simp only [Lease.covers, decide_eq_true_eq]
    simp at this
    omega
  refine State.leases_calm s rfl rfl rfl fun hs j k x hx y hy gx gy hb ho a => ?_
  rw [State.putLease_lease] at hx hy
  split at hx <;> split at hy
  next => cases Option.mem_def.mp hx; cases Option.mem_def.mp hy; exact absurd rfl ho
  next =>
    cases Option.mem_def.mp hx
    exact fun hc => apart k y hy gy hb.symm (Ne.symm ho) a hc.symm
  next =>
    cases Option.mem_def.mp hy
    exact apart j x hx gx hb ho a
  next => exact hs j k x hx y hy gx gy hb ho a

theorem State.freeLease_calm (i : Fin 16) : s.Calm (s.freeLease i) := by
  refine State.leases_calm s rfl rfl rfl fun hs => State.leasesExclusive_of_granted hs fun k x hx gx => ?_
  rw [State.freeLease_lease] at hx
  split at hx
  next => cases hx
  next => exact ⟨x, hx, gx, rfl, rfl, rfl, rfl⟩

theorem State.freeLeasesOf_lease (p : PortIx) (i : Fin 16) :
    (s.freeLeasesOf p).lease i = (s.lease i).filter fun e => decide (e.owner ≠ p) := by
  simp only [State.freeLeasesOf, State.lease, Fin.getElem_fin, Vector.getElem_map]
  cases h : s.leases[i.val].entry with
  | none => simp [h]
  | some e =>
    by_cases ho : e.owner = p
    · simp [ho, Option.filter]
    · simp [ho, h, Option.filter]

theorem State.freeLeasesOf_calm (p : PortIx) : s.Calm (s.freeLeasesOf p) := by
  refine State.leases_calm s rfl rfl rfl fun hs => State.leasesExclusive_of_granted hs fun k x hx gx => ?_
  rw [State.freeLeasesOf_lease, Option.mem_filter_iff] at hx
  exact ⟨x, hx.1, gx, rfl, rfl, rfl, rfl⟩

theorem State.putRecord_calm (i : Fin 64) (r : Record) : s.Calm (s.putRecord i r) := .of_eq s rfl rfl rfl rfl
theorem State.freeRecord_calm (i : Fin 64) : s.Calm (s.freeRecord i) := .of_eq s rfl rfl rfl rfl
theorem State.putGroup_calm (i : Fin 8) (g : GroupEntry) : s.Calm (s.putGroup i g) := .of_eq s rfl rfl rfl rfl
theorem State.freeGroup_calm (i : Fin 8) : s.Calm (s.freeGroup i) := .of_eq s rfl rfl rfl rfl
theorem State.freeGroupsOf_calm (p : PortIx) : s.Calm (s.freeGroupsOf p) := .of_eq s rfl rfl rfl rfl
theorem State.unstage_calm (i : Fin 64) : s.Calm (s.unstage i) := .of_eq s rfl rfl rfl rfl
theorem State.putWatch_calm (i : Fin 12) (w : Watch) : s.Calm (s.putWatch i w) := .of_eq s rfl rfl rfl rfl
theorem State.freeWatch_calm (i : Fin 12) : s.Calm (s.freeWatch i) := .of_eq s rfl rfl rfl rfl
theorem State.setWaiting_calm (b : BusIx) (w : List (Fin 16)) : s.Calm (s.setWaiting b w) := .of_eq s rfl rfl rfl rfl
theorem State.spendFree_calm : s.Calm s.spendFree := .of_eq s rfl rfl rfl rfl

theorem State.modRecord_calm (i : Fin 64) (f : Record → Record) : s.Calm (s.modRecord i f) := .of_eq s (by simp) (by simp)
  (by simp) (by simp)

theorem State.modWatch_calm (i : Fin 12) (f : Watch → Watch) : s.Calm (s.modWatch i f) := .of_eq s (by simp) (by simp)
  (by simp) (by simp)

theorem State.countBus_calm (b : BusIx) (f : BusCounters → BusCounters) : s.Calm (s.countBus b f) :=
  s.modBus_calm b _ rfl id

theorem State.setQueue_calm (b : BusIx) (q : List QItem) : s.Calm (s.setQueue b q) := s.modBus_calm b _ rfl id

theorem State.modTarget_calm (b : BusIx) (f : Target → Target)
    (h : (s.bus b).target.bounded → (f (s.bus b).target).bounded) : s.Calm (s.modTarget b f) := s.modBus_calm b _ rfl h

theorem State.setFollowing_calm (b : BusIx) (f : Bool) : s.Calm (s.setFollowing b f) := s.modBus_calm b _ rfl id

theorem State.dequeueRecord_calm (b : BusIx) (i : Fin 64) : s.Calm (s.dequeueRecord b i) := s.setQueue_calm b _

theorem State.dequeueWatch_calm (b : BusIx) (w : Fin 12) : s.Calm (s.dequeueWatch b w) := s.setQueue_calm b _

theorem State.enqueue_calm (b : BusIx) (it : QItem) : s.Calm (s.enqueue b it) := s.setQueue_calm b _

end updates

/-! ### Admission (R154 to R156) -/

theorem byteOf_succ (n : Nat) : byteOf (n + 1) = byteOf n + 1 := BitVec.ofNat_add n 1

theorem consecutiveTo_append {l : List OutboxEntry} {next : Byte} (h : consecutiveTo next l = true) (r : Report) :
    consecutiveTo (next + 1) (l ++ [{ seq := next, report := r, sent := false, everSent := false }]) = true := by
  induction l with
  | nil => simp [consecutiveTo, byteOf]
  | cons e l ih =>
    simp only [consecutiveTo, Bool.and_eq_true, decide_eq_true_eq, List.cons_append, List.length_append] at h ⊢
    refine ⟨?_, ih h.2⟩
    rw [← h.1, List.length_singleton, byteOf_succ (l.length + 1), BitVec.add_assoc]

/-- Admission puts a report into an outbox with room. -/
theorem Session.push_lawfulIf {x : Session} {full : Prop} (room : x.outbox.length < Config.outboxRoom) (r : Report)
    (h : x.lawfulIf full) : (x.push r).lawfulIf full := by
  obtain ⟨-, consecutive, once, waits⟩ := h
  refine ⟨?_, consecutiveTo_append consecutive r, once, fun hf hne => ?_⟩
  · simp only [Session.push, List.length_append, List.length_singleton]
    omega
  · exact absurd (waits hf hne) room.ne

theorem InSlot.empty_bounded : InSlot.empty.data.length ≤ Config.targetBytes := Nat.zero_le _

/-- A slot of an inbound buffer is replaced by one within the bound. -/
theorem Target.bounded_setSlot {t : Target} (k : Fin 4) {c : InSlot} (hc : c.data.length ≤ Config.targetBytes)
    (h : t.bounded) : ({ t with slots := t.slots.set k c } : Target).bounded := by
  refine ⟨h.1, h.2.1, fun j => ?_⟩
  simp only [Fin.getElem_fin, Vector.getElem_set]
  split
  · exact hc
  · exact h.2.2 j

theorem State.releaseSource_calm (s : State) (p : PortIx) (src : Source) : s.Calm (s.releaseSource p src) := by
  unfold State.releaseSource
  cases src with
  | record i => exact s.freeRecord_calm i
  | lease i =>
    dsimp only
    split
    next => exact .rfl
    next e he =>
      split
      · exact s.freeLease_calm i
      · exact s.putLease_calm i _ fun hg => ⟨e, he, hg, rfl, rfl, rfl, rfl⟩
  | group i =>
    dsimp only
    split
    · exact .rfl
    · exact s.putGroup_calm i _
  | watch i => exact s.modWatch_calm i _
  | inbound b k => exact s.modTarget_calm b _ (Target.bounded_setSlot k InSlot.empty_bounded)
  | tally b => exact s.modTarget_calm b _ id
  | busEvent b => exact s.modSession_calm p _ fun _ => id

theorem State.admitOne_calm {s : State} {p : PortIx} (src : Source) (room : (s.session p).outbox.length < Config.outboxRoom) :
    s.Calm (s.admitOne p src) := by
  obtain ⟨-, h⟩ | ⟨r, -, h⟩ := s.admitOne_cases p src
  · rw [h]
    exact .rfl
  · rw [h]
    exact (s.modSession_calm p _ fun _ => Session.push_lawfulIf room r).trans (State.releaseSource_calm _ p src)

/-- A source joins an admission list that does not hold it, behind a full outbox. -/
theorem Session.wait_lawfulIf {x : Session} {full : Prop} {src : Source} (new : src ∉ x.admission)
    (noRoom : Config.outboxRoom ≤ x.outbox.length) (h : x.lawfulIf full) :
    ({ x with admission := x.admission ++ [src] } : Session).lawfulIf full := by
  obtain ⟨bound, consecutive, once, -⟩ := h
  refine ⟨bound, consecutive, ?_, fun _ _ => le_antisymm bound noRoom⟩
  simpa [List.nodup_append, once] using fun a ha (e : a = src) => new (e ▸ ha)

theorem State.offer_calm (s : State) (p : PortIx) (src : Source) : s.Calm (s.offer p src) := by
  obtain ⟨-, h⟩ | ⟨-, room, h⟩ | ⟨new, noRoom, h⟩ := s.offer_cases p src <;> rw [h]
  · exact .rfl
  · exact State.admitOne_calm src room
  · exact s.modSession_calm p _ fun _ => Session.wait_lawfulIf new noRoom

theorem Session.filter_lawfulIf (keep : Source → Bool) {x : Session} {full : Prop} (h : x.lawfulIf full) :
    ({ x with admission := x.admission.filter keep } : Session).lawfulIf full := by
  obtain ⟨bound, consecutive, once, waits⟩ := h
  exact ⟨bound, consecutive, once.filter _, fun hf hne => waits hf fun he => hne (by simp [he])⟩

theorem State.dropSource_calm (s : State) (p : PortIx) (src : Source) : s.Calm (s.dropSource p src) :=
  s.modSession_calm p _ fun _ => Session.filter_lawfulIf _

theorem State.offerBusEventTo_calm (s : State) (b : BusIx) (kind : BusEventKind) (p : PortIx) :
    s.Calm (s.offerBusEventTo b kind p) := by
  unfold State.offerBusEventTo
  split
  · exact (s.modSession_calm p _ fun _ => id).trans (State.offer_calm _ p _)
  · exact .rfl

theorem State.offerBusEvent_calm (s : State) (b : BusIx) (kind : BusEventKind) : s.Calm (s.offerBusEvent b kind) :=
  ((State.offerBusEventTo_calm _ b kind 0).trans (State.offerBusEventTo_calm _ b kind 1)).trans
    (State.offerBusEventTo_calm _ b kind 2)

end Sys2Proof.Machine
end

section
/-! PROOF. What the rules of the transactions, leases, groups, watches, target units and sessions keep (chapters 1, 2 and 5
to 9). -/

namespace Sys2Proof.Machine

/-! ### Queues and the wake event (02_bus_queues_and_scheduling.md) -/

/-- A bus that is enabled keeps its law while its engine is not DISABLED and its monitor not OFF. -/
theorem Bus.coherent_of_enabled {x : Bus} (he : x.config.enabled = true) (hl : x.line ≠ .off) (hd : x.engine ≠ .disabled)
    (hr : x.engine = .reserved true → x.line = .free) (hf : x.engine = .fault → x.faultReason.isSome = true)
    (hp : x.engine.pulsesBounded = true) : x.coherent :=
  ⟨⟨fun h => absurd h hl, fun h => absurd h hd⟩, fun _ => hd, fun h => absurd (he.symm.trans h) (by decide), hr, hf, hp⟩

/-- A disabled bus with its engine DISABLED and its monitor OFF. -/
theorem Bus.coherent_of_disabled {x : Bus} (he : x.config.enabled = false) (hl : x.line = .off) (hd : x.engine = .disabled) :
    x.coherent := by
  simp [Bus.coherent, he, hl, hd, Engine.pulsesBounded]

theorem Bus.coherent.line_ne_off {x : Bus} (h : x.coherent) (hd : x.engine ≠ .disabled) : x.line ≠ .off := fun hl =>
  hd (h.1.mp hl)

/-- A bus whose engine is neither DISABLED nor finishes an attempt is enabled. -/
theorem Bus.coherent.enabled {x : Bus} (h : x.coherent) (hd : x.engine ≠ .disabled) (hf : x.engine.finishing = false) :
    x.config.enabled = true := by
  obtain ⟨-, -, off, -⟩ := h
  by_contra he
  obtain hx | hx := off (by simpa using he)
  · exact hd hx
  · simp [hf] at hx

variable (s : State)

theorem State.wake_still (b : BusIx) : s.Still (s.wake b) := by
  obtain ⟨hi, -, h⟩ | ⟨-, h⟩ := s.wake_cases b <;> rw [h]
  · refine s.modBus_still b _ rfl rfl (fun hc => ?_) id
    have hd : (s.bus b).engine ≠ .disabled := by simp [hi]
    exact Bus.coherent_of_enabled (hc.enabled hd (by simp [hi, Engine.finishing])) (hc.line_ne_off hd) (by simp) (by simp)
      (by simp) rfl
  · exact .rfl

theorem State.join_still (b : BusIx) (it : QItem) : s.Still (s.join b it) :=
  (s.enqueue_calm b it).toStill.trans (State.wake_still _ b)

theorem State.promote_calm (b : BusIx) (it : QItem) : s.Calm (s.promote b it) := by
  cases it with
  | record i => exact ((s.setQueue_calm b _).trans (State.modRecord_calm _ i _)).trans (State.enqueue_calm _ b _)
  | watchRead w c t z => exact (s.setQueue_calm b _).trans (State.enqueue_calm _ b _)

theorem State.promoteDue_calm (b : BusIx) : s.Calm (s.promoteDue b) := .foldl (fun t it => t.promote_calm b it) _ s

/-! ### Transactions (01_transactions.md) -/

theorem State.finishRecord_calm (i : Fin 64) (st : Status) (f : Option Nat) (n : Nat) (d : List Byte) :
    s.Calm (s.finishRecord i st f n d) := by
  obtain ⟨-, h⟩ | ⟨r, -, h⟩ := s.finishRecord_cases i st f n d <;> rw [h]
  · exact .rfl
  · exact (s.putRecord_calm i _).trans (State.offer_calm _ _ _)

theorem State.finishWithoutAttempt_calm (i : Fin 64) (st : Status) : s.Calm (s.finishWithoutAttempt i st) :=
  s.finishRecord_calm i st none 0 []

theorem State.closeIfDone_calm (p : PortIx) : s.Calm (s.closeIfDone p) := by
  unfold State.closeIfDone
  split
  · exact s.modSession_calm p _ fun _ => id
  · exact .rfl

theorem State.finishAttempted_calm (i : Fin 64) (b : BusIx) (a : Attempt) (st : Status) :
    s.Calm (s.finishAttempted i b a st) := by
  unfold State.finishAttempted
  split
  · exact s.finishRecord_calm i _ _ _ _
  · exact (s.countBus_calm b _).trans (State.finishRecord_calm _ i _ _ _ _)

theorem State.retryRecord_calm (i : Fin 64) (why : Status) : s.Calm (s.retryRecord i why) := by
  unfold State.retryRecord
  split
  next => exact .rfl
  next r _ =>
    dsimp only
    split
    · exact (s.putRecord_calm i _).trans (State.finishWithoutAttempt_calm _ i _)
    · exact (s.putRecord_calm i _).trans (State.enqueue_calm _ _ _)

theorem State.recordOutcome_calm (i : Fin 64) (a : Attempt) (e : AttemptEnd) : s.Calm (s.recordOutcome i a e) := by
  unfold State.recordOutcome
  split
  next => exact .rfl
  next r _ =>
    split
    · exact (s.freeRecord_calm i).trans (State.closeIfDone_calm _ _)
    · repeat' split
      all_goals first | exact s.finishAttempted_calm i _ a _ | exact s.retryRecord_calm i _

theorem State.acceptSubmit_still (p : PortIx) (b : BusIx) (x : SubmitBody) (g : Option (Fin 8 × GroupEntry)) (i : Fin 64) :
    s.Still (s.acceptSubmit p b x g i) := by
  unfold State.acceptSubmit
  split
  · exact (s.putRecord_calm i _).toStill.trans (State.join_still _ b _)
  · exact ((s.putRecord_calm i _).trans (State.putGroup_calm _ _ _)).toStill

theorem State.submitRequest_still (p : PortIx) (body : List Byte) : s.Still (s.submitRequest p body).1 := by
  unfold State.submitRequest State.submitFields
  repeat' split
  all_goals first | exact .rfl | exact s.acceptSubmit_still p _ _ _ _

/-- An abort mark on the attempt of a bus. -/
theorem State.setAbort_still (b : BusIx) (a : Attempt) (h : (s.bus b).engine = .active (some a)) :
    s.Still (s.setEngine b (.active (some { a with abortPending := true }))) := by
  refine s.modBus_still b _ rfl rfl (fun hc => ?_) id
  obtain ⟨off, -, finishing, -⟩ := hc
  simp only [h, reduceCtorEq, iff_false, false_or] at off finishing
  refine ⟨by simpa using off, by simp, fun he => Or.inr ?_, by simp, by simp, rfl⟩
  have hf := finishing he
  simp only [Engine.finishing, Bool.and_eq_true] at hf ⊢
  exact ⟨trivial, hf.2⟩

theorem State.abortAttempt_still (b : BusIx) : s.Still (s.abortAttempt b) := by
  unfold State.abortAttempt
  split
  next a ha =>
    dsimp only
    split
    · exact (s.setAbort_still b a ha).trans (State.modRecord_calm _ _ _).toStill
    · exact s.setAbort_still b a ha
  next => exact .rfl

theorem State.abortRecord_still (i : Fin 64) : s.Still (s.abortRecord i) := by
  unfold State.abortRecord
  split
  next => exact .rfl
  next r _ =>
    have mark := (s.putRecord_calm i { r with abortPending := true }).toStill
    dsimp only
    split
    next a ha =>
      split
      · exact mark.trans (State.setAbort_still _ r.bus a ha)
      · exact mark
    next => exact mark

theorem State.cancelRequest_still (p : PortIx) (body : List Byte) : s.Still (s.cancelRequest p body).1 := by
  unfold State.cancelRequest
  split
  next => exact .rfl
  next tag =>
    split
    next => exact .rfl
    next i r _ =>
      split
      · exact .rfl
      · split
        · exact ((s.unstage_calm i).trans (State.finishWithoutAttempt_calm _ i _)).toStill
        · exact ((s.dequeueRecord_calm r.bus i).trans (State.finishWithoutAttempt_calm _ i _)).toStill
        · exact s.abortRecord_still i
        · exact .rfl

theorem State.deadlineReached_calm (i : Fin 64) : s.Calm (s.deadlineReached i) := by
  unfold State.deadlineReached
  split
  next => exact .rfl
  next r _ =>
    split
    · exact (s.dequeueRecord_calm r.bus i).trans (State.finishWithoutAttempt_calm _ i _)
    · exact .rfl

theorem State.spacingReached_still (i : Fin 64) : s.Still (s.spacingReached i) := by
  unfold State.spacingReached
  split
  next => exact .rfl
  next r _ =>
    split
    · exact s.wake_still r.bus
    · exact .rfl

/-! ### Leases (05_leases.md) -/

/-- Some entry of the lease table has a property. -/
theorem State.any_lease (f : Lease → Bool) :
    (s.leases.toList.any fun c => c.entry.any f) = true ↔ ∃ j, ∃ g ∈ s.lease j, f g = true := by
  simp only [List.any_eq_true, Vector.mem_toList_iff, Vector.mem_iff_getElem, Option.any_eq_true, State.lease]
  constructor
  · rintro ⟨_, ⟨j, hj, rfl⟩, g, hg, hf⟩
    exact ⟨⟨j, hj⟩, g, hg, hf⟩
  · rintro ⟨j, g, hg, hf⟩
    exact ⟨_, ⟨j.val, j.isLt, rfl⟩, g, hg, hf⟩

theorem State.grantWaiting_calm (i : Fin 16) (e : Lease) (kept : List (Fin 16)) (h : s.walkBlocked e kept = false) :
    s.Calm (s.grantWaiting i e) := by
  refine (s.putLease_grant_calm i _ fun j g hg gg => ?_).trans (State.offer_calm _ _ _)
  simp only [State.walkBlocked, Bool.or_eq_false_iff] at h
  by_contra hc
  have held := (s.any_lease fun g => decide (g.state = .granted) && g.conflicts e.owner e.bus e.low e.high).mpr
    ⟨j, g, hg, by simpa [gg, Lease.grantAt] using hc⟩
  exact absurd held (by simp only [h.1, Bool.false_eq_true, not_false_eq_true])

theorem State.walkWaiting_calm (b : BusIx) (kept order : List (Fin 16)) : s.Calm (s.walkWaiting b kept order) := by
  induction order generalizing s kept with
  | nil => exact s.setWaiting_calm b kept
  | cons i rest ih =>
    simp only [State.walkWaiting]
    split
    next => exact ih _ _
    next e _ =>
      split
      next => exact ih _ _
      next free => exact (s.grantWaiting_calm i e kept (by simpa using free)).trans (ih _ _)

theorem State.reexamine_calm (b : BusIx) : s.Calm (s.reexamine b) := s.walkWaiting_calm b [] _

theorem State.afterLeaseLeft_still (b : BusIx) (wasGranted : Bool) : s.Still (s.afterLeaseLeft b wasGranted) := by
  unfold State.afterLeaseLeft
  split
  · exact (s.reexamine_calm b).toStill.trans (State.wake_still _ b)
  · exact (s.reexamine_calm b).toStill

theorem State.acceptClaim_calm (p : PortIx) (b : BusIx) (low high : Addr) (d : Half) (i : Fin 16) :
    s.Calm (s.acceptClaim p b low high d (s.claimConflicts p b low high) i) := by
  unfold State.acceptClaim
  dsimp only
  split
  · exact (s.putLease_calm i _ (by simp)).trans (State.setWaiting_calm _ b _)
  next free =>
    refine s.putLease_grant_calm i _ fun j g hg _ => ?_
    by_contra hc
    exact free ((s.any_lease _).mpr ⟨j, g, hg, by simpa [Lease.grantAt] using hc⟩)

theorem State.claimRequest_calm (p : PortIx) (body : List Byte) : s.Calm (s.claimRequest p body).1 := by
  unfold State.claimRequest State.claimFields
  dsimp only
  repeat' split
  all_goals first | exact .rfl | exact s.acceptClaim_calm p _ _ _ _ _

theorem State.renewRequest_calm (p : PortIx) (body : List Byte) : s.Calm (s.renewRequest p body).1 := by
  unfold State.renewRequest
  repeat' split
  all_goals try exact .rfl
  next i e found _ _ _ _ =>
    exact s.putLease_calm i _ fun hg => ⟨e, (State.findLease_some found).1, hg, rfl, rfl, rfl, rfl⟩

theorem State.releaseRequest_still (p : PortIx) (body : List Byte) : s.Still (s.releaseRequest p body).1 := by
  unfold State.releaseRequest
  repeat' split
  all_goals try exact .rfl
  next i e _ _ _ =>
    exact (((s.freeLease_calm i).trans (State.setWaiting_calm _ _ _)).trans (State.dropSource_calm _ p _)).toStill.trans
      (State.afterLeaseLeft_still _ _ _)

theorem State.endLease_still (i : Fin 16) (e : Lease) (why : EndReason) : s.Still (s.endLease i e why) :=
  (((s.putLease_calm i _ (by simp)).trans (State.setWaiting_calm _ _ _)).trans (State.offer_calm _ _ _)).toStill.trans
    (State.afterLeaseLeft_still _ _ _)

theorem State.revokeRequest_still (p : PortIx) (body : List Byte) : s.Still (s.revokeRequest p body).1 := by
  unfold State.revokeRequest
  repeat' split
  all_goals first | exact .rfl | exact s.endLease_still _ _ _

theorem State.leaseExpired_still (i : Fin 16) : s.Still (s.leaseExpired i) := by
  unfold State.leaseExpired
  repeat' split
  all_goals first | exact .rfl | exact s.endLease_still i _ _

/-! ### Groups (06_staged_groups_and_trigger_lines.md) -/

theorem State.groupCreateRequest_calm (p : PortIx) (body : List Byte) : s.Calm (s.groupCreateRequest p body).1 := by
  unfold State.groupCreateRequest
  repeat' split
  all_goals first | exact .rfl | exact s.putGroup_calm _ _

theorem State.groupArmRequest_calm (p : PortIx) (body : List Byte) : s.Calm (s.groupArmRequest p body).1 := by
  unfold State.groupArmRequest
  repeat' split
  all_goals first | exact .rfl | exact s.putGroup_calm _ _

theorem State.groupBindRequest_calm (p : PortIx) (body : List Byte) : s.Calm (s.groupBindRequest p body).1 := by
  unfold State.groupBindRequest State.bindLine
  repeat' split
  all_goals first | exact .rfl | exact s.putGroup_calm _ _

theorem State.fireRecord_still (i : Fin 64) : s.Still (s.fireRecord i) := by
  unfold State.fireRecord
  split
  next => exact .rfl
  next r _ =>
    split
    · exact (s.putRecord_calm i _).toStill.trans (State.join_still _ _ _)
    · exact (s.finishWithoutAttempt_calm i _).toStill

theorem State.fire_still (i : Fin 8) (g : GroupEntry) (source : FireSource) : s.Still (s.fire i g source) :=
  (State.Still.foldl (fun t j => t.fireRecord_still j) g.staged s).trans
    ((State.putGroup_calm _ i _).trans (State.offer_calm _ _ _)).toStill

theorem State.groupFireRequest_still (p : PortIx) (body : List Byte) : s.Still (s.groupFireRequest p body).1 := by
  unfold State.groupFireRequest
  repeat' split
  all_goals first | exact .rfl | exact s.fire_still _ _ _

theorem State.sampleLine_still (l : TriggerLine) (rising : Bool) : s.Still (s.sampleLine l rising) := by
  have level : s.Still (s.setLevel l rising) := by cases l <;> exact (State.Calm.of_eq s (t := State.setLevel s _ rising) rfl rfl rfl rfl).toStill
  unfold State.sampleLine State.edge
  repeat' split
  all_goals first
    | exact .rfl
    | exact level
    | exact level.trans (State.fire_still _ _ _ _)
    | exact level.trans (State.putGroup_calm _ _ _).toStill

theorem State.deleteGroup_calm (i : Fin 8) (g : GroupEntry) : s.Calm (s.deleteGroup i g) :=
  (((s.putGroup_calm i _).trans (State.Calm.foldl (fun t j => t.finishWithoutAttempt_calm j .cancelled) g.staged _)).trans
    (State.dropSource_calm _ _ _)).trans (State.freeGroup_calm _ i)

theorem State.groupDeleteRequest_calm (p : PortIx) (body : List Byte) : s.Calm (s.groupDeleteRequest p body).1 := by
  unfold State.groupDeleteRequest
  repeat' split
  all_goals first | exact .rfl | exact s.deleteGroup_calm _ _

/-! ### Watches (07_watches.md) -/

theorem State.watchAddRequest_calm (p : PortIx) (body : List Byte) : s.Calm (s.watchAddRequest p body).1 := by
  unfold State.watchAddRequest State.watchAddFields
  repeat' split
  all_goals first | exact .rfl | exact s.putWatch_calm _ _

theorem State.periodExpired_still (i : Fin 12) : s.Still (s.periodExpired i) := by
  unfold State.periodExpired
  dsimp only
  repeat' split
  all_goals first
    | exact .rfl
    | exact (s.putWatch_calm i _).toStill
    | exact ((s.putWatch_calm i _).trans (State.dequeueWatch_calm _ _ i)).toStill
    | exact (s.putWatch_calm i _).toStill.trans (State.join_still _ _ _)

theorem State.offerWatch_calm (i : Fin 12) : s.Calm (s.offerWatch i) := by
  unfold State.offerWatch
  repeat' split
  all_goals first | exact .rfl | exact s.offer_calm _ _

theorem State.watchOutcome_calm (i : Fin 12) (a : Attempt) (e : AttemptEnd) : s.Calm (s.watchOutcome i a e) := by
  unfold State.watchOutcome
  dsimp only
  repeat' split
  all_goals first
    | exact .rfl
    | exact s.freeWatch_calm i
    | exact s.putWatch_calm i _
    | exact (s.putWatch_calm i _).trans (State.offerWatch_calm _ i)
    | exact ((s.countBus_calm _ _).trans (State.putWatch_calm _ i _)).trans (State.offerWatch_calm _ i)

theorem State.removeWatch_calm (i : Fin 12) (w : Watch) (owner : Option PortIx) : s.Calm (s.removeWatch i w owner) := by
  have discard : s.Calm (s.discardWatchReports i w) := by
    unfold State.discardWatchReports
    dsimp only
    split
    · exact s.putWatch_calm i _
    · exact (s.putWatch_calm i _).trans (State.dropSource_calm _ _ _)
  unfold State.removeWatch
  split
  · exact discard.trans (State.modWatch_calm _ i _)
  · exact (discard.trans (State.dequeueWatch_calm _ _ i)).trans (State.freeWatch_calm _ i)

theorem State.watchRemoveRequest_calm (p : PortIx) (body : List Byte) : s.Calm (s.watchRemoveRequest p body).1 := by
  unfold State.watchRemoveRequest
  repeat' split
  all_goals first | exact .rfl | exact s.removeWatch_calm _ _ _

theorem State.watchResumeRequest_calm (p : PortIx) (body : List Byte) : s.Calm (s.watchResumeRequest p body).1 := by
  unfold State.watchResumeRequest
  repeat' split
  all_goals first | exact .rfl | exact s.putWatch_calm _ _

theorem State.tearWatches_calm (p : PortIx) : s.Calm (s.tearWatches p) := by
  refine .foldl (fun t i => ?_) _ s
  unfold State.tearWatch
  repeat' split
  all_goals first | exact .rfl | exact t.removeWatch_calm i _ none

/-! ### Target units (08_target_service.md) -/

theorem State.setInSlot_calm (b : BusIx) (k : Fin 4) (c : InSlot)
    (h : (s.bus b).target.bounded → c.data.length ≤ Config.targetBytes) : s.Calm (s.setInSlot b k c) :=
  s.modTarget_calm b _ fun ht => Target.bounded_setSlot k (h ht) ht

theorem State.completeWrite_calm (b : BusIx) (followed : Bool) : s.Calm (s.completeWrite b followed) := by
  unfold State.completeWrite
  dsimp only
  split
  next => exact .rfl
  next k _ =>
    split
    · exact ((s.countBus_calm b _).trans (State.setInSlot_calm _ b k _ fun _ => InSlot.empty_bounded)).trans
        (State.modTarget_calm _ b _ id)
    · have done : s.Calm _ := (s.countBus_calm b fun c => { c with targetWrites := satInc c.targetWrites }).trans
        (State.setInSlot_calm _ b k
          { (s.bus b).target.slots[k] with
            state := .complete
            followedByRead := followed
            completionTime := some s.clock } (by
              intro ht
              have ht : (s.bus b).target.bounded := by simpa [State.countBus, State.modBus_bus] using ht
              exact ht.2.2 k))
      split
      · exact done
      · exact done.trans (State.offer_calm _ _ _)

theorem State.endRead_calm (b : BusIx) : s.Calm (s.endRead b) := by
  unfold State.endRead
  dsimp only
  split
  next => exact .rfl
  next r _ =>
    have ended : s.Calm _ := (s.countBus_calm b fun c => { c with targetReads := satInc c.targetReads }).trans
      (State.modTarget_calm _ b (fun x => { x with
          reading := none
          deferred := none
          outbound := (s.bus b).target.deferred.getD (s.bus b).target.outbound
          discard := false }) (by
        intro ht
        obtain ⟨ho, hd, hk⟩ : (s.bus b).target.bounded := by simpa [State.countBus, State.modBus_bus] using ht
        refine ⟨?_, nofun, by simpa [State.countBus, State.modBus_bus] using hk⟩
        cases h : (s.bus b).target.deferred with
        | none => simpa using ho
        | some d => simpa using hd d h))
    repeat' split
    · exact ended
    · exact ended
    · exact ended.trans ((State.modTarget_calm _ b _ id).trans (State.offer_calm _ _ _))

theorem State.cutOff_calm (b : BusIx) : s.Calm (s.cutOff b) := (s.completeWrite_calm b false).trans (State.endRead_calm _ b)

theorem State.judgeAddress_calm (b : BusIx) (dir : Direction) : s.Calm (s.judgeAddress b dir) := by
  unfold State.judgeAddress
  dsimp only
  repeat' split
  all_goals first
    | exact s.countBus_calm b _
    | exact s.setInSlot_calm b _ _ fun _ => InSlot.empty_bounded
    | exact s.modTarget_calm b _ id

theorem State.storeByte_calm (b : BusIx) (x : Byte) : s.Calm (s.storeByte b x) := by
  unfold State.storeByte
  split
  next => exact .rfl
  next k _ =>
    refine s.setInSlot_calm b k _ fun ht => ?_
    split
    next room => simpa using room
    next => exact ht.2.2 k

theorem State.readAcknowledged_calm (b : BusIx) (ack : Bool) : s.Calm (s.readAcknowledged b ack) := by
  unfold State.readAcknowledged State.takeByte
  repeat' split
  all_goals try exact .rfl
  next x rest hb =>
    refine s.modTarget_calm b _ fun ht => ⟨?_, ht.2⟩
    have := ht.1
    rw [hb, List.length_cons] at this
    exact (Nat.le_succ _).trans this
  next => exact (s.countBus_calm b _).trans (State.modTarget_calm _ b _ id)
  next => exact s.modTarget_calm b _ id

theorem Target.markDiscard_bounded {t : Target} (h : t.bounded) : t.markDiscard.bounded := by
  unfold Target.markDiscard
  split <;> exact h

theorem Target.loseOwner_bounded {t : Target} (h : t.bounded) : t.loseOwner.bounded := by
  refine Target.markDiscard_bounded ⟨Nat.zero_le _, nofun, fun k => ?_⟩
  simp only [Fin.getElem_fin, Vector.getElem_map]
  split
  · exact InSlot.empty_bounded
  · exact h.2.2 k

theorem State.loseOwnership_calm (p : PortIx) (b : BusIx) : s.Calm (s.loseOwnership p b) :=
  (s.modTarget_calm b _ Target.loseOwner_bounded).trans (State.modSession_calm _ p _ fun _ => Session.filter_lawfulIf _)

theorem State.targetOwnRequest_calm (p : PortIx) (body : List Byte) : s.Calm (s.targetOwnRequest p body).1 := by
  have own (b : BusIx) : s.Calm (s.modTarget b fun t => { t with owner := some p }) := s.modTarget_calm b _ id
  unfold State.targetOwnRequest
  repeat' split
  all_goals first | exact .rfl | exact own _ | exact s.loseOwnership_calm p _

/-- A load within the bound. -/
theorem State.loadBuffer_calm (b : BusIx) (bytes : List Byte) (h : bytes.length ≤ Config.targetBytes) :
    s.Calm (s.modTarget b fun t => { t with outbound := bytes }) := s.modTarget_calm b _ fun ht => ⟨h, ht.2⟩

theorem State.loadDeferred_calm (b : BusIx) (bytes : List Byte) (h : bytes.length ≤ Config.targetBytes) :
    s.Calm (s.modTarget b fun t => { t with deferred := some bytes }) :=
  s.modTarget_calm b _ fun ht => ⟨ht.1, fun _ hd => Option.some.inj hd ▸ h, ht.2.2⟩

theorem State.loadReplace_calm (b : BusIx) (bytes : List Byte) (h : bytes.length ≤ Config.targetBytes) :
    s.Calm (s.loadReplace b bytes).1 := by
  unfold State.loadReplace
  split
  · exact s.loadDeferred_calm b _ h
  · exact s.loadBuffer_calm b _ h

theorem State.loadAppend_calm (b : BusIx) (bytes : List Byte) : s.Calm (s.loadAppend b bytes).1 := by
  unfold State.loadAppend
  dsimp only
  repeat' split
  · exact .rfl
  next fits => exact s.loadDeferred_calm b _ (by simpa using fits)
  · exact .rfl
  next fits => exact s.loadBuffer_calm b _ (by simpa using fits)

theorem State.targetLoadRequest_calm (p : PortIx) (body : List Byte) : s.Calm (s.targetLoadRequest p body).1 := by
  unfold State.targetLoadRequest
  repeat' split
  all_goals first
    | exact .rfl
    | exact s.loadReplace_calm _ _ (not_lt.mp ‹_›)
    | exact s.loadAppend_calm _ _

end Sys2Proof.Machine
end

section
/-! PROOF. What the rules of the sessions keep: the admissions after an acknowledgement, the retransmit timer, teardown, the
broker reset and the queries (chapters 9, 11 and 12). -/

namespace Sys2Proof.Machine

variable (s : State)

/-! ### Admission from the list (R156) -/

/-- A source that is released leaves the outbox and the admission list alone. -/
theorem State.releaseSource_outbox_admission (p : PortIx) (src : Source) (q : PortIx) :
    ((s.releaseSource p src).session q).outbox = (s.session q).outbox ∧
      ((s.releaseSource p src).session q).admission = (s.session q).admission := by
  unfold State.releaseSource
  cases src with
  | busEvent b =>
    dsimp only
    rw [State.modSession_session]
    split
    next h => exact ⟨h ▸ rfl, h ▸ rfl⟩
    next => exact ⟨rfl, rfl⟩
  | record | watch | inbound | tally => simp
  | lease =>
    dsimp only
    repeat' split
    all_goals simp
  | group =>
    dsimp only
    split <;> simp

/-- One admission at most adds one outbox entry, and leaves the admission list alone. -/
theorem State.admitOne_session (p : PortIx) (src : Source) :
    ((s.admitOne p src).session p).admission = (s.session p).admission ∧
      (s.reportOf p src = none ∧ s.admitOne p src = s ∨
        ((s.admitOne p src).session p).outbox.length = (s.session p).outbox.length + 1) := by
  obtain ⟨hn, h⟩ | ⟨r, -, h⟩ := s.admitOne_cases p src
  · exact ⟨by rw [h], .inl ⟨hn, h⟩⟩
  · obtain ⟨ho, ha⟩ := (s.modSession p fun x => x.push r).releaseSource_outbox_admission p src p
    rw [h, ho, ha]
    simp [State.modSession_session, Session.push]

theorem State.admitHead_calm (p : PortIx) (room : (s.session p).outbox.length < Config.outboxRoom) :
    s.Calm (s.admitHead p) := by
  unfold State.admitHead
  split
  next => exact .rfl
  next src rest hl =>
    have admitted := State.admitOne_calm (p := p) src room
    obtain ⟨ha, -⟩ := s.admitOne_session p src
    dsimp only
    split
    · exact admitted
    · refine admitted.trans (State.modSession_calm _ p _ fun full h => ?_)
      obtain ⟨bound, consecutive, once, waits⟩ := h
      rw [ha, hl] at once waits
      exact ⟨bound, consecutive, once.of_cons, fun hf _ => waits hf (List.cons_ne_nil _ _)⟩

theorem State.admitRounds_calm (n : Nat) (p : PortIx) : s.Calm (s.admitRounds n p) := by
  induction n generalizing s with
  | zero => exact .rfl
  | succ n ih =>
    simp only [State.admitRounds]
    split
    next more => exact (s.admitHead_calm p (by simp_all [Session.hasRoom])).trans (ih _)
    next => exact .rfl

/-- What is left to do for the admission list of port `p`. -/
def State.admissionsLeft (s : State) (p : PortIx) : Nat :=
  (Config.outboxRoom - (s.session p).outbox.length) + (s.session p).admission.length

theorem State.admitHead_admissionsLeft (p : PortIx) (room : (s.session p).outbox.length < Config.outboxRoom)
    (waiting : (s.session p).admission ≠ []) : (s.admitHead p).admissionsLeft p < s.admissionsLeft p := by
  unfold State.admitHead State.admissionsLeft
  split
  next hl => exact absurd hl waiting
  next src rest hl =>
    obtain ⟨ha, ⟨hn, hs⟩ | ho⟩ := s.admitOne_session p src
    · simp only [hs, hn, Option.isSome_none, Bool.false_eq_true, if_false, State.modSession_session, if_true, hl,
        List.length_cons]
      omega
    · dsimp only
      split
      · rw [ha, ho]
        omega
      · simp only [State.modSession_session, if_true, ho, hl, List.length_cons]
        omega

/-- A session in which no source waits while there is room needs no exemption. -/
theorem State.lawfulBut_of_full {s : State} {X : PortIx → Prop} {p : PortIx} (h : s.lawfulBut fun q => X q ∨ q = p)
    (hp : (s.session p).admission ≠ [] → (s.session p).outbox.length = Config.outboxRoom) : s.lawfulBut X := by
  intro q
  obtain ⟨bound, consecutive, once, waits⟩ := h q
  refine ⟨bound, consecutive, once, fun hf hne => ?_⟩
  by_cases hq : q = p
  · exact hq ▸ hp (hq ▸ hne)
  · exact waits (by simp [hf, hq]) hne

/-- Enough rounds of admission leave a source waiting only behind a full outbox. -/
theorem State.admitRounds_lawful {X : PortIx → Prop} (n : Nat) (p : PortIx) (hn : s.admissionsLeft p ≤ n)
    (h : s.lawfulBut fun q => X q ∨ q = p) : (s.admitRounds n p).lawfulBut X := by
  induction n generalizing s with
  | zero =>
    simp only [State.admissionsLeft, Nat.le_zero, Nat.add_eq_zero_iff, List.length_eq_zero_iff] at hn
    exact State.lawfulBut_of_full h fun hne => absurd hn.2 hne
  | succ n ih =>
    simp only [State.admitRounds]
    split
    next more =>
      obtain ⟨room, waiting⟩ : (s.session p).outbox.length < Config.outboxRoom ∧ (s.session p).admission ≠ [] := by
        simpa [Session.hasRoom] using more
      have := s.admitHead_admissionsLeft p room waiting
      exact ih _ (by omega) ((s.admitHead_calm p room).sessions _ h)
    next enough =>
      refine State.lawfulBut_of_full h fun hne => le_antisymm (h p).1 (not_lt.mp fun room => enough ?_)
      simpa [Session.hasRoom, hne] using room

theorem State.admitFromList_calm (p : PortIx) : s.Calm (s.admitFromList p) := s.admitRounds_calm _ p

theorem State.admitFromList_lawful {X : PortIx → Prop} (p : PortIx) (h : s.lawfulBut fun q => X q ∨ q = p) :
    (s.admitFromList p).lawfulBut X :=
  s.admitRounds_lawful _ p (by simp [State.admissionsLeft]) h

/-! ### Acknowledgement, rewind and the retransmit timer (R158 to R160) -/

theorem ackOutbox_suffix {n : Byte} {l rest : List OutboxEntry} (h : ackOutbox n l = some rest) : rest <:+ l := by
  induction l with
  | nil => cases h
  | cons e l ih =>
    simp only [ackOutbox] at h
    split at h
    · split at h
      · cases h
        exact List.suffix_cons e _
      · cases h
    · exact (ih h).trans (List.suffix_cons e _)

theorem consecutiveTo_suffix {n : Byte} {l rest : List OutboxEntry} (hs : rest <:+ l) (h : consecutiveTo n l = true) :
    consecutiveTo n rest = true := by
  induction l with
  | nil => exact List.suffix_nil.mp hs ▸ h
  | cons e l ih =>
    obtain rfl | hs := List.suffix_cons_iff.mp hs
    · exact h
    · simp only [consecutiveTo, Bool.and_eq_true] at h
      exact ih hs h.2

theorem State.ackNotices_calm {t : State} (p : PortIx) (n : Byte) (h : s.ackNotices p n = some t) : s.Calm t := by
  obtain ⟨rest, hr, rfl⟩ := Option.map_eq_some_iff.mp h
  have hs := ackOutbox_suffix hr
  have admitted := State.admitFromList_calm (s.modSession p fun x =>
    { x with outbox := rest, timer := timerAfterAck { x with outbox := rest } s.clock }) p
  exact { admitted with
    sessions := fun X hX => State.admitFromList_lawful _ p fun q => by
      rw [State.modSession_session]
      split
      next hq =>
        subst hq
        obtain ⟨bound, consecutive, once, -⟩ := hX q
        exact ⟨hs.length_le.trans bound, consecutiveTo_suffix hs consecutive, once, fun hf => absurd (.inr rfl) hf⟩
      next hq =>
        obtain ⟨bound, consecutive, once, waits⟩ := hX q
        exact ⟨bound, consecutive, once, fun hf => waits fun hx => hf (.inl hx)⟩ }

theorem State.noticeAck_keeps (p : PortIx) (body : List Byte) : s.Keeps (s.noticeAck p body) := by
  unfold State.noticeAck
  dsimp only
  cases h : (if s.isOpen p then (parseByte body).bind (s.ackNotices p) else none) with
  | none =>
    rw [Option.getD_none]
    exact s.countPort_keeps p _
  | some t =>
    split at h
    · obtain ⟨n, -, ht⟩ := Option.bind_eq_some_iff.mp h
      exact (s.ackNotices_calm p n ht).toKeeps
    · cases h

/-- The sequences say whether an outbox is consecutive. -/
theorem consecutiveTo_congr {n : Byte} {l m : List OutboxEntry} (h : m.map (·.seq) = l.map (·.seq)) :
    consecutiveTo n m = consecutiveTo n l := by
  induction l generalizing m with
  | nil => simp_all [consecutiveTo]
  | cons e l ih =>
    cases m with
    | nil => simp at h
    | cons d m =>
      simp only [List.map_cons, List.cons.injEq] at h
      have hl : m.length = l.length := by simpa using congrArg List.length h.2
      simp only [consecutiveTo, h.1, hl, ih h.2]

/-- Marks of an outbox do not touch the laws of the session. -/
theorem Session.marks_lawfulIf {x : Session} {full : Prop} {l : List OutboxEntry} (t : Option Clock)
    (hl : l.map (·.seq) = x.outbox.map (·.seq)) (h : x.lawfulIf full) :
    ({ x with outbox := l, timer := t } : Session).lawfulIf full := by
  have length : l.length = x.outbox.length := by simpa using congrArg List.length hl
  obtain ⟨bound, consecutive, once, waits⟩ := h
  exact ⟨length.trans_le bound, (consecutiveTo_congr hl).trans consecutive, once, fun hf hne =>
    length.trans (waits hf hne)⟩

theorem State.rewind_calm (p : PortIx) : s.Calm (s.modSession p Session.rewind) :=
  s.modSession_calm p _ fun _ => Session.marks_lawfulIf none (by simp)

theorem State.rewindRequest_calm (p : PortIx) (body : List Byte) : s.Calm (s.rewindRequest p body).1 := by
  unfold State.rewindRequest
  split
  · exact .rfl
  · exact s.rewind_calm p

theorem State.timerExpired_calm (p : PortIx) : s.Calm (s.timerExpired p) := by
  unfold State.timerExpired
  split
  · exact s.rewind_calm p
  · exact .rfl

theorem takeUnsent_seqs {l out : List OutboxEntry} {e : OutboxEntry} (h : takeUnsent l = some (e, out)) :
    out.map (·.seq) = l.map (·.seq) := by
  induction l generalizing out with
  | nil => cases h
  | cons d l ih =>
    simp only [takeUnsent] at h
    split at h
    · obtain ⟨x, hx, hp⟩ := Option.map_eq_some_iff.mp h
      cases hp
      simp [ih hx]
    · cases h
      rfl

/-! ### OPEN, teardown and the broker reset (R146, R148, R151) -/

/-- A session with an empty outbox and an empty admission list keeps the laws. -/
theorem Session.empty_lawfulIf {x : Session} (full : Prop) (ho : x.outbox = []) (ha : x.admission = []) :
    x.lawfulIf full := by
  simp [Session.lawfulIf, ho, ha, consecutiveTo]

theorem State.openRequest_calm (p : PortIx) (body : List Byte) : s.Calm (s.openRequest p body).1 := by
  unfold State.openRequest
  repeat' split
  all_goals try exact .rfl
  dsimp only
  refine s.modSession_calm p _ fun full _ => ?_
  exact Session.empty_lawfulIf full rfl rfl

theorem State.tearRecord_still (p : PortIx) (i : Fin 64) : s.Still (s.tearRecord p i) := by
  unfold State.tearRecord
  repeat' split
  · exact .rfl
  · exact .rfl
  · exact s.abortRecord_still i
  · exact ((s.unstage_calm i).trans (State.freeRecord_calm _ i)).toStill
  · exact ((s.dequeueRecord_calm _ i).trans (State.freeRecord_calm _ i)).toStill
  · exact (s.freeRecord_calm i).toStill

theorem State.tearTargets_calm (p : PortIx) : s.Calm (s.tearTargets p) :=
  .foldl (fun t b => by
    split
    · exact t.loseOwnership_calm p b
    · exact .rfl) _ s

theorem State.tearSession_calm (p : PortIx) : s.Calm (s.tearSession p) := by
  unfold State.tearSession
  dsimp only
  refine s.modSession_calm p _ fun full _ => ?_
  exact Session.empty_lawfulIf full rfl rfl

theorem State.tearOwned_still (p : PortIx) : s.Still (s.tearOwned p) :=
  (State.Still.foldl (fun t i => t.tearRecord_still p i) _ s).trans
    ((((State.freeLeasesOf_calm _ p).trans (State.tearWatches_calm _ p)).trans
      (State.freeGroupsOf_calm _ p)).trans ((State.tearTargets_calm _ p).trans (State.tearSession_calm _ p))).toStill

theorem State.reexamineAfter_calm (before : State) (p : PortIx) (b : BusIx) : s.Calm (before.reexamineAfter p s b) := by
  unfold State.reexamineAfter
  split
  · exact s.reexamine_calm b
  · exact .rfl

theorem State.wakeAfter_still (before : State) (p : PortIx) (b : BusIx) : s.Still (before.wakeAfter p s b) := by
  unfold State.wakeAfter
  split
  · exact s.wake_still b
  · exact .rfl

theorem State.teardown_still (p : PortIx) : s.Still (s.teardown p) :=
  ((s.tearOwned_still p).trans (State.Calm.foldl (fun t b => t.reexamineAfter_calm s p b) _ _).toStill).trans
    (State.Still.foldl (fun t b => t.wakeAfter_still s p b) _ _)

theorem State.closeRequest_still (p : PortIx) (body : List Byte) : s.Still (s.closeRequest p body).1 := by
  unfold State.closeRequest
  split
  · exact .rfl
  · exact s.teardown_still p

theorem State.tearIfOpen_still (p : PortIx) : s.Still (s.tearIfOpen p) := by
  unfold State.tearIfOpen
  split
  · exact s.tearOwned_still p
  · exact .rfl

theorem State.abortEverywhere_still : s.Still s.abortEverywhere :=
  .foldl (fun t b => (t.abortAttempt_still b).trans (State.modTarget_calm _ b _ Target.markDiscard_bounded).toStill) _ s

@[simp] theorem State.clearCounters_bus (b : BusIx) :
    s.clearCounters.bus b = { s.bus b with counters := BusCounters.zero } := by
  simp [State.clearCounters, State.bus]

@[simp] theorem State.clearCounters_port (p : PortIx) :
    s.clearCounters.port p = { s.port p with counters := PortCounters.zero } := by
  simp [State.clearCounters, State.port]

theorem State.clearCounters_keeps : s.Keeps s.clearCounters where
  sessions _ := id
  leases := id
  buses b := by simp
  buffers h := ⟨fun p => by simpa using h.1 p, fun b => by simpa using h.2 b⟩
  links p := by simp [Port.link]
  configs b := by simp

theorem State.resetBrokerRequest_keeps (p : PortIx) (body : List Byte) : s.Keeps (s.resetBrokerRequest p body).1 := by
  unfold State.resetBrokerRequest
  repeat' split
  · exact .rfl
  · exact .rfl
  · exact (((((s.tearIfOpen_still 0).trans (State.tearIfOpen_still _ 1)).trans (State.tearIfOpen_still _ 2)).trans
      (State.abortEverywhere_still _)).toKeeps).trans (State.clearCounters_keeps _)

/-! ### QUERY (R178) -/

/-- What a QUERY may do to the state: nothing, spend free values, or clear a counter set. -/
theorem State.queryRequest_cases (p : PortIx) (body : List Byte) :
    (s.queryRequest p body).1 = s ∨ (s.queryRequest p body).1 = s.spendFree ∨
      (∃ b, (s.queryRequest p body).1 = s.countBus b fun _ => BusCounters.zero) ∨
      ∃ n, (s.queryRequest p body).1 = s.countPort n fun _ => PortCounters.zero := by
  unfold State.queryRequest State.querySubject State.queryTransaction State.queryCounters State.onBus
    State.queryBusCounters State.queryPortCounters
  repeat' split
  all_goals first
    | exact .inl rfl
    | exact .inr (.inl rfl)
    | exact .inr (.inr (.inl ⟨_, rfl⟩))
    | exact .inr (.inr (.inr ⟨_, rfl⟩))

theorem State.queryRequest_keeps (p : PortIx) (body : List Byte) : s.Keeps (s.queryRequest p body).1 := by
  obtain h | h | ⟨b, h⟩ | ⟨n, h⟩ := s.queryRequest_cases p body <;> rw [h]
  · exact .rfl
  · exact s.spendFree_calm.toKeeps
  · exact (s.countBus_calm b _).toKeeps
  · exact s.countPort_keeps n _

end Sys2Proof.Machine
end

section
/-! PROOF. What the rules of the line monitor, the engine, arbitration and recovery keep (chapters 3 and 4). -/

namespace Sys2Proof.Machine

variable (s : State)

@[simp] theorem State.modBus_bus_self (b : BusIx) (f : Bus → Bus) : (s.modBus b f).bus b = f (s.bus b) := by
  simp [State.modBus_bus]

@[simp] theorem State.setEngine_bus_self (b : BusIx) (e : Engine) :
    (s.setEngine b e).bus b = { s.bus b with engine := e } := s.modBus_bus_self b _

@[simp] theorem State.setLine_bus_self (b : BusIx) (l : LineState) : (s.setLine b l).bus b = { s.bus b with line := l } :=
  s.modBus_bus_self b _

@[simp] theorem State.setFollowing_bus_self (b : BusIx) (f : Bool) :
    (s.setFollowing b f).bus b = { s.bus b with following := f } := s.modBus_bus_self b _

@[simp] theorem State.countBus_bus_self (b : BusIx) (f : BusCounters → BusCounters) :
    (s.countBus b f).bus b = { s.bus b with counters := f (s.bus b).counters } := s.modBus_bus_self b _

/-! ### The laws of a bus under the engine's moves -/

theorem Bus.coherent.running {x : Bus} (h : x.coherent) (he : x.config.enabled = true) :
    x.engine ≠ .disabled ∧ x.line ≠ .off :=
  ⟨h.2.1 he, fun hl => h.2.1 he (h.1.mp hl)⟩

/-- A bus, when it keeps its law, is enabled. -/
def Bus.runs (x : Bus) : Prop := x.coherent → x.config.enabled = true

theorem Bus.runs_of_enabled {x : Bus} (h : x.config.enabled = true) : x.runs := fun _ => h

/-- So is one whose engine is neither DISABLED nor runs an attempt. -/
theorem Bus.runs_of_engine {x : Bus} (hd : x.engine ≠ .disabled) (hf : x.engine.finishing = false) : x.runs := fun h =>
  h.enabled hd hf

theorem Bus.runs_of_core {x y : Bus} (h : y.core = x.core) (hx : x.runs) : y.runs := fun hy => by
  have hc : y.config = x.config := congrArg Prod.fst h
  exact hc ▸ hx (Bus.coherent_of_core h.symm hy)

variable {s} in
theorem State.Calm.runs {t : State} (h : s.Calm t) {b : BusIx} (hs : (s.bus b).runs) : (t.bus b).runs :=
  Bus.runs_of_core (h.core b) hs

/-- A move of an enabled bus. -/
theorem State.run_keeps {s : State} {b : BusIx} (f : Bus → Bus) (he : (s.bus b).runs)
    (hc : (f (s.bus b)).config = (s.bus b).config) (ht : (f (s.bus b)).target = (s.bus b).target)
    (hl : (s.bus b).line ≠ .off → (f (s.bus b)).line ≠ .off) (hd : (f (s.bus b)).engine ≠ .disabled)
    (hr : (f (s.bus b)).engine = .reserved true → (f (s.bus b)).line = .free)
    (hf : (f (s.bus b)).engine = .fault → (f (s.bus b)).faultReason.isSome = true)
    (hp : (s.bus b).coherent → (f (s.bus b)).engine.pulsesBounded = true) : s.Keeps (s.modBus b f) :=
  s.modBus_keeps b f hc
    (fun h => Bus.coherent_of_enabled (hc ▸ he h) (hl (h.running (he h)).2) hd hr hf (hp h)) (by rw [ht]; exact id)

/-- The monitor moves, but not to or from OFF. -/
theorem State.setLine_keeps {s : State} {b : BusIx} {l : LineState} (hd : (s.bus b).coherent → (s.bus b).engine ≠ .disabled)
    (hl : l ≠ .off) (hr : (s.bus b).coherent → (s.bus b).engine = .reserved true → l = .free) : s.Keeps (s.setLine b l) :=
  s.modBus_keeps b _ rfl (fun h => ⟨iff_of_false hl (hd h), h.2.1, h.2.2.1, hr h, h.2.2.2.2⟩) id

/-- An attempt moves on. -/
theorem State.setAttempt_still {s : State} {b : BusIx} {a : Attempt} (a' : Attempt)
    (h : (s.bus b).engine = .active (some a)) (ha : a'.abortPending = a.abortPending)
    (hu : a'.underDisable = a.underDisable) : s.Still (s.setEngine b (.active (some a'))) := by
  refine s.modBus_still b _ rfl rfl (fun hc => ?_) id
  simpa [Bus.coherent, h, Engine.finishing, ha, hu, Engine.pulsesBounded] using hc

/-! ### Entering an engine state -/

theorem State.enterDisabled_keeps {s : State} {b : BusIx} (hd : (s.bus b).config.enabled = false) :
    s.Keeps (s.enterDisabled b) :=
  (s.modBus_keeps b _ rfl (fun _ => Bus.coherent_of_disabled hd rfl rfl) id).trans
    (State.offerBusEvent_calm _ b _).toKeeps

theorem State.setIdle_keeps {s : State} {b : BusIx} (he : (s.bus b).runs) : s.Keeps (s.setEngine b .idle) :=
  State.run_keeps _ he rfl rfl id (by simp) (by simp) (by simp) fun _ => rfl

theorem State.enterIdle_keeps {s : State} {b : BusIx} (he : (s.bus b).runs) : s.Keeps (s.enterIdle b) :=
  (State.setIdle_keeps he).trans (State.wake_still _ b).toKeeps

theorem State.enterRecovery_keeps {s : State} {b : BusIx} (f : Bool) (atEntry : Option Bool) (he : (s.bus b).runs) :
    s.Keeps (s.enterRecovery b f atEntry) := by
  have count := s.countBus_calm b fun c => { c with recoveries := satInc c.recoveries }
  refine count.toKeeps.trans (State.run_keeps _ (count.runs he) rfl rfl id (by simp) (by simp) (by simp) fun _ => ?_)
  obtain _ | _ | _ := atEntry <;> rfl

theorem State.leaveAttempt_keeps {s : State} {b : BusIx} {next : State → State}
    (h : (s.bus b).runs → s.Keeps (next s)) : s.Keeps (s.leaveAttempt b next) := by
  unfold State.leaveAttempt
  split
  next he => exact h (Bus.runs_of_enabled he)
  next hd => exact State.enterDisabled_keeps (by simpa [State.enabled] using hd)

/-! ### The end of an attempt -/

theorem State.handOver_calm (a : Attempt) (e : AttemptEnd) : s.Calm (s.handOver a e) := by
  unfold State.handOver
  split
  · exact s.recordOutcome_calm _ a e
  · exact s.watchOutcome_calm _ a e

theorem State.countCompleted_calm (b : BusIx) (why : StopCause) : s.Calm (s.countCompleted b why) := by
  unfold State.countCompleted
  split
  · exact s.countBus_calm b _
  · exact .rfl

theorem State.endAtStop_keeps (b : BusIx) (a : Attempt) (why : StopCause) : s.Keeps (s.endAtStop b a why) := by
  refine ((s.countCompleted_calm b why).trans (State.handOver_calm _ a _)).toKeeps.trans
    (State.leaveAttempt_keeps fun he => ?_)
  split
  · have reenter : State.Keeps _ (State.modBus _ b fun x => { x with line := .unknown, engine := .idle }) :=
      State.run_keeps _ he rfl rfl (fun _ => by simp) (by simp) (by simp) (by simp) fun _ => rfl
    rw [State.enterIdle, State.setLine, State.setEngine, State.modBus_modBus]
    exact reenter.trans (State.wake_still _ b).toKeeps
  · exact State.enterIdle_keeps he

theorem State.lose_keeps (b : BusIx) (a : Attempt) (e : AttemptEnd) (inAddress : Bool) :
    s.Keeps (s.lose b a e inAddress) := by
  refine ((s.countBus_calm b _).trans (State.handOver_calm _ a e)).toKeeps.trans (State.leaveAttempt_keeps fun he => ?_)
  split
  · have tail : State.Keeps _ (State.setEngine _ b (.active none)) :=
      State.run_keeps _ he rfl rfl id (by simp) (by simp) (by simp) fun _ => rfl
    exact tail.trans (State.setFollowing_calm _ b _).toKeeps
  · exact State.enterIdle_keeps he

theorem State.busError_keeps (b : BusIx) (a : Attempt) : s.Keeps (s.busError b a) :=
  ((s.countBus_calm b _).trans (State.handOver_calm _ a _)).toKeeps.trans
    (State.leaveAttempt_keeps fun he => State.enterIdle_keeps he)

theorem State.stretchEnd_keeps (b : BusIx) (a : Attempt) (atEntry : Option Bool) : s.Keeps (s.stretchEnd b a atEntry) :=
  ((s.countBus_calm b _).trans (State.handOver_calm _ a _)).toKeeps.trans
    (State.leaveAttempt_keeps fun he => State.enterRecovery_keeps false atEntry he)

/-! ### The attempt on the wire and the selection -/

theorem Attempt.atAddress_marks (a : Attempt) :
    a.atAddress.abortPending = a.abortPending ∧ a.atAddress.underDisable = a.underDisable := by
  unfold Attempt.atAddress
  split <;> exact ⟨rfl, rfl⟩

theorem State.addressAck_still (b : BusIx) (ack : Bool) : s.Still (s.addressAck b ack) := by
  unfold State.addressAck
  split
  next a h =>
    obtain ⟨ha, hu⟩ := a.atAddress_marks
    dsimp only
    repeat' split
    · exact .rfl
    · exact State.setAttempt_still _ h ha hu
    · exact (s.countBus_calm b _).toStill.trans (State.setAttempt_still _ (by simpa using h) ha hu)
    · exact .rfl
  next => exact .rfl

theorem State.writeAck_still (b : BusIx) (ack : Bool) : s.Still (s.writeAck b ack) := by
  unfold State.writeAck
  split
  next a h =>
    repeat' split
    · exact .rfl
    · exact State.setAttempt_still _ h rfl rfl
    · exact (s.countBus_calm b _).toStill.trans (State.setAttempt_still (a := a) _ (by simpa using h) rfl rfl)
    · exact .rfl
  next => exact .rfl

theorem State.readByte_still (b : BusIx) (x : Byte) : s.Still (s.readByte b x) := by
  unfold State.readByte
  split
  next a h =>
    repeat' split
    · exact .rfl
    · exact State.setAttempt_still _ h rfl rfl
    · exact .rfl
  next => exact .rfl

theorem State.startAttempt_keeps {s : State} {b : BusIx} (it : Item) (segments : List Segment) (he : (s.bus b).runs) :
    s.Keeps (s.startAttempt b it segments) :=
  State.run_keeps _ he rfl rfl (fun _ => by simp) (by simp) (by simp) (by simp) fun _ => rfl

theorem State.select_keeps {s : State} {b : BusIx} (it : QItem) (he : (s.bus b).runs) : s.Keeps (s.select b it) := by
  unfold State.select
  cases it with
  | record i =>
    dsimp only
    split
    next => exact .rfl
    next r _ =>
      have taken := (s.dequeueRecord_calm b i).trans (State.putRecord_calm _ i
        { r with state := .active, notBefore := none, spacingOver := false, attempts := r.attempts + 1 })
      exact taken.toKeeps.trans (State.startAttempt_keeps _ _ (taken.runs he))
  | watchRead w _ _ _ =>
    dsimp only
    split
    next => exact .rfl
    next x _ =>
      have taken := (s.dequeueWatch_calm b w).trans (State.putWatch_calm _ w { x with read := .active })
      exact taken.toKeeps.trans (State.startAttempt_keeps _ _ (taken.runs he))

theorem State.waitEnd_keeps (b : BusIx) : s.Keeps (s.waitEnd b) := by
  unfold State.waitEnd
  split
  next h =>
    have he : (s.bus b).runs := Bus.runs_of_engine (by simp [h]) (by simp [h, Engine.finishing])
    split
    · exact State.setIdle_keeps he
    · exact State.select_keeps _ he
  next => exact .rfl

/-! ### Recovery and FAULT -/

theorem State.clearReason_keeps {s : State} {b : BusIx} (h : (s.bus b).engine ≠ .fault) :
    s.Keeps (s.modBus b fun x => { x with faultReason := none }) :=
  s.modBus_keeps b _ rfl (fun hc => ⟨hc.1, hc.2.1, hc.2.2.1, hc.2.2.2.1, fun hf => absurd hf h, hc.2.2.2.2.2⟩) id

/-- The engine leaves a recovery or a FAULT for IDLE. -/
theorem State.idleNoReason_keeps {s : State} {b : BusIx} (he : (s.bus b).runs) :
    s.Keeps ((s.setEngine b .idle).modBus b fun x => { x with faultReason := none }) :=
  (State.setIdle_keeps he).trans (State.clearReason_keeps (by simp))

theorem State.recoveryEnds_keeps {s : State} {b : BusIx} (r : Recovery) (he : (s.bus b).runs) :
    s.Keeps (s.recoveryEnds b r) := by
  unfold State.recoveryEnds
  dsimp only
  refine (State.idleNoReason_keeps he).trans (State.Keeps.trans ?_ (State.wake_still _ b).toKeeps)
  repeat' split
  · exact (State.offerBusEvent_calm _ b _).toKeeps
  · exact (State.offerBusEvent_calm _ b _).toKeeps
  · exact .rfl

theorem State.leaveFault_keeps {s : State} {b : BusIx} (he : (s.bus b).runs) : s.Keeps (s.leaveFault b) :=
  ((State.idleNoReason_keeps he).trans (State.offerBusEvent_calm _ b _).toKeeps).trans (State.wake_still _ b).toKeeps

theorem State.recoveryFault_keeps {s : State} {b : BusIx} (why : FaultReason) (he : (s.bus b).runs) :
    s.Keeps (s.recoveryFault b why) := by
  have count := s.countBus_calm b fun c => { c with faults := satInc c.faults }
  exact (count.toKeeps.trans (State.run_keeps _ (count.runs he) rfl rfl id (by simp) (by simp) (fun _ => rfl)
    fun _ => rfl)).trans (State.offerBusEvent_calm _ b _).toKeeps

/-- A bus in RECOVERY is enabled. -/
theorem Bus.runs_of_recovery {x : Bus} {r : Recovery} (h : x.engine = .recovery r) : x.runs :=
  Bus.runs_of_engine (by simp [h]) (by simp [h, Engine.finishing])

/-- A recovery moves on to a step that its pulses allow. -/
theorem State.setRecovery_keeps {s : State} {b : BusIx} {r : Recovery} (r' : Recovery) (h : (s.bus b).engine = .recovery r)
    (hp : (Engine.recovery r).pulsesBounded = true → (Engine.recovery r').pulsesBounded = true) :
    s.Keeps (s.setEngine b (.recovery r')) :=
  State.run_keeps _ (Bus.runs_of_recovery h) rfl rfl id (by simp) (by simp) (by simp)
    fun hc => hp (h ▸ hc.2.2.2.2.2)

theorem State.recoveryRise_keeps (b : BusIx) (datHigh : Bool) : s.Keeps (s.recoveryRise b datHigh) := by
  unfold State.recoveryRise
  split
  next r h =>
    repeat' split
    · exact .rfl
    · exact State.setRecovery_keeps _ h (by simp_all [Engine.pulsesBounded])
    · exact State.recoveryEnds_keeps r (Bus.runs_of_recovery h)
    · exact State.setRecovery_keeps _ h (by simp_all [Engine.pulsesBounded])
  next => exact .rfl

theorem State.recoveryPulse_keeps (b : BusIx) (datHigh : Bool) : s.Keeps (s.recoveryPulse b datHigh) := by
  unfold State.recoveryPulse
  split
  next r h =>
    repeat' split
    · exact .rfl
    · exact State.setRecovery_keeps _ h (by simp_all [Engine.pulsesBounded]; omega)
    · exact State.recoveryFault_keeps _ (Bus.runs_of_recovery h)
    · exact State.setRecovery_keeps _ h (by simp_all [Engine.pulsesBounded])
  next => exact .rfl

theorem State.recoveryTimeout_keeps (b : BusIx) : s.Keeps (s.recoveryTimeout b) := by
  unfold State.recoveryTimeout
  split
  next r h => exact State.recoveryFault_keeps _ (Bus.runs_of_recovery h)
  next => exact .rfl

theorem State.recoveryStopHeld_keeps (b : BusIx) : s.Keeps (s.recoveryStopHeld b) := by
  unfold State.recoveryStopHeld
  split
  next r h =>
    split
    · exact State.recoveryFault_keeps _ (Bus.runs_of_recovery h)
    · exact .rfl
  next => exact .rfl

theorem State.endIfQuiet_keeps (b : BusIx) : s.Keeps (s.endIfQuiet b) := by
  unfold State.endIfQuiet
  split
  · exact s.recoveryRise_keeps b true
  · exact .rfl

theorem State.busRecoverRequest_keeps (body : List Byte) : s.Keeps (s.busRecoverRequest body).1 := by
  unfold State.busRecoverRequest
  repeat' split
  all_goals first
    | exact .rfl
    | exact (State.enterRecovery_keeps _ _ (Bus.runs_of_enabled (by simp_all [State.enabled]))).trans
        (State.endIfQuiet_keeps _ _)

theorem State.clockAtEntry_keeps (before : State) (body : RecoverBody) : s.Keeps (s.clockAtEntry before body) := by
  unfold State.clockAtEntry
  repeat' split
  all_goals first | exact .rfl | exact s.recoveryRise_keeps _ _

end Sys2Proof.Machine
end

section
/-! PROOF. What starts and stops, the monitor's events, arbitration, foreign addresses and BUS_CONFIGURE keep (chapters 3, 4, 8
and 11). -/

namespace Sys2Proof.Machine

variable (s : State)

/-! ### Starts and stops -/

/-- The monitor sees a start or a stop on a bus whose engine is in no bus-free wait. -/
theorem State.seen_keeps {s : State} {b : BusIx} (l : LineState) (hl : l ≠ .off) (hd : (s.bus b).engine ≠ .disabled)
    (hr : (s.bus b).engine = .reserved true → l = .free) : s.Keeps (s.setLine b l) :=
  State.setLine_keeps (fun _ => hd) hl fun _ => hr

theorem State.startInAttempt_keeps (b : BusIx) (a : Attempt) (place : Place) (h : (s.bus b).engine = .active (some a)) :
    s.Keeps (s.startInAttempt b a place) := by
  have start : s.Keeps ((s.setLine b .busy).setFollowing b true) :=
    (State.seen_keeps .busy (by simp) (by simp [h]) (by simp [h])).trans (State.setFollowing_calm _ b true).toKeeps
  unfold State.startInAttempt
  dsimp only
  split
  · exact start.trans (State.lose_keeps _ b _ _ _)
  · exact start.trans (State.lose_keeps _ b _ _ _)
  · exact .rfl
  · exact .rfl
  · split
    · exact start.trans (State.lose_keeps _ b _ _ _)
    · exact start.trans (State.busError_keeps _ b _)
    · exact .rfl

theorem State.stopInAttempt_keeps (b : BusIx) (a : Attempt) (place : Place) (h : (s.bus b).engine = .active (some a)) :
    s.Keeps (s.stopInAttempt b a place) := by
  have stop : s.Keeps (s.setLine b .free) := State.seen_keeps .free (by simp) (by simp [h]) (by simp)
  unfold State.stopInAttempt
  dsimp only
  split
  · exact stop.trans (State.endAtStop_keeps _ b _ _)
  · exact stop.trans (State.lose_keeps _ b _ _ _)
  · exact .rfl
  · exact .rfl
  · split
    · exact stop.trans (State.lose_keeps _ b _ _ _)
    · exact stop.trans (State.busError_keeps _ b _)
    · exact .rfl

theorem State.countCutOff_calm (b : BusIx) (place : Place) : s.Calm (s.countCutOff b place) := by
  unfold State.countCutOff
  split
  · exact s.countBus_calm b _
  · exact .rfl

theorem State.startInTarget_calm (b : BusIx) (place : Place) : s.Calm (s.startInTarget b place) := by
  have counted := s.countCutOff_calm b place
  unfold State.startInTarget
  dsimp only
  split
  · exact (counted.trans (State.cutOff_calm _ b)).trans (State.setFollowing_calm _ b true)
  · exact (counted.trans (State.endRead_calm _ b)).trans (State.setFollowing_calm _ b true)

theorem State.stopInTarget_keeps {s : State} {b : BusIx} (place : Place) (he : (s.bus b).runs) :
    s.Keeps (s.stopInTarget b place) := by
  have cut := (s.countCutOff_calm b place).trans (State.cutOff_calm _ b)
  unfold State.stopInTarget
  dsimp only
  split
  · exact cut.toKeeps.trans (State.leaveFault_keeps (cut.runs he))
  · exact cut.toKeeps.trans (State.enterIdle_keeps (cut.runs he))

theorem State.abandonWait_reserved {s : State} {b : BusIx} {w : Bool} (h : (s.bus b).engine = .reserved w) :
    s.abandonWait b = s.setEngine b (.reserved false) := by
  simp only [State.abandonWait, h]

theorem State.reportFree_reserved {s : State} {b : BusIx} {w : Bool} (h : (s.bus b).engine = .reserved w) :
    s.reportFree b = s.setEngine b (.reserved true) := by
  simp only [State.reportFree, h]

/-- A bus with a reservation is enabled. -/
theorem Bus.runs_of_reserved {x : Bus} {w : Bool} (h : x.engine = .reserved w) : x.runs :=
  Bus.runs_of_engine (by simp [h]) (by simp [h, Engine.finishing])

theorem State.startSeen_keeps (b : BusIx) (maker : Maker) (place : Place) : s.Keeps (s.startSeen b maker place) := by
  have start (hd : (s.bus b).engine ≠ .disabled) (hr : (s.bus b).engine ≠ .reserved true) :
      s.Keeps (s.setLine b .busy) := State.seen_keeps .busy (by simp) hd fun h => absurd h hr
  have follow (hd : (s.bus b).engine ≠ .disabled) (hr : (s.bus b).engine ≠ .reserved true) :
      s.Keeps ((s.setLine b .busy).setFollowing b true) :=
    (start hd hr).trans (State.setFollowing_calm _ b true).toKeeps
  unfold State.startSeen
  split
  next => exact .rfl
  next a h =>
    split
    · exact (start (by simp [h]) (by simp [h])).trans (State.setAttempt_still (a := a) a.advance (by simpa using h) rfl rfl).toKeeps
    · exact .rfl
  next => exact .rfl
  next a h => exact s.startInAttempt_keeps b a place h
  next h =>
    exact (follow (by simp [h]) (by simp [h])).trans
      (State.enterIdle_keeps (Bus.runs_of_engine (by simp [h]) (by simp [h, Engine.finishing])))
  next h => exact follow (by simp [h]) (by simp [h])
  next h => exact follow (by simp [h]) (by simp [h])
  next w h =>
    rw [State.abandonWait_reserved (w := w) (by simpa using h)]
    simp only [State.setLine, State.setFollowing, State.setEngine, State.modBus_modBus]
    exact State.run_keeps _ (Bus.runs_of_reserved h) rfl rfl (fun _ => by simp) (by simp) (by simp) (by simp) fun _ => rfl
  next h =>
    split
    · exact .rfl
    · exact (start (by simp [h]) (by simp [h])).trans (State.startInTarget_calm _ b place).toKeeps
  next r h =>
    exact (follow (by simp [h]) (by simp [h])).trans (State.recoveryEnds_keeps r (Bus.runs_of_recovery (r := r) (by simpa using h)))

theorem State.stopSeen_keeps (b : BusIx) (place : Place) : s.Keeps (s.stopSeen b place) := by
  have stop (hd : (s.bus b).engine ≠ .disabled) : s.Keeps (s.setLine b .free) :=
    State.seen_keeps .free (by simp) hd fun _ => rfl
  have unfollow (hd : (s.bus b).engine ≠ .disabled) : s.Keeps ((s.setLine b .free).setFollowing b false) :=
    (stop hd).trans (State.setFollowing_calm _ b false).toKeeps
  unfold State.stopSeen
  split
  next => exact .rfl
  next a h => exact s.stopInAttempt_keeps b a place h
  next h =>
    exact (stop (by simp [h])).trans
      (State.enterIdle_keeps (Bus.runs_of_engine (by simp [h]) (by simp [h, Engine.finishing])))
  next h => exact unfollow (by simp [h])
  next h => exact unfollow (by simp [h])
  next w h =>
    rw [State.reportFree_reserved (w := w) (by simpa using h)]
    exact (unfollow (by simp [h])).trans (State.run_keeps _ (Bus.runs_of_reserved (w := w) (by simpa using h)) rfl rfl id
      (by simp) (by simp) (by simp) fun _ => rfl)
  next h =>
    split
    · exact .rfl
    · exact ((stop (by simp [h])).trans (State.stopInTarget_keeps place
        (Bus.runs_of_engine (by simp [h]) (by simp [h, Engine.finishing])))).trans (State.setFollowing_calm _ b false).toKeeps
  next r h =>
    exact (stop (by simp [h])).trans (State.recoveryEnds_keeps r (Bus.runs_of_recovery (r := r) (by simpa using h)))

/-! ### The monitor's other events -/

theorem State.clkLow_keeps (b : BusIx) : s.Keeps (s.clkLow b) := by
  unfold State.clkLow
  split
  next hl =>
    have running (h : (s.bus b).coherent) : (s.bus b).engine ≠ .disabled := fun hd => by
      have := h.1.mpr hd
      simp [hl] at this
    by_cases hw : ∃ w, (s.bus b).engine = .reserved w
    · obtain ⟨w, h⟩ := hw
      rw [State.abandonWait_reserved (w := w) (by simpa using h)]
      simp only [State.setLine, State.countBus, State.setEngine, State.modBus_modBus]
      exact State.run_keeps _ (Bus.runs_of_reserved h) rfl rfl (fun _ => by simp) (by simp) (by simp) (by simp)
        fun _ => rfl
    · have stays : ((s.setLine b .busy).countBus b fun c => { c with busErrors := satInc c.busErrors }).abandonWait b =
          (s.setLine b .busy).countBus b fun c => { c with busErrors := satInc c.busErrors } := by
        unfold State.abandonWait
        split
        next w h => exact absurd ⟨w, by simpa using h⟩ hw
        next => rfl
      rw [stays]
      exact (State.setLine_keeps running (by simp) fun _ h => absurd ⟨true, h⟩ hw).trans
        (State.countBus_calm _ b _).toKeeps
  next => exact .rfl

theorem State.idleSeen_keeps (b : BusIx) : s.Keeps (s.idleSeen b) := by
  unfold State.idleSeen
  split
  next => exact .rfl
  next hl =>
    have idle : s.Keeps (s.setLine b .free) :=
      State.setLine_keeps (fun h hd => hl (h.1.mpr hd)) (by simp) fun _ _ => rfl
    have unfollow : s.Keeps ((s.setLine b .free).setFollowing b false) :=
      idle.trans (State.setFollowing_calm _ b false).toKeeps
    dsimp only
    split
    next w h =>
      rw [State.reportFree_reserved (w := w) (by simpa using h)]
      exact unfollow.trans (State.run_keeps _ (Bus.runs_of_reserved (w := w) (by simpa using h)) rfl rfl id
        (by simp) (by simp) (by simp) fun _ => rfl)
    next r h => exact idle.trans (State.recoveryEnds_keeps r (Bus.runs_of_recovery (r := r) (by simpa using h)))
    next h =>
      exact unfollow.trans (State.leaveFault_keeps (Bus.runs_of_engine (by simp [h]) (by simp [h, Engine.finishing])))
    next => exact unfollow
    next => exact .rfl
    all_goals exact idle

theorem State.stuckReport_keeps (b : BusIx) (atEntry : Option Bool) : s.Keeps (s.stuckReport b atEntry) := by
  unfold State.stuckReport
  split
  next h => exact State.enterRecovery_keeps _ _ (Bus.runs_of_engine (by simp [h]) (by simp [h, Engine.finishing]))
  next h => exact State.enterRecovery_keeps _ _ (Bus.runs_of_reserved h)
  next h => exact State.enterRecovery_keeps _ _ (Bus.runs_of_engine (by simp [h]) (by simp [h, Engine.finishing]))
  next a h => exact s.stretchEnd_keeps b a atEntry
  next h =>
    have cut := s.cutOff_calm b
    exact cut.toKeeps.trans (State.enterRecovery_keeps _ _ (cut.runs
      (Bus.runs_of_engine (by simp [h]) (by simp [h, Engine.finishing]))))
  all_goals exact .rfl

theorem State.stuckSeen_keeps (b : BusIx) (atEntry : Option Bool) : s.Keeps (s.stuckSeen b atEntry) := by
  have stuck (ho : (s.bus b).line ≠ .off) (hf : (s.bus b).line ≠ .free) : s.Keeps (s.setLine b .stuck) :=
    State.setLine_keeps (fun h hd => ho (h.1.mpr hd)) (by simp) fun h hr => absurd (h.2.2.2.1 hr) hf
  unfold State.stuckSeen
  split
  next hl => exact (stuck (by simp [hl]) (by simp [hl])).trans (State.stuckReport_keeps _ b atEntry)
  next hl => exact (stuck (by simp [hl]) (by simp [hl])).trans (State.stuckReport_keeps _ b atEntry)
  all_goals exact .rfl

theorem State.stretched_keeps (b : BusIx) : s.Keeps (s.stretched b) := by
  unfold State.stretched
  split
  · exact s.stretchEnd_keeps b _ none
  · exact .rfl

/-! ### Arbitration and foreign addresses -/

theorem State.arbitrationLost_keeps (b : BusIx) (bit : LossBit) : s.Keeps (s.arbitrationLost b bit) := by
  unfold State.arbitrationLost
  repeat' split
  all_goals first | exact .rfl | exact s.lose_keeps b _ _ _

theorem State.lostInCondition_keeps (b : BusIx) (inRepeatedStart : Bool) : s.Keeps (s.lostInCondition b inRepeatedStart) := by
  unfold State.lostInCondition
  dsimp only
  repeat' split
  all_goals first | exact .rfl | exact s.lose_keeps b _ _ _

theorem State.setTarget_keeps {s : State} {b : BusIx} (he : (s.bus b).runs) : s.Keeps (s.setEngine b .target) :=
  State.run_keeps _ he rfl rfl id (by simp) (by simp) (by simp) fun _ => rfl

theorem State.tailEnds_keeps (b : BusIx) (addr : Addr) (dir : Direction) : s.Keeps (s.tailEnds b addr dir) := by
  unfold State.tailEnds
  split
  next h =>
    have he : (s.bus b).runs := Bus.runs_of_engine (by simp [h]) (by simp [h, Engine.finishing])
    split
    · exact (State.setTarget_keeps he).trans (State.judgeAddress_calm _ b dir).toKeeps
    · exact State.enterIdle_keeps he
  next => exact .rfl

theorem Bus.runs_of_follows {x : Bus} (h : x.engine.follows = true) : x.runs := by
  refine Bus.runs_of_engine (fun hd => ?_) ?_
  · simp [hd, Engine.follows] at h
  · cases he : x.engine <;> simp_all [Engine.follows, Engine.finishing]

theorem State.foreignAddress_keeps (b : BusIx) (addr : Addr) (dir : Direction) : s.Keeps (s.foreignAddress b addr dir) := by
  unfold State.foreignAddress
  dsimp only
  split
  · exact .rfl
  next hf =>
    have completed := (s.setFollowing_calm b false).trans (State.completeWrite_calm _ b
      (decide ((s.bus b).config.own = some addr) && decide (dir = .read)))
    split
    · exact (completed.toKeeps.trans (State.setTarget_keeps (completed.runs (Bus.runs_of_follows (by simp_all))))).trans
        (State.judgeAddress_calm _ b dir).toKeeps
    · exact completed.toKeeps

theorem State.foreignOwn_keeps (b : BusIx) (dir : Direction) : s.Keeps (s.foreignOwn b dir) := by
  unfold State.foreignOwn
  split
  · exact .rfl
  · exact s.foreignAddress_keeps b _ dir

theorem State.foreignOther_keeps (b : BusIx) (addr : Addr) (dir : Direction) : s.Keeps (s.foreignOther b addr dir) := by
  unfold State.foreignOther
  split
  · exact .rfl
  · exact s.foreignAddress_keeps b addr dir

theorem State.targetByte_calm (b : BusIx) (x : Byte) : s.Calm (s.targetByte b x) := by
  unfold State.targetByte
  split
  · exact s.storeByte_calm b x
  · exact .rfl

theorem State.targetTake_calm (b : BusIx) (ack : Bool) : s.Calm (s.targetTake b ack) := by
  unfold State.targetTake
  split
  · exact s.readAcknowledged_calm b ack
  · exact .rfl

/-! ### BUS_CONFIGURE (R174 to R177) -/

theorem State.dropItem_calm (it : QItem) : s.Calm (s.dropItem it) := by
  cases it with
  | record i => exact s.finishWithoutAttempt_calm i _
  | watchRead w c t z => exact s.modWatch_calm w _

theorem State.clearQueue_calm (b : BusIx) : s.Calm (s.clearQueue b) :=
  (s.setQueue_calm b []).trans (.foldl (fun t it => t.dropItem_calm it) _ _)

/-- An update of a bus that keeps its law and the bounds of its target unit, but perhaps not its configuration. -/
theorem State.modBus_inside (b : BusIx) (f : Bus → Bus) (hl : (s.bus b).coherent → (f (s.bus b)).coherent)
    (ht : (f (s.bus b)).target = (s.bus b).target) : s.Inside (s.modBus b f) where
  sessions _ := id
  leases := id
  buses n h := by
    rw [State.modBus_bus]
    split
    next hn => exact hl (hn ▸ h)
    next => exact h
  buffers h := ⟨h.1, fun n => by
    rw [State.modBus_bus]
    split
    next => exact ht ▸ h.2 b
    next => exact h.2 n⟩
  links _ := rfl

theorem State.applyValues_inside (b : BusIx) (c : BusConfig) : s.Inside (s.applyValues b c) := by
  have values : s.Inside (s.modConfig b fun x => { c with enabled := x.enabled }) := s.modBus_inside b _ id rfl
  unfold State.applyValues
  dsimp only
  split
  · exact values.trans (State.promoteDue_calm _ b).toInside
  · exact values

theorem State.enableBus_inside (b : BusIx) : s.Inside (s.enableBus b) := by
  unfold State.enableBus
  dsimp only
  split
  · have enabled : s.Inside (s.modBus b fun x => { x with
        config := { x.config with enabled := true }, line := .unknown, engine := .idle }) :=
      s.modBus_inside b _ (fun _ => Bus.coherent_of_enabled rfl (by simp) (by simp) (by simp) (by simp) rfl) rfl
    simp only [State.enterIdle, State.modConfig, State.setLine, State.setEngine, State.modBus_modBus]
    exact enabled.trans (State.wake_still _ b).toInside
  next h =>
    exact s.modBus_inside b _ (fun hc => ⟨hc.1, fun _ => h, nofun, hc.2.2.2⟩) rfl

/-- An attempt that runs on a disabled bus finishes under the disable. -/
theorem State.underDisable_keeps (b : BusIx) : s.Keeps (s.modBus b fun x =>
    match x.engine with
    | .active (some a) => { x with engine := .active (some { a with underDisable := true }) }
    | _ => x) := by
  refine s.modBus_keeps b _ (by split <;> rfl) (fun hc => ?_) fun h => ?_
  · split
    next a h =>
      simp only [Bus.coherent, h, Engine.finishing, reduceCtorEq, Bool.and_eq_true, Engine.pulsesBounded] at hc ⊢
      exact ⟨hc.1, by simp, fun he => .inr ⟨(by simpa using hc.2.2.1 he : _ ∧ _).1, trivial⟩, hc.2.2.2⟩
    next => exact hc
  · split <;> exact h

theorem State.disableEngine_keeps {s : State} {b : BusIx} (hd : (s.bus b).config.enabled = false) :
    s.Keeps (s.disableEngine b) := by
  unfold State.disableEngine
  split
  · exact .rfl
  · exact (s.abortAttempt_still b).toKeeps.trans (State.underDisable_keeps _ b)
  · exact (s.cutOff_calm b).toKeeps.trans (State.enterDisabled_keeps (((s.cutOff_calm b).configs b).symm ▸ hd))
  all_goals exact State.enterDisabled_keeps hd

theorem State.enterDisabled_core (b : BusIx) :
    ((s.enterDisabled b).bus b).core = ((s.bus b).config, .off, .disabled, none) := by
  rw [State.enterDisabled, (State.offerBusEvent_calm _ b _).core b, State.modBus_bus_self]
  rfl

theorem State.abortAttempt_bus {s : State} {b : BusIx} {a : Attempt} (h : (s.bus b).engine = .active (some a)) :
    (s.abortAttempt b).bus b = { s.bus b with engine := .active (some { a with abortPending := true }) } := by
  unfold State.abortAttempt
  simp only [h]
  split <;> simp

/-- The engine's part of a disable leaves the bus within its law. -/
theorem State.disableEngine_coherent {s : State} {b : BusIx} (hd : (s.bus b).config.enabled = false)
    (he : (s.bus b).engine ≠ .disabled) (hl : (s.bus b).line ≠ .off) : ((s.disableEngine b).bus b).coherent := by
  have off (t : State) (ht : (t.bus b).config.enabled = false) : ((t.enterDisabled b).bus b).coherent := by
    have core := t.enterDisabled_core b
    generalize (t.enterDisabled b).bus b = x at core ⊢
    simp only [Bus.core, Prod.mk.injEq] at core
    obtain ⟨config, line, engine, -⟩ := core
    exact Bus.coherent_of_disabled (by rw [config, ht]) line engine
  unfold State.disableEngine
  split
  next h => exact absurd h he
  next a h =>
    simp [State.modBus_bus_self, State.abortAttempt_bus h, Bus.coherent, hl, hd, Engine.finishing, Engine.pulsesBounded]
  next => exact off (s.cutOff b) (by rw [(s.cutOff_calm b).configs, hd])
  all_goals exact off s hd

theorem State.disableBus_inside {s : State} {b : BusIx} (he : (s.bus b).config.enabled = true) :
    s.Inside (s.disableBus b) := by
  unfold State.disableBus
  have cleared := (s.modConfig b fun c => { c with enabled := false }).clearQueue_calm b
  have off : (((s.modConfig b fun c => { c with enabled := false }).clearQueue b).bus b).config.enabled = false := by
    rw [cleared.configs, State.modConfig, State.modBus_bus_self]
  have engine := State.disableEngine_keeps off
  exact {
    sessions := fun X => engine.sessions X ∘ cleared.sessions X
    leases := engine.leases ∘ cleared.leases
    buses := fun n h => by
      by_cases hn : n = b
      · subst hn
        refine State.disableEngine_coherent off ?_ ?_
        · rw [cleared.engines, State.modConfig, State.modBus_bus_self]
          exact (h.running he).1
        · rw [cleared.lines, State.modConfig, State.modBus_bus_self]
          exact (h.running he).2
      · refine engine.buses n (cleared.buses n ?_)
        rwa [State.modConfig, State.modBus_bus, if_neg hn]
    buffers := fun h => engine.buffers (cleared.buffers (by
      refine ⟨h.1, fun n => ?_⟩
      rw [State.modConfig, State.modBus_bus]
      split
      next hn => exact h.2 b
      next => exact h.2 n))
    links := fun p => (engine.links p).trans (cleared.links p) }

theorem State.applyConfig_inside (b : BusIx) (c : BusConfig) : s.Inside (s.applyConfig b c) := by
  unfold State.applyConfig
  split
  next he =>
    split
    · exact s.applyValues_inside b c
    · exact (State.disableBus_inside he).trans (State.applyValues_inside _ b c)
  next =>
    split
    · exact (s.applyValues_inside b c).trans (State.enableBus_inside _ b)
    · exact s.applyValues_inside b c

theorem State.busConfigureRequest_inside (p : PortIx) (body : List Byte) : s.Inside (s.busConfigureRequest p body).1 := by
  unfold State.busConfigureRequest
  dsimp only
  repeat' split
  all_goals first | exact .rfl | exact s.applyConfig_inside _ _

/-! ### Requests (R145, R168) -/

/-- What every request but BUS_CONFIGURE keeps. -/
theorem State.serve_keeps (p : PortIx) (kind : Byte) (body : List Byte) (hk : kind ≠ 0x16) :
    s.Keeps (s.serve p kind body).1 := by
  unfold State.serve State.serveOpen
  split
  · exact (s.openRequest_calm p body).toKeeps
  split
  · split
    · exact (s.closeRequest_still p body).toKeeps
    · exact s.queryRequest_keeps p body
    · exact (s.rewindRequest_calm p body).toKeeps
    · exact (s.submitRequest_still p body).toKeeps
    · exact (s.cancelRequest_still p body).toKeeps
    · exact (s.claimRequest_calm p body).toKeeps
    · exact (s.renewRequest_calm p body).toKeeps
    · exact (s.releaseRequest_still p body).toKeeps
    · exact (s.revokeRequest_still p body).toKeeps
    · exact (s.groupCreateRequest_calm p body).toKeeps
    · exact (s.groupArmRequest_calm p body).toKeeps
    · exact (s.groupFireRequest_still p body).toKeeps
    · exact (s.groupBindRequest_calm p body).toKeeps
    · exact (s.groupDeleteRequest_calm p body).toKeeps
    · exact (s.watchAddRequest_calm p body).toKeeps
    · exact (s.watchRemoveRequest_calm p body).toKeeps
    · exact (s.watchResumeRequest_calm p body).toKeeps
    · exact (s.targetOwnRequest_calm p body).toKeeps
    · exact (s.targetLoadRequest_calm p body).toKeeps
    next h => exact absurd (BitVec.eq_of_toNat_eq h) hk
    · exact s.busRecoverRequest_keeps body
    · exact s.resetBrokerRequest_keeps p body
    · exact .rfl
  · exact .rfl

theorem State.serve_inside (p : PortIx) (kind : Byte) (body : List Byte) : s.Inside (s.serve p kind body).1 := by
  by_cases hk : kind = 0x16
  · subst hk
    unfold State.serve
    split
    next h => exact absurd h (by decide)
    split
    · exact s.busConfigureRequest_inside p body
    · exact .rfl
  · exact (s.serve_keeps p kind body hk).toInside

end Sys2Proof.Machine
end

section
/-! PROOF. What the host link, the clock and every command keep: the laws of sessions, leases, buses and buffers are
invariants (chapters 9 and 10). -/

namespace Sys2Proof.Machine

variable (s : State)

/-! ### The host link -/

/-- An update of a port that only takes from its reply queue and its assembly buffer. -/
theorem State.modPort_safe_of_le {s : State} {p : PortIx} (f : Port → Port)
    (hr : (f (s.port p)).replies.length ≤ (s.port p).replies.length)
    (hb : (f (s.port p)).rx.buffer.length ≤ (s.port p).rx.buffer.length) : s.Safe (s.modPort p f) :=
  s.modPort_safe p f fun h => ⟨hr.trans h.1, hb.trans h.2⟩

/-- A reply joins a queue with room. -/
theorem State.appendReply_safe {s : State} {p : PortIx} (m : Message)
    (room : (s.port p).replies.length < Config.replyRoom) : s.Safe (s.appendReply p m) :=
  s.modPort_safe p _ fun h => ⟨by simpa using room, h.2⟩

theorem State.respond_safe {s : State} {p : PortIx} (kind seq : Byte) (m : Message)
    (room : (s.port p).replies.length < Config.replyRoom) : s.Safe (s.respond p kind seq m) :=
  (State.modPort_safe_of_le (s := s) (p := p) _ le_rfl le_rfl).trans
    (State.appendReply_safe m (by simpa [State.modPort_port] using room))

variable {s} in
theorem State.Inside.replies {t : State} (h : s.Inside t) (p : PortIx) : (t.port p).replies = (s.port p).replies :=
  congrArg (fun x => x.2.2.1) (h.links p)

theorem State.takeRequest_safe (p : PortIx) (kind seq : Byte) (body : List Byte) :
    s.Safe (s.takeRequest p kind seq body) := by
  unfold State.takeRequest
  split
  · exact (s.countPort_keeps p _).toSafe
  next room =>
    have room : (s.port p).replies.length < Config.replyRoom := not_le.mp room
    split
    next m _ =>
      have counted := s.countPort_keeps p fun c => { c with duplicates := satInc c.duplicates }
      exact counted.toSafe.trans (State.appendReply_safe m (by rwa [counted.toInside.replies]))
    next =>
      split
      · have served := s.serve_inside p kind body
        exact served.toSafe.trans (State.respond_safe _ _ _ (by rwa [served.replies]))
      · exact State.respond_safe _ _ _ room

theorem State.goodFrame_safe (p : PortIx) (m : Message) : s.Safe (s.goodFrame p m) := by
  unfold State.goodFrame
  dsimp only
  refine (s.countPort_keeps p fun c => { c with good := satInc c.good }).toSafe.trans ?_
  split
  · exact (State.noticeAck_keeps _ p m.body).toSafe
  · exact State.takeRequest_safe _ p _ _ _

theorem Receiver.append_buffer_length (r : Receiver) (x : Byte) :
    (r.append x).1.buffer.length ≤ Config.maxContent := by
  unfold Receiver.append
  split
  next room => simpa using room
  next => exact Nat.zero_le _

theorem Receiver.take_buffer_length {r : Receiver} (h : r.buffer.length ≤ Config.maxContent) (input : LineInput) :
    (r.take input).1.buffer.length ≤ Config.maxContent := by
  unfold Receiver.take Receiver.close
  repeat' split
  all_goals first | exact h | exact Nat.zero_le _ | exact r.append_buffer_length _

theorem State.lineInput_safe (p : PortIx) (input : LineInput) : s.Safe (s.lineInput p input) := by
  have taken : s.Safe (s.modPort p fun y => { y with rx := ((s.port p).rx.take input).1 }) :=
    s.modPort_safe p _ fun h => ⟨h.1, Receiver.take_buffer_length h.2 input⟩
  unfold State.lineInput
  dsimp only
  repeat' split
  · exact taken
  · exact taken.trans (State.countPort_keeps _ p _).toSafe
  · exact taken.trans (State.countPort_keeps _ p _).toSafe
  · exact taken.trans (State.goodFrame_safe _ p _)

theorem State.requestFrame_safe (p : PortIx) (kind seq : Byte) (body : List Byte) :
    s.Safe (s.requestFrame p kind seq body) := by
  have taken : s.Safe (s.modPort p fun x => { x with rx := { state := .inFrame, buffer := [] } }) :=
    State.modPort_safe_of_le _ le_rfl (Nat.zero_le _)
  unfold State.requestFrame
  dsimp only
  split
  · exact taken.trans (State.goodFrame_safe _ p _)
  · exact taken.trans (State.countPort_keeps _ p _).toSafe

theorem State.breakSeen_safe (p : PortIx) : s.Safe (s.breakSeen p) := by
  unfold State.breakSeen
  dsimp only
  refine (s.countPort_keeps p fun c => { c with breaks := satInc c.breaks }).toSafe.trans ?_
  split
  · exact (State.teardown_still _ p).toSafe.trans (State.modPort_safe_of_le _ (Nat.zero_le _) (Nat.zero_le _))
  · exact State.modPort_safe_of_le _ (Nat.zero_le _) (Nat.zero_le _)

theorem State.kick_safe (p : PortIx) : s.Safe (s.kick p) := by
  obtain ⟨-, h⟩ | ⟨-, m, rest, hr, h⟩ | ⟨-, -, -, h⟩ | ⟨-, -, e, out, hu, h⟩ := s.kick_cases p <;> rw [h]
  · exact .rfl
  · exact State.modPort_safe_of_le _ (by simp [hr]) le_rfl
  · exact .rfl
  · exact (s.modSession_calm p _ fun _ => Session.marks_lawfulIf _ (takeUnsent_seqs hu)).toSafe.trans
      (State.modPort_safe_of_le _ le_rfl le_rfl)

theorem State.settle_safe : s.Safe s.settle :=
  ((s.kick_safe 0).trans (State.kick_safe _ 1)).trans (State.kick_safe _ 2)

/-! ### The clock -/

theorem State.tick_safe : s.Safe s.tick where
  sessions _ := id
  leases := id
  buses b := Bus.coherent_of_core (by simp [State.tick, State.bus, Bus.core])
  buffers h := ⟨h.1, fun b => by simpa [State.tick, State.bus] using h.2 b⟩

/-! ### Every command -/

theorem State.sampleLine_pending (l : TriggerLine) (up : Bool) : (s.sampleLine l up).pending = s.pending := by
  unfold State.sampleLine State.edge
  repeat' split
  all_goals try simp
  next i _ _ g _ _ _ _ =>
    have quiet := (s.setLevel l up).fire_quiet i g (.line l)
    simpa [State.quiet] using congrArg (fun x => x.2.2.2) quiet

/-- A command but POWER_ON_RESET is an event: it takes the state without losing a law, and then the idle transmitters
choose. -/
theorem exec_event (c : Instr) (hc : ∀ h x y, c ≠ .powerOnReset h x y) :
    ∃ u, exec c s = .next u.settle ∧ s.Safe u ∧ u.pending = s.pending := by
  have kept {u : State} (h : u.quiet = s.quiet) : u.pending = s.pending := congrArg (fun x => x.2.2.2) h
  cases c
  case powerOnReset h x y => exact absurd rfl (hc h x y)
  case clockTick => exact ⟨s.tick, rfl, s.tick_safe, rfl⟩
  case busRecover p q body =>
    exact ⟨_, rfl, (s.requestFrame_safe p _ q _).trans (State.clockAtEntry_keeps _ s body).toSafe, kept (by simp)⟩
  case badFrame p input => exact ⟨_, rfl, s.lineInput_safe p input, kept (by simp)⟩
  case characterReceived p x => exact ⟨_, rfl, s.lineInput_safe p _, kept (by simp)⟩
  case lineBreak p => exact ⟨_, rfl, s.breakSeen_safe p, kept (by simp)⟩
  case transmitFrameEnd p => exact ⟨_, rfl, State.modPort_safe_of_le _ le_rfl le_rfl, kept (by simp)⟩
  case retransmitTimerExpiry p => exact ⟨_, rfl, (s.timerExpired_calm p).toSafe, kept (by simp)⟩
  case deadlineExpiry i => exact ⟨_, rfl, (s.deadlineReached_calm i).toSafe, kept (by simp)⟩
  case notBeforeReached i => exact ⟨_, rfl, (s.spacingReached_still i).toSafe, kept (by simp)⟩
  case agingPromotion b => exact ⟨_, rfl, (s.promoteDue_calm b).toSafe, kept (by simp)⟩
  case leaseExpiry i => exact ⟨_, rfl, (s.leaseExpired_still i).toSafe, kept (by simp)⟩
  case triggerEdge l up => exact ⟨_, rfl, (s.sampleLine_still l up).toSafe, State.sampleLine_pending s l up⟩
  case watchPeriodExpiry i => exact ⟨_, rfl, (s.periodExpired_still i).toSafe, kept (by simp)⟩
  case busFreeWaitEnd b => exact ⟨_, rfl, (s.waitEnd_keeps b).toSafe, kept (by simp)⟩
  case startSeen b m x => exact ⟨_, rfl, (s.startSeen_keeps b m x).toSafe, kept (by simp)⟩
  case stopSeen b x => exact ⟨_, rfl, (s.stopSeen_keeps b x).toSafe, kept (by simp)⟩
  case clkLowOnFreeBus b => exact ⟨_, rfl, (s.clkLow_keeps b).toSafe, kept (by simp)⟩
  case idleDetect b => exact ⟨_, rfl, (s.idleSeen_keeps b).toSafe, kept (by simp)⟩
  case stuckDetected x => exact ⟨_, rfl, (s.stuckSeen_keeps x.bus _).toSafe, kept (by simp)⟩
  case stretchTimeout b => exact ⟨_, rfl, (s.stretched_keeps b).toSafe, kept (by simp)⟩
  case addressByteAcknowledge b ack => exact ⟨_, rfl, (s.addressAck_still b ack).toSafe, kept (by simp)⟩
  case writeByteAcknowledge b ack => exact ⟨_, rfl, (s.writeAck_still b ack).toSafe, kept (by simp)⟩
  case readByteReceived b x => exact ⟨_, rfl, (s.readByte_still b x).toSafe, kept (by simp)⟩
  case arbitrationLoss b bit => exact ⟨_, rfl, (s.arbitrationLost_keeps b bit).toSafe, kept (by simp)⟩
  case lossInRepeatedStartOrStop x => exact ⟨_, rfl, (s.lostInCondition_keeps x.bus _).toSafe, kept (by simp)⟩
  case addressTailDirectionBit b a d => exact ⟨_, rfl, (s.tailEnds_keeps b a d).toSafe, kept (by simp)⟩
  case foreignOwnAddress b d => exact ⟨_, rfl, (s.foreignOwn_keeps b d).toSafe, kept (by simp)⟩
  case foreignAddressOther b a d => exact ⟨_, rfl, (s.foreignOther_keeps b a d).toSafe, kept (by simp)⟩
  case targetWriteByte b x => exact ⟨_, rfl, (s.targetByte_calm b x).toSafe, kept (by simp)⟩
  case targetReadByteTaken x => exact ⟨_, rfl, (s.targetTake_calm x.bus _).toSafe, kept (by simp)⟩
  case recoveryClockRise b d => exact ⟨_, rfl, (s.recoveryRise_keeps b d).toSafe, kept (by simp)⟩
  case recoveryPulseEnd b d => exact ⟨_, rfl, (s.recoveryPulse_keeps b d).toSafe, kept (by simp)⟩
  case recoveryClockTimeout b => exact ⟨_, rfl, (s.recoveryTimeout_keeps b).toSafe, kept (by simp)⟩
  case recoveryStopDataHeld b => exact ⟨_, rfl, (s.recoveryStopHeld_keeps b).toSafe, kept (by simp)⟩
  all_goals exact ⟨_, rfl, s.requestFrame_safe _ _ _ _, kept (by simp)⟩

/-- What POWER_ON_RESET leaves behind is lawful. -/
theorem State.powerOn_lawful (rateHigh t0 t1 : Bool) : (State.powerOn rateHigh t0 t1).sessionsLawful ∧
    (State.powerOn rateHigh t0 t1).leasesExclusive ∧ (State.powerOn rateHigh t0 t1).busesCoherent ∧
    (State.powerOn rateHigh t0 t1).buffersBounded := by
  refine ⟨fun p => ?_, fun i j x hx => ?_, fun b => ?_, fun p => ?_, fun b => ?_⟩
  · simp [State.powerOn, State.session, Session.reset, Session.lawful, consecutiveTo]
  · simp [State.powerOn, State.lease, freeSlot] at hx
  · simp [State.powerOn, State.bus, Bus.reset, BusConfig.reset, Bus.coherent, Engine.pulsesBounded]
  · simp [State.powerOn, State.port, Port.reset, Port.bounded]
  · simp [State.powerOn, State.bus, Bus.reset, Target.reset, Target.bounded, InSlot.empty]

/-- The laws of the parts of the state. -/
def State.partsLawful (s : State) : Prop :=
  s.sessionsLawful ∧ s.leasesExclusive ∧ s.busesCoherent ∧ s.buffersBounded

/-- A step either keeps each law of a part, or leaves the power-on state, which meets them all. -/
theorem step_keeps {s t : State} (h : step s = .next t) : s.Safe t ∨ t.partsLawful := by
  unfold step at h
  split at h
  · cases h
    exact .inl .rfl
  next c rest _ =>
    have start : s.Safe { s with pending := rest } := (State.Calm.of_eq s (t := { s with pending := rest }) rfl rfl rfl rfl).toSafe
    by_cases hc : ∃ x y z, c = .powerOnReset x y z
    · obtain ⟨x, y, z, rfl⟩ := hc
      cases h
      exact .inr (State.powerOn_lawful x y z)
    · obtain ⟨u, hu, safe, -⟩ := exec_event { s with pending := rest } c fun x y z e => hc ⟨x, y, z, e⟩
      rw [hu] at h
      cases h
      exact .inl ((start.trans safe).trans u.settle_safe)

end Sys2Proof.Machine

namespace Sys2Proof.Proofs

open Sys2Proof Sys2Proof.Machine

/-- Settles O5: a report joins the outbox only where there is room, and a source waits only behind a full outbox. -/
theorem stepsKeepTheSessionLaws : Obligations.StepsKeepTheSessionLaws := by
  unfold Obligations.StepsKeepTheSessionLaws
  intro s t hs h
  obtain safe | ⟨sessions, -, -, -⟩ := step_keeps h
  · exact t.sessionsLawful_iff.mpr (safe.sessions _ (s.sessionsLawful_iff.mp hs))
  · exact sessions

/-- Settles O6: an entry becomes GRANTED only where no GRANTED entry of another session overlaps it. -/
theorem stepsKeepLeasesExclusive : Obligations.StepsKeepLeasesExclusive := by
  unfold Obligations.StepsKeepLeasesExclusive
  intro s t hs h
  obtain safe | ⟨-, leases, -, -⟩ := step_keeps h
  · exact safe.leases hs
  · exact leases

/-- Settles O7: each move of an engine or a monitor keeps the law of its bus. -/
theorem stepsKeepTheBusLaws : Obligations.StepsKeepTheBusLaws := by
  unfold Obligations.StepsKeepTheBusLaws
  intro s t hs h
  obtain safe | ⟨-, -, buses, -⟩ := step_keeps h
  · exact fun b => safe.buses b (hs b)
  · exact buses

/-- Settles O8: a byte or a reply is stored only where there is room. -/
theorem stepsKeepTheBufferBounds : Obligations.StepsKeepTheBufferBounds := by
  unfold Obligations.StepsKeepTheBufferBounds
  intro s t hs h
  obtain safe | ⟨-, -, -, buffers⟩ := step_keeps h
  · exact safe.buffers hs
  · exact buffers

/-- Settles O1, by the definition of the step. -/
theorem stepTakesTheFrontCommand : Obligations.StepTakesTheFrontCommand := by
  unfold Obligations.StepTakesTheFrontCommand step
  constructor
  · intro s c rest h
    rw [h]
  · intro s h
    rw [h]

/-- Settles O2: each command but POWER_ON_RESET is an event that ends in the transmitters' choice. -/
theorem commandsCompleteAndLeaveTheQueue : Obligations.CommandsCompleteAndLeaveTheQueue := by
  unfold Obligations.CommandsCompleteAndLeaveTheQueue
  intro c s
  by_cases hc : ∃ x y z, c = .powerOnReset x y z
  · obtain ⟨x, y, z, rfl⟩ := hc
    exact ⟨_, rfl, rfl⟩
  · obtain ⟨u, hu, -, pending⟩ := exec_event s c fun x y z e => hc ⟨x, y, z, e⟩
    exact ⟨_, hu, (congrArg (fun x => x.2.2.2) u.settle_quiet).trans pending⟩

end Sys2Proof.Proofs
end

section
/-! PROOF. BAD_FRAME carries any line input (R167), a delimiter that ends a good frame included: such a frame may be a
BUS_CONFIGURE. -/

namespace Sys2Proof.Machine

/-- A BUS_CONFIGURE that enables bus 0, as a frame's content. -/
def enableBusZero : Message :=
  { kind := 0x16, seq := 0, body := [0, 1, 1, 25, 2, 0, 0, 0xFF, 0xFF] }

/-- After reset, with the primary session OPEN and port 0's receiver before the delimiter that ends that frame. -/
def State.beforeDelimiter : State :=
  (State.reset.modSession 0 fun x => { x with state := .opened }).modPort 0 fun x =>
    { x with rx := { state := .inFrame, buffer := enableBusZero.content } }

/-- Bus 0 is enabled after this event. -/
def enablesBusZero : Answer → Bool
  | .next t => (t.bus 0).config.enabled
  | _ => false

/-- A delimiter that BAD_FRAME carries ends the frame, and the frame configures the bus. -/
theorem badFrame_configures : enablesBusZero (exec (.badFrame 0 (.char 0xC5)) State.beforeDelimiter) = true := by
  decide +kernel

theorem beforeDelimiter_disabled : (State.beforeDelimiter.bus 0).config.enabled = false := by decide

end Sys2Proof.Machine

namespace Sys2Proof.Proofs

open Sys2Proof Sys2Proof.Machine

/-- Refutes O3: BAD_FRAME with a delimiter, after the content of a BUS_CONFIGURE from an OPEN port 0, ends a good frame and
enables bus 0, though the command is not CHARACTER_RECEIVED and no request row. -/
theorem not_onlyTheirEventsMoveClockLevelsAndConfigurations :
    ¬ Obligations.OnlyTheirEventsMoveClockLevelsAndConfigurations := by
  unfold Obligations.OnlyTheirEventsMoveClockLevelsAndConfigurations
  intro claim
  obtain ⟨u, hu, -, -⟩ := exec_event State.beforeDelimiter (.badFrame 0 (.char 0xC5)) (by simp)
  obtain ⟨-, -, -, kept, -⟩ := claim _ _ _ (by simp) hu
  have enabled : (u.settle.bus 0).config.enabled = true := by
    have := badFrame_configures
    rwa [hu] at this
  rw [kept (by simp) (fun _ _ _ => by simp [frameOf]) 0, beforeDelimiter_disabled] at enabled
  cases enabled

end Sys2Proof.Proofs
end

section
/-! PROOF. The state after a reset, the choice of the idle transmitters, and the clock (sections 1.1, 10.5 and 10.6). -/

namespace Sys2Proof.Machine

/-! ### The transmitters (R171) -/

theorem PortIx.cases : ∀ p : PortIx, p = 0 ∨ p = 1 ∨ p = 2 := by decide

theorem takeUnsent_none {l : List OutboxEntry} (h : takeUnsent l = none) : ∀ e ∈ l, e.sent = true := by
  induction l with
  | nil => simp
  | cons e l ih =>
    simp only [takeUnsent] at h
    split at h
    next he => exact List.forall_mem_cons.mpr ⟨he, ih (by simpa using h)⟩
    next => cases h

theorem State.kick_settledAt (s : State) (p : PortIx) : (s.kick p).settledAt p := by
  obtain ⟨ht, h⟩ | ⟨-, m, rest, -, h⟩ | ⟨-, hr, hu, h⟩ | ⟨-, -, e, out, -, h⟩ := s.kick_cases p <;> rw [h]
  · exact .inl ht
  · exact .inl (by simp [State.modPort_port])
  · exact .inr ⟨hr, takeUnsent_none hu⟩
  · exact .inl (by simp [State.modPort_port])

theorem State.kick_other (s : State) {p q : PortIx} (hq : q ≠ p) :
    (s.kick p).port q = s.port q ∧ (s.kick p).session q = s.session q := by
  obtain ⟨-, h⟩ | ⟨-, m, rest, -, h⟩ | ⟨-, -, -, h⟩ | ⟨-, -, e, out, -, h⟩ := s.kick_cases p <;>
    simp [h, State.modPort_port, State.modSession_session, hq]

theorem State.kick_settledAt_other {s : State} {p q : PortIx} (h : s.settledAt q) : (s.kick p).settledAt q := by
  by_cases hq : q = p
  · exact hq ▸ s.kick_settledAt p
  · obtain ⟨port, session⟩ := s.kick_other hq
    simpa only [State.settledAt, port, session] using h

theorem State.settle_settled (s : State) : s.settle.settled := by
  intro p
  obtain rfl | rfl | rfl := PortIx.cases p
  · exact State.kick_settledAt_other (State.kick_settledAt_other (s.kick_settledAt 0))
  · exact State.kick_settledAt_other (State.kick_settledAt _ 1)
  · exact State.kick_settledAt _ 2

/-! ### The power-on state -/

theorem State.powerOn_settled (rateHigh t0 t1 : Bool) : (State.powerOn rateHigh t0 t1).settled := fun p => by
  simp [State.settledAt, State.powerOn, State.port, State.session, Port.reset, Session.reset]

theorem State.powerOn_record (rateHigh t0 t1 : Bool) (i : Fin 64) : (State.powerOn rateHigh t0 t1).record i = none := by
  simp [State.powerOn, State.record, freeSlot]

theorem State.powerOn_group (rateHigh t0 t1 : Bool) (i : Fin 8) : (State.powerOn rateHigh t0 t1).group i = none := by
  simp [State.powerOn, State.group, freeSlot]

theorem State.powerOn_bus (rateHigh t0 t1 : Bool) (b : BusIx) : (State.powerOn rateHigh t0 t1).bus b = Bus.reset := by
  simp [State.powerOn, State.bus]

theorem State.powerOn_session (rateHigh t0 t1 : Bool) (p : PortIx) :
    (State.powerOn rateHigh t0 t1).session p = Session.reset := by
  simp [State.powerOn, State.session]

theorem State.powerOn_recordsLawful (rateHigh t0 t1 : Bool) : (State.powerOn rateHigh t0 t1).recordsLawful := by
  simp [State.recordsLawful, State.powerOn_record, State.powerOn_group, State.powerOn_bus, Bus.reset, Engine.runs]

theorem State.powerOn_placesLawful (rateHigh t0 t1 : Bool) : (State.powerOn rateHigh t0 t1).placesLawful := by
  have noUse (p : PortIx) : (State.powerOn rateHigh t0 t1).windowUse p = 0 := by
    simp [State.windowUse, State.powerOn, freeSlot]
  refine ⟨fun p => ?_, ?_, ?_⟩
  · simp [noUse, State.powerOn_record]
  · simp [State.recordsPlaced, State.powerOn_record]
  · simp [State.itemsOnce, State.powerOn_bus, State.powerOn_group, Bus.reset, Engine.runs]

/-! ### The clock (R1) -/

/-- An age below its largest value grows by one, and one that reaches it stops. -/
theorem age_tick (clock entry : Clock) (stopped : Bool)
    (h : stopped = true ∨ (clock - entry).toNat < 2 ^ 31 - 1) :
    ageOf (clock + 1) entry (stopsAt (clock + 1) entry stopped) =
        min (ageOf clock entry stopped + 1) (2 ^ 31 - 1) ∧
      (ageOf (clock + 1) entry (stopsAt (clock + 1) entry stopped) = 2 ^ 31 - 1 →
        stopsAt (clock + 1) entry stopped = true) := by
  cases stopped with
  | true => simp [stopsAt, ageOf, Config.maxAge]
  | false =>
    have young : (clock - entry).toNat < 2 ^ 31 - 1 := by simpa using h
    have later : clock + 1 - entry = clock - entry + 1 := add_sub_right_comm clock 1 entry
    simp only [stopsAt, ageOf, later]
    generalize clock - entry = d at young
    have grown : (d + 1).toNat = d.toNat + 1 := by
      rw [BitVec.toNat_add]
      exact Nat.mod_eq_of_lt (by simp; omega)
    rw [grown]
    by_cases full : d.toNat + 1 = 2 ^ 31 - 1
    · simp [Config.maxAge, full]
      omega
    · simp only [Config.maxAge, full, decide_false, Bool.or_false, Bool.false_eq_true, if_false]
      omega

theorem State.tick_record (s : State) (i : Fin 64) :
    s.tick.record i = (s.record i).map fun r => r.at (s.clock + 1) := by
  simp [State.tick, State.record]

/-- An item of a queue as the clock comes to `t`: the age of a watch read may stop (R1). -/
def QItem.at (t : Clock) : QItem → QItem
  | .record i => .record i
  | .watchRead w c e stopped => .watchRead w c e (stopsAt t e stopped)

theorem State.tick_bus (s : State) (b : BusIx) :
    s.tick.bus b = { s.bus b with queue := (s.bus b).queue.map (QItem.at (s.clock + 1)) } := by
  simp only [State.tick, State.bus, Fin.getElem_fin, Vector.getElem_map]
  rfl

/-- A time is reached when the clock is at it or later, on the wrapping clock (R1). -/
theorem any_reached {clock : Clock} {t : Option Clock} :
    t.any (reached clock) = true ↔ ∃ x, t = some x ∧ (clock - x).toNat < 2 ^ 31 := by
  simp only [Option.any_eq_true, reached, decide_eq_true_eq]

end Sys2Proof.Machine

namespace Sys2Proof.Proofs

open Sys2Proof Sys2Proof.Machine

/-- Settles O4: after a reset every table is empty, every bus disabled and every session closed. -/
theorem resetKeepsEveryLaw : Obligations.ResetKeepsEveryLaw := by
  unfold Obligations.ResetKeepsEveryLaw
  obtain ⟨sessions, leases, buses, buffers⟩ := State.powerOn_lawful false false false
  exact ⟨sessions, leases, buses, buffers, State.powerOn_recordsLawful _ _ _, State.powerOn_settled _ _ _,
    State.powerOn_placesLawful _ _ _⟩

/-- Settles O10: an event ends with the choice of each transmitter, and a reset leaves nothing to send. -/
theorem commandsLeaveTheTransmittersSettled : Obligations.CommandsLeaveTheTransmittersSettled := by
  unfold Obligations.CommandsLeaveTheTransmittersSettled
  intro c s t h
  by_cases hc : ∃ x y z, c = .powerOnReset x y z
  · obtain ⟨x, y, z, rfl⟩ := hc
    cases h
    exact State.powerOn_settled x y z
  · obtain ⟨u, hu, -⟩ := exec_event s c fun x y z e => hc ⟨x, y, z, e⟩
    rw [hu] at h
    cases h
    exact u.settle_settled

/-- Settles O11: POWER_ON_RESET builds the state from the power-on value of each part. -/
theorem powerOnReset : Obligations.PowerOnReset := by
  unfold Obligations.PowerOnReset
  intro s rateHigh t0 t1
  refine ⟨_, rfl, rfl, rfl, rfl, rfl, fun p => ?_, fun p => ?_, fun i => ?_, fun i => ?_, fun b => ?_, fun i => ?_,
    fun i => ?_, fun b => ?_⟩
  · simp [State.powerOn, State.session, Session.reset]
  · simp [State.powerOn, State.port, Port.reset, PortCounters.zero]
  · simp [State.powerOn, freeSlot]
  · simp [State.powerOn, freeSlot]
  · simp [State.powerOn, State.waitingOrder]
  · simp [State.powerOn, freeSlot]
  · simp [State.powerOn, freeSlot]
  · simp [State.powerOn, State.bus, Bus.reset, BusConfig.reset, Target.reset, InSlot.empty]

/-- Settles O12: the marks of the ages and of the not-before times follow the clock. -/
theorem clockTick : Obligations.ClockTick := by
  unfold Obligations.ClockTick
  intro s
  refine ⟨s.tick, rfl, rfl, rfl, rfl, rfl, rfl, rfl, rfl, rfl, rfl, rfl, rfl, fun i => ?_, fun i hi => ?_, fun i r hi => ?_,
    fun b => ⟨?_, fun n w c e z hz => ?_, ?_⟩⟩
  · simp [State.tick]
  · rw [State.tick_record, hi, Option.map_none]
  · refine ⟨_, _, by rw [State.tick_record, hi]; rfl, fun e he h => ?_, ?_⟩
    · rw [he]
      exact age_tick s.clock e r.ageStopped h
    · rw [Bool.or_eq_true]
      exact or_congr_right any_reached
  · rw [State.tick_bus]
  · exact ⟨_, by rw [State.tick_bus, List.getElem?_map, hz]; rfl, age_tick s.clock e z⟩
  · rw [State.tick_bus, List.map_map]
    refine List.map_congr_left fun it _ => ?_
    cases it <;> rfl

end Sys2Proof.Proofs
end

section
/-! PROOF. The receiver's table, the rows of request handling, and what a refused request leaves as it is (chapters 9, 10 and
12). -/

namespace Sys2Proof.Machine

/-! ### The receiver (R167) -/

theorem State.modPort_of_eq {s : State} {p : PortIx} {f : Port → Port} (h : f (s.port p) = s.port p) :
    s.modPort p f = s := by
  rw [State.modPort, h]
  simp [State.port]

/-- What a line input does, by what it brings about in the receiver. -/
theorem State.lineInput_quiet_input {s : State} {p : PortIx} {input : LineInput} {r : Receiver}
    (h : (s.port p).rx.take input = (r, .quiet)) :
    s.lineInput p input = s.modPort p fun y => { y with rx := r } := by
  simp only [State.lineInput, h]

theorem State.lineInput_bad {s : State} {p : PortIx} {input : LineInput} {r : Receiver}
    (h : (s.port p).rx.take input = (r, .bad)) :
    s.lineInput p input = s.modPort p fun y => { y with
      rx := r, counters := { y.counters with bad := satInc y.counters.bad } } := by
  simp only [State.lineInput, h, State.badFrame, State.countPort, State.modPort_modPort]

theorem State.lineInput_ended_bad {s : State} {p : PortIx} {input : LineInput} {r : Receiver} {content : List Byte}
    (h : (s.port p).rx.take input = (r, .ended content)) (hm : messageOf content = none) :
    s.lineInput p input = s.modPort p fun y => { y with
      rx := r, counters := { y.counters with bad := satInc y.counters.bad } } := by
  simp only [State.lineInput, h, hm, State.badFrame, State.countPort, State.modPort_modPort]

theorem State.lineInput_ended_good {s : State} {p : PortIx} {input : LineInput} {r : Receiver} {content : List Byte}
    {m : Message} (h : (s.port p).rx.take input = (r, .ended content)) (hm : messageOf content = some m) :
    s.lineInput p input = (s.modPort p fun y => { y with rx := r }).goodFrame p m := by
  simp only [State.lineInput, h, hm]

/-- An input that does not touch the receiver changes nothing. -/
theorem State.lineInput_idle {s : State} {p : PortIx} {input : LineInput}
    (h : (s.port p).rx.take input = ((s.port p).rx, .quiet)) : s.lineInput p input = s := by
  rw [State.lineInput_quiet_input h]
  exact State.modPort_of_eq rfl

theorem exec_characterReceived {s t : State} {p : PortIx} {x : Byte} (h : s.lineInput p (.char x) = t) :
    exec (.characterReceived p x) s = .next t.settle := h ▸ rfl

theorem exec_badFrame {s t : State} {p : PortIx} {input : LineInput} (h : s.lineInput p input = t) :
    exec (.badFrame p input) s = .next t.settle := h ▸ rfl

end Sys2Proof.Machine

namespace Sys2Proof.Proofs

open Sys2Proof Sys2Proof.Machine

/-- Settles O15, one row of the receiver's table after the other. -/
theorem receiverTable : Obligations.ReceiverTable := by
  unfold Obligations.ReceiverTable
  refine ⟨fun s p x hs => exec_characterReceived ?_, fun s p hs hb => exec_characterReceived (State.lineInput_idle ?_),
    fun s p hs h1 h3 => exec_badFrame (State.lineInput_bad ?_),
    fun s p hs h4 hm => exec_badFrame (State.lineInput_ended_bad ?_ hm),
    fun s p m hs h4 hm => exec_characterReceived (State.lineInput_ended_good ?_ hm),
    fun s p hs => exec_characterReceived ?_, fun s p x hs hd he room => exec_characterReceived ?_,
    fun s p x hs hd he full => exec_badFrame (State.lineInput_bad ?_),
    fun s p hs => exec_badFrame (State.lineInput_bad ?_), fun s p x hs hd room => exec_characterReceived ?_,
    fun s p x hs hd full => exec_badFrame (State.lineInput_bad ?_), fun s p => exec_badFrame ?_⟩
  · split
    next hx => exact State.lineInput_quiet_input (by simp only [Receiver.take, hs, hx, delimiter, if_true])
    next hx => exact State.lineInput_idle (by simp only [Receiver.take, hs, delimiter, hx, if_false])
  · generalize (s.port p).rx = r at hs hb ⊢
    cases r
    simp_all [Receiver.take, Receiver.close, delimiter]
  · have : (s.port p).rx.buffer ≠ [] := List.ne_nil_of_length_pos h1
    simp [Receiver.take, hs, Receiver.close, delimiter, this, Nat.lt_succ_of_le h3]
  · have : (s.port p).rx.buffer ≠ [] := List.ne_nil_of_length_pos (by omega)
    simp [Receiver.take, hs, Receiver.close, delimiter, this, Nat.not_lt.mpr h4]
  · have : (s.port p).rx.buffer ≠ [] := List.ne_nil_of_length_pos (by omega)
    simp [Receiver.take, hs, Receiver.close, delimiter, this, Nat.not_lt.mpr h4]
  · exact State.lineInput_quiet_input (by simp [Receiver.take, hs, delimiter, escape])
  · exact State.lineInput_quiet_input
      (by simp only [Receiver.take, hs, delimiter, escape, hd, he, Receiver.append, Config.maxContent, room, if_true, if_false])
  · simp only [Receiver.take, hs, delimiter, escape, hd, he, Receiver.append, Config.maxContent, Nat.not_lt.mpr full, if_false]
  · simp [Receiver.take, hs, delimiter]
  · exact State.lineInput_quiet_input
      (by simp only [Receiver.take, hs, delimiter, hd, Receiver.append, Config.maxContent, room, if_true, if_false])
  · simp only [Receiver.take, hs, delimiter, hd, Receiver.append, Config.maxContent, Nat.not_lt.mpr full, if_false]
  · split
    next hs => exact State.lineInput_idle (by simp [Receiver.take, hs])
    next hs =>
      refine State.lineInput_bad ?_
      cases h : (s.port p).rx.state <;> simp_all [Receiver.take]

/-- Settles O16: rows 2, 3 and 4 of R168. -/
theorem requestHandlingRows : Obligations.RequestHandlingRows := by
  unfold Obligations.RequestHandlingRows
  refine ⟨fun s p kind q body hb hk full => ?_, fun s p kind q body c hb hk room hc hck hcq => ?_,
    fun s p kind q body hk h => ?_⟩
  · have fits : bodyFits body = true := decide_eq_true hb
    have frame : s.requestFrame p kind q body =
        (s.arrived p).countPort p fun c => { c with overruns := satInc c.overruns } := by
      rw [State.requestFrame_arrived _ _ _ _ _ fits, if_neg hk, State.takeRequest, if_pos]
      simpa [State.arrived_port, Config.replyRoom] using full
    rw [← frame]
    rfl
  · have fits : bodyFits body = true := decide_eq_true hb
    have cached : (s.arrived p).cachedReply p kind q = some c.reply := by
      simp [State.cachedReply, State.arrived_port, hc, hck, hcq]
    have frame : s.requestFrame p kind q body =
        ((s.arrived p).countPort p fun c => { c with duplicates := satInc c.duplicates }).appendReply p c.reply := by
      rw [State.requestFrame_arrived _ _ _ _ _ fits, if_neg hk, State.takeRequest, if_neg, cached]
      simpa [State.arrived_port, Config.replyRoom] using room
    rw [← frame]
    rfl
  · have unknown : isRequestKind kind = false := by
      obtain rfl | hk := hk
      · rfl
      · simp only [isRequestKind, decide_eq_false_iff_not]
        omega
    have frame := State.requestFrame_takes h
    rw [if_neg (by simp [unknown])] at frame
    exact congrArg (fun t : State => Host.Outcome.next t.settle) frame

end Sys2Proof.Proofs
end

section
/-! PROOF. What a refused request leaves as it is (00_scope.md, Conventions; chapters 9 and 12). -/

namespace Sys2Proof.Machine

/-- What a request answers at state `s`: a status byte alone with nothing changed, or a status below 0x10. -/
def answersAt (s : State) (x : State × Reply) : Prop :=
  (x.1 = s ∧ x.2.length = 1) ∨ ∃ status rest, x.2 = status :: rest ∧ status.toNat < 0x10

theorem answersAt_refusal (s : State) (e : ReplyStatus) : answersAt s (s, answer e) := .inl ⟨rfl, rfl⟩

theorem answersAt_of_low {s t : State} {status : Byte} {rest : Reply} (h : status.toNat < 0x10) :
    answersAt s (t, status :: rest) := .inr ⟨status, rest, rfl, h⟩

section

variable (s : State) (p : PortIx) (body : List Byte)

theorem State.openRequest_answers : answersAt s (s.openRequest p body) := by
  unfold State.openRequest
  repeat' split
  all_goals first | exact answersAt_refusal s _ | exact answersAt_of_low (by decide)

theorem State.closeRequest_answers : answersAt s (s.closeRequest p body) := by
  unfold State.closeRequest
  split
  · exact answersAt_refusal s _
  · exact answersAt_of_low (by decide)

theorem State.queryRequest_answers : answersAt s (s.queryRequest p body) := by
  unfold State.queryRequest State.querySubject State.queryTransaction State.queryCounters State.onBus
    State.queryBusCounters State.queryPortCounters
  repeat' split
  all_goals first | exact answersAt_refusal s _ | exact answersAt_of_low (by decide)

theorem State.rewindRequest_answers : answersAt s (s.rewindRequest p body) := by
  unfold State.rewindRequest
  split
  · exact answersAt_refusal s _
  · exact answersAt_of_low (by decide)

theorem State.submitRequest_answers : answersAt s (s.submitRequest p body) := by
  unfold State.submitRequest State.submitFields
  repeat' split
  all_goals first | exact answersAt_refusal s _ | exact answersAt_of_low (by decide)

theorem State.cancelRequest_answers : answersAt s (s.cancelRequest p body) := by
  unfold State.cancelRequest
  repeat' split
  all_goals first | exact answersAt_refusal s _ | exact answersAt_of_low (by decide)

theorem State.claimRequest_answers : answersAt s (s.claimRequest p body) := by
  unfold State.claimRequest State.claimFields
  dsimp only
  repeat' split
  all_goals first | exact answersAt_refusal s _ | exact answersAt_of_low (by decide)

theorem State.renewRequest_answers : answersAt s (s.renewRequest p body) := by
  unfold State.renewRequest
  repeat' split
  all_goals first | exact answersAt_refusal s _ | exact answersAt_of_low (by decide)

theorem State.releaseRequest_answers : answersAt s (s.releaseRequest p body) := by
  unfold State.releaseRequest
  repeat' split
  all_goals first | exact answersAt_refusal s _ | exact answersAt_of_low (by decide)

theorem State.revokeRequest_answers : answersAt s (s.revokeRequest p body) := by
  unfold State.revokeRequest
  repeat' split
  all_goals first | exact answersAt_refusal s _ | exact answersAt_of_low (by decide)

theorem State.groupCreateRequest_answers : answersAt s (s.groupCreateRequest p body) := by
  unfold State.groupCreateRequest
  repeat' split
  all_goals first | exact answersAt_refusal s _ | exact answersAt_of_low (by decide)

theorem State.groupArmRequest_answers : answersAt s (s.groupArmRequest p body) := by
  unfold State.groupArmRequest
  repeat' split
  all_goals first | exact answersAt_refusal s _ | exact answersAt_of_low (by decide)

theorem State.groupFireRequest_answers : answersAt s (s.groupFireRequest p body) := by
  unfold State.groupFireRequest
  repeat' split
  all_goals first | exact answersAt_refusal s _ | exact answersAt_of_low (by decide)

theorem State.groupBindRequest_answers : answersAt s (s.groupBindRequest p body) := by
  unfold State.groupBindRequest State.bindLine
  repeat' split
  all_goals first | exact answersAt_refusal s _ | exact answersAt_of_low (by decide)

theorem State.groupDeleteRequest_answers : answersAt s (s.groupDeleteRequest p body) := by
  unfold State.groupDeleteRequest
  repeat' split
  all_goals first | exact answersAt_refusal s _ | exact answersAt_of_low (by decide)

theorem State.watchAddRequest_answers : answersAt s (s.watchAddRequest p body) := by
  unfold State.watchAddRequest State.watchAddFields
  repeat' split
  all_goals first | exact answersAt_refusal s _ | exact answersAt_of_low (by decide)

theorem State.watchRemoveRequest_answers : answersAt s (s.watchRemoveRequest p body) := by
  unfold State.watchRemoveRequest
  repeat' split
  all_goals first | exact answersAt_refusal s _ | exact answersAt_of_low (by decide)

theorem State.watchResumeRequest_answers : answersAt s (s.watchResumeRequest p body) := by
  unfold State.watchResumeRequest
  repeat' split
  all_goals first | exact answersAt_refusal s _ | exact answersAt_of_low (by decide)

theorem State.targetOwnRequest_answers : answersAt s (s.targetOwnRequest p body) := by
  unfold State.targetOwnRequest
  repeat' split
  all_goals first | exact answersAt_refusal s _ | exact answersAt_of_low (by decide)

theorem State.targetLoadRequest_answers : answersAt s (s.targetLoadRequest p body) := by
  unfold State.targetLoadRequest State.loadReplace State.loadAppend
  dsimp only
  repeat' split
  all_goals first | exact answersAt_refusal s _ | exact answersAt_of_low (by decide)

theorem State.busConfigureRequest_answers : answersAt s (s.busConfigureRequest p body) := by
  unfold State.busConfigureRequest
  dsimp only
  repeat' split
  all_goals first | exact answersAt_refusal s _ | exact answersAt_of_low (by decide)

theorem State.busRecoverRequest_answers : answersAt s (s.busRecoverRequest body) := by
  unfold State.busRecoverRequest
  repeat' split
  all_goals first | exact answersAt_refusal s _ | exact answersAt_of_low (by decide)

theorem State.resetBrokerRequest_answers : answersAt s (s.resetBrokerRequest p body) := by
  unfold State.resetBrokerRequest
  split
  · exact answersAt_refusal s _
  split
  · exact answersAt_refusal s _
  · exact answersAt_of_low (by decide)

theorem State.serve_answers (kind : Byte) : answersAt s (s.serve p kind body) := by
  unfold State.serve State.serveOpen
  split
  · exact s.openRequest_answers p body
  split
  · split
    · exact s.closeRequest_answers p body
    · exact s.queryRequest_answers p body
    · exact s.rewindRequest_answers p body
    · exact s.submitRequest_answers p body
    · exact s.cancelRequest_answers p body
    · exact s.claimRequest_answers p body
    · exact s.renewRequest_answers p body
    · exact s.releaseRequest_answers p body
    · exact s.revokeRequest_answers p body
    · exact s.groupCreateRequest_answers p body
    · exact s.groupArmRequest_answers p body
    · exact s.groupFireRequest_answers p body
    · exact s.groupBindRequest_answers p body
    · exact s.groupDeleteRequest_answers p body
    · exact s.watchAddRequest_answers p body
    · exact s.watchRemoveRequest_answers p body
    · exact s.watchResumeRequest_answers p body
    · exact s.targetOwnRequest_answers p body
    · exact s.targetLoadRequest_answers p body
    · exact s.busConfigureRequest_answers p body
    · exact s.busRecoverRequest_answers body
    · exact s.resetBrokerRequest_answers p body
    · exact answersAt_refusal s _
  · exact answersAt_refusal s _

end

/-- A request that is refused with status `e`, whatever row carries its frame. -/
theorem exec_refused {c : Instr} {s : State} {p : PortIx} {kind q : Byte} {body : List Byte} {r : Reply}
    (hf : frameOf c = some (p, kind, q, body)) (hk : isRequestKind kind = true) (h : s.takes p kind q body = true)
    (hs : (s.arrived p).serve p kind body = (s.arrived p, r)) :
    exec c s = .next ((s.arrived p).replied p kind q r) := by
  rw [exec_takes_unmoved hf hk h (by rw [hs]; rfl), hs]

/-- A request refused by the rule of its block, in an OPEN session. -/
theorem exec_open_refused {c : Instr} {s : State} {p : PortIx} {kind q : Byte} {body : List Byte} {r : Reply}
    (hf : frameOf c = some (p, kind, q, body)) (hk : isRequestKind kind = true) (hk1 : kind ≠ 1)
    (ho : (s.session p).state = .opened) (h : s.takes p kind q body = true)
    (hs : (s.arrived p).serveOpen p kind body = (s.arrived p, r)) :
    exec c s = .next ((s.arrived p).replied p kind q r) :=
  exec_refused hf hk h (by rw [State.serve_open (s := s.arrived p) ho hk1, hs])

theorem isRequestKind_of_le {kind : Byte} (h1 : 1 ≤ kind.toNat) (h2 : kind.toNat ≤ 0x18) : isRequestKind kind = true :=
  decide_eq_true ⟨h1, h2⟩

/-! ### Bodies of the wrong length (R182) -/

theorem parseOpen_none {body : List Byte} (h : body.length ≠ 4) : parseOpen body = none := by
  unfold parseOpen
  split
  · exact absurd rfl h
  · rfl

theorem parseByte_none {body : List Byte} (h : body.length ≠ 1) : parseByte body = none := by
  unfold parseByte
  split
  · exact absurd rfl h
  · rfl

theorem parseClaim_none {body : List Byte} (h : body.length ≠ 6) : parseClaim body = none := by
  unfold parseClaim
  split
  · exact absurd rfl h
  · rfl

theorem parseRenew_none {body : List Byte} (h : body.length ≠ 3) : parseRenew body = none := by
  unfold parseRenew
  split
  · exact absurd rfl h
  · rfl

theorem parseBind_none {body : List Byte} (h : body.length ≠ 3) : parseBind body = none := by
  unfold parseBind
  split
  · exact absurd rfl h
  · rfl

theorem parseOwn_none {body : List Byte} (h : body.length ≠ 2) : parseOwn body = none := by
  unfold parseOwn
  split
  · exact absurd rfl h
  · rfl

theorem parseConfigure_none {body : List Byte} (h : body.length ≠ 9) : parseConfigure body = none := by
  unfold parseConfigure
  split
  · exact absurd rfl h
  · rfl

/-- The rule of a block refuses a body of the wrong length. -/
theorem State.serveOpen_wrongLength (s : State) (p : PortIx) {kind : Byte} {body : List Byte} {n : Nat}
    (hn : requestLength kind = some n) (hb : body.length ≠ n) (h1 : kind ≠ 1) :
    s.serveOpen p kind body = (s, answer .malformed) := by
  unfold requestLength at hn
  split at hn
  next hk => exact absurd (BitVec.eq_of_toNat_eq hk) h1
  all_goals cases hn
  case h_2 hk | h_3 hk | h_4 hk | h_5 hk =>
    have nonempty : body ≠ [] := fun he => hb (congrArg List.length he)
    simp only [State.serveOpen, hk, State.closeRequest, State.rewindRequest, State.groupCreateRequest,
      State.resetBrokerRequest, nonempty, ne_eq, not_false_eq_true, if_true]
  case h_6 hk | h_7 hk | h_8 hk | h_9 hk | h_10 hk | h_11 hk | h_12 hk | h_13 hk | h_14 hk =>
    simp only [State.serveOpen, hk, State.cancelRequest, State.releaseRequest, State.revokeRequest,
      State.groupArmRequest, State.groupFireRequest, State.groupDeleteRequest, State.watchRemoveRequest,
      State.watchResumeRequest, State.busRecoverRequest, parseByte_none hb]
  case h_15 hk => simp only [State.serveOpen, hk, State.claimRequest, parseClaim_none hb]
  case h_16 hk => simp only [State.serveOpen, hk, State.renewRequest, parseRenew_none hb]
  case h_17 hk => simp only [State.serveOpen, hk, State.groupBindRequest, parseBind_none hb]
  case h_18 hk => simp only [State.serveOpen, hk, State.targetOwnRequest, parseOwn_none hb]
  case h_19 hk => simp only [State.serveOpen, hk, State.busConfigureRequest, parseConfigure_none hb]

theorem requestLength_isRequestKind {kind : Byte} {n : Nat} (h : requestLength kind = some n) :
    isRequestKind kind = true := by
  refine decide_eq_true ?_
  unfold requestLength at h
  split at h
  all_goals first | omega | cases h

end Sys2Proof.Machine

namespace Sys2Proof.Proofs

open Sys2Proof Sys2Proof.Machine

/-- Settles O17: the session state is examined before the request's own rule. -/
theorem notOpenIsRefused : Obligations.NotOpenIsRefused := by
  unfold Obligations.NotOpenIsRefused
  intro c s p kind q body hf h2 h18 ht ho
  refine exec_refused hf (isRequestKind_of_le (by omega) h18) ht ?_
  have h1 : kind ≠ 1 := by
    rintro rfl
    exact absurd h2 (by decide)
  have closed : (s.arrived p).isOpen p = false := decide_eq_false ho
  rw [State.serve, if_neg h1, if_neg (by simp [closed])]
  rfl

/-- Settles O18: a rule that answers a status of 0x10 or more answers it alone and leaves its state. -/
theorem refusalsChangeNothing : Obligations.RefusalsChangeNothing := by
  unfold Obligations.RefusalsChangeNothing
  intro c s p kind q body status rest hf h1 h18 ht hr high
  obtain ⟨same, alone⟩ | ⟨low, tail, hl, hlow⟩ := (s.arrived p).serve_answers p body kind
  · refine exec_refused hf (isRequestKind_of_le h1 h18) ht (Prod.ext same ?_)
    rw [hr] at alone ⊢
    simpa using alone
  · rw [hr] at hl
    cases hl
    omega

/-- Settles O19: a parser reads bodies of one length alone. -/
theorem wrongLengthIsMalformed : Obligations.WrongLengthIsMalformed := by
  unfold Obligations.WrongLengthIsMalformed
  intro c s p kind q body n hf hn hb ht ho
  have hk := requestLength_isRequestKind hn
  by_cases h1 : kind = 0x01
  · subst h1
    refine exec_refused hf hk ht ?_
    cases hn
    rw [State.serve, if_pos rfl, State.openRequest, parseOpen_none hb]
    rfl
  · exact exec_open_refused hf hk h1 (ho.resolve_left h1) ht (State.serveOpen_wrongLength _ p hn hb h1)

/-- Settles O20: each of the four rules asks for the primary session before it looks at a value. -/
theorem othersAreDenied : Obligations.OthersAreDenied := by
  unfold Obligations.OthersAreDenied
  intro c s p kind q body hf hp ho ht h
  have other : (s.arrived p).isPrimary p = false := by simp [State.isPrimary, hp]
  obtain ⟨rfl, hb⟩ | ⟨rfl, hb⟩ | ⟨rfl, rfl⟩ | ⟨scope, number, rfl, rfl⟩ := h
  · refine exec_open_refused hf (by decide) (by decide) ho ht ?_
    obtain ⟨x, hx⟩ : ∃ x, parseConfigure body = some x := by
      match body, hb with
      | [_, _, _, _, _, _, _, _, _], _ => exact ⟨_, rfl⟩
    change (s.arrived p).busConfigureRequest p body = _
    simp only [State.busConfigureRequest, hx, other, Bool.not_false, if_true]
    rfl
  · refine exec_open_refused hf (by decide) (by decide) ho ht ?_
    obtain ⟨x, rfl⟩ := List.length_eq_one_iff.mp hb
    change (s.arrived p).revokeRequest p [x] = _
    simp only [State.revokeRequest, parseByte, other, Bool.not_false, if_true]
    rfl
  · refine exec_open_refused hf (by decide) (by decide) ho ht ?_
    change (s.arrived p).resetBrokerRequest p [] = _
    simp only [State.resetBrokerRequest, other, Bool.not_false, ne_eq, not_true_eq_false, if_true, if_false]
    rfl
  · refine exec_open_refused hf (by decide) (by decide) ho ht ?_
    change (s.arrived p).queryCounters p scope number 1 = _
    simp only [State.queryCounters, other, decide_true, Bool.not_false, Bool.and_self, if_true]
    rfl

end Sys2Proof.Proofs
end

section
/-! PROOF. The end of a frame, OPEN, and NOTICE_ACK with the admissions that follow it (chapters 9, 10 and 12). -/

namespace Sys2Proof.Machine

/-! ### The transmitter's choice -/

theorem takeUnsent_of_all_sent {l : List OutboxEntry} (h : ∀ e ∈ l, e.sent = true) : takeUnsent l = none := by
  induction l with
  | nil => rfl
  | cons e l ih =>
    obtain ⟨he, hl⟩ := List.forall_mem_cons.mp h
    rw [takeUnsent, if_pos he, ih hl, Option.map_none]

theorem takeUnsent_append {older newer : List OutboxEntry} {e : OutboxEntry} (h : ∀ x ∈ older, x.sent = true)
    (he : e.sent = false) :
    takeUnsent (older ++ e :: newer) = some (e, older ++ { e with sent := true, everSent := true } :: newer) := by
  induction older with
  | nil => rw [List.nil_append, takeUnsent, if_neg (by simp [he]), List.nil_append]
  | cons d older ih =>
    obtain ⟨hd, hl⟩ := List.forall_mem_cons.mp h
    rw [List.cons_append, takeUnsent, if_pos hd, ih hl, Option.map_some, List.cons_append]

theorem State.kick_of_settledAt {s : State} {p : PortIx} (h : s.settledAt p) : s.kick p = s := by
  obtain ⟨-, hk⟩ | ⟨ht, m, rest, hr, -⟩ | ⟨-, -, -, hk⟩ | ⟨ht, -, e, out, hu, -⟩ := s.kick_cases p
  · exact hk
  · simp [State.settledAt, ht, hr] at h
  · exact hk
  · obtain h | ⟨-, h⟩ := h
    · exact absurd ht h
    · rw [takeUnsent_of_all_sent h] at hu
      cases hu

/-- Where all other transmitters are settled, an event ends with one port's choice. -/
theorem State.settle_eq_kick {s : State} {p : PortIx} (h : ∀ q, q ≠ p → s.settledAt q) : s.settle = s.kick p := by
  have other {t : State} {q : PortIx} (ht : t.settledAt q) : t.kick q = t := State.kick_of_settledAt ht
  obtain rfl | rfl | rfl := PortIx.cases p
  · rw [State.settle, other (State.kick_settledAt_other (h 1 (by decide))),
      other (State.kick_settledAt_other (h 2 (by decide)))]
  · rw [State.settle, other (h 0 (by decide)), other (State.kick_settledAt_other (h 2 (by decide)))]
  · rw [State.settle, other (h 0 (by decide)), other (h 1 (by decide))]

theorem State.settle_of_settled {s : State} (h : s.settled) : s.settle = s := by
  rw [State.settle_eq_kick (p := 0) fun q _ => h q, State.kick_of_settledAt (h 0)]

theorem State.modSession_after_modPort (s : State) (p : PortIx) (f : Port → Port) (g : Session → Session) :
    (s.modPort p f).modSession p g = (s.modSession p g).modPort p f := rfl

/-- The end of a frame on port `p` in a settled state leaves that port's choice. -/
theorem State.frameSent_settle {s : State} (h : s.settled) (p : PortIx) :
    (s.frameSent p).settle = (s.frameSent p).chooseFrame p := by
  rw [State.settle_eq_kick (p := p) fun q hq => by simpa [State.frameSent, State.modPort_port, hq, State.settledAt] using h q,
    State.kick, if_pos (by simp [State.frameSent, State.modPort_port])]

/-- Four bytes of a 32-bit field, most significant first, make the field. -/
theorem be32_append (x : Clock) :
    ((((x >>> 24).setWidth 8 : Byte) ++ ((x >>> 16).setWidth 8 : Byte)) ++ ((x >>> 8).setWidth 8 : Byte)) ++
      (x.setWidth 8 : Byte) = x := by
  refine BitVec.eq_of_toNat_eq ?_
  simp only [BitVec.toNat_append, BitVec.toNat_setWidth, BitVec.toNat_ushiftRight, Nat.shiftRight_eq_div_pow]
  have h (a b : Nat) (hb : b < 2 ^ 8) : a <<< 8 ||| b = a * 256 + b := by
    rw [← Nat.shiftLeft_add_eq_or_of_lt hb, Nat.shiftLeft_eq]
  rw [h _ _ (Nat.mod_lt _ (by decide)), h _ _ (Nat.mod_lt _ (by decide)), h _ _ (Nat.mod_lt _ (by decide))]
  have := x.isLt
  omega

/-! ### OPEN (R146) -/

theorem openFieldsAllowed_iff (window mask hi lo : Byte) : openFieldsAllowed window mask (half hi lo) = true ↔
    1 ≤ window.toNat ∧ window.toNat ≤ 32 ∧ mask.toNat ≤ 3 ∧
      (hi ++ lo = 0#16 ∨ (50 ≤ (hi ++ lo).toNat ∧ (hi ++ lo).toNat ≤ 5000)) := by
  simp only [openFieldsAllowed, half, Bool.and_eq_true, decide_eq_true_iff, and_assoc]
  exact and_congr_right fun _ => and_congr_right fun _ => and_congr_right fun _ => decide_eq_true_iff

/-- The bits of a notice mask (section 12.2). -/
theorem mask_bits : ∀ mask : Byte, mask.toNat ≤ 3 →
    mask.getLsbD 0 = decide (mask = 1 ∨ mask = 3) ∧ mask.getLsbD 1 = decide (mask = 2 ∨ mask = 3) := by decide

theorem State.serve_open_request (s : State) (p : PortIx) (body : List Byte) :
    s.serve p 0x01 body = s.openRequest p body := if_pos rfl

/-! ### NOTICE_ACK (R158) and the admissions after it (R156) -/

theorem ackOutbox_append {older newer : List OutboxEntry} {e : OutboxEntry} {n : Byte} (h : ∀ x ∈ older, x.seq ≠ n)
    (he : e.seq = n) : ackOutbox n (older ++ e :: newer) = if e.everSent then some newer else none := by
  induction older with
  | nil => rw [List.nil_append, ackOutbox, if_pos he]
  | cons d older ih =>
    obtain ⟨hd, hl⟩ := List.forall_mem_cons.mp h
    rw [List.cons_append, ackOutbox, if_neg hd, ih hl]

theorem ackOutbox_none {l : List OutboxEntry} {n : Byte} (h : ∀ x ∈ l, x.seq = n → x.everSent = false) :
    ackOutbox n l = none := by
  induction l with
  | nil => rfl
  | cons e l ih =>
    obtain ⟨he, hl⟩ := List.forall_mem_cons.mp h
    rw [ackOutbox]
    split
    next hn => rw [if_neg (by simp [he hn])]
    next => exact ih hl

theorem exec_noticeAck (s : State) (p : PortIx) (q : Byte) {body : List Byte} (h : body.length ≤ 96) :
    exec (.noticeAck p q body) s = .next ((s.arrived p).noticeAck p body).settle := by
  have frame : s.requestFrame p 0x04 q body = (s.arrived p).noticeAck p body := by
    rw [State.requestFrame_arrived _ _ _ _ _ (decide_eq_true h), if_pos rfl]
  rw [← frame]
  rfl

/-- A NOTICE_ACK without effect. -/
theorem State.noticeAck_stray {s : State} {p : PortIx} {body : List Byte}
    (h : s.isOpen p = true → (parseByte body).bind (s.ackNotices p) = none) :
    s.noticeAck p body = s.countPort p fun c => { c with strayAcks := satInc c.strayAcks } := by
  unfold State.noticeAck
  dsimp only
  split
  next ho => rw [h ho, Option.getD_none]
  next => rw [Option.getD_none]

/-- More rounds than are left to do change nothing. -/
theorem State.admitRounds_congr {m n : Nat} (s : State) (p : PortIx) (hm : s.admissionsLeft p ≤ m)
    (hn : s.admissionsLeft p ≤ n) : s.admitRounds m p = s.admitRounds n p := by
  have stop (k : Nat) (t : State) (h : ¬((t.session p).hasRoom && !(t.session p).admission.isEmpty) = true) :
      t.admitRounds k p = t := by
    cases k with
    | zero => rfl
    | succ k => rw [State.admitRounds, if_neg h]
  induction m generalizing s n with
  | zero =>
    refine (stop 0 s ?_).trans (stop n s ?_).symm <;>
    · simp only [State.admissionsLeft, Nat.le_zero, Nat.add_eq_zero_iff, List.length_eq_zero_iff] at hm
      simp [hm.2]
  | succ m ih =>
    by_cases more : ((s.session p).hasRoom && !(s.session p).admission.isEmpty) = true
    · obtain ⟨room, waiting⟩ : (s.session p).outbox.length < Config.outboxRoom ∧ (s.session p).admission ≠ [] := by
        simpa [Session.hasRoom] using more
      have less := s.admitHead_admissionsLeft p room waiting
      cases n with
      | zero => omega
      | succ n =>
        rw [State.admitRounds, State.admitRounds, if_pos more, if_pos more]
        exact ih _ (by omega) (by omega)
    · rw [stop _ s more, stop _ s more]

theorem State.admitFromList_eq_rounds (s : State) (p : PortIx) {n : Nat} (hn : s.admissionsLeft p ≤ n) :
    s.admitFromList p = s.admitRounds n p :=
  s.admitRounds_congr p (by simp [State.admissionsLeft]) hn

/-- R156, its end: a full outbox, or an empty list. -/
theorem State.admitFromList_stop {s : State} {p : PortIx}
    (h : 16 ≤ (s.session p).outbox.length ∨ (s.session p).admission = []) : s.admitFromList p = s := by
  unfold State.admitFromList
  rw [Config.outboxRoom, Nat.add_comm, State.admitRounds, if_neg]
  obtain h | h := h
  · simp [Session.hasRoom, Config.outboxRoom, Nat.not_lt.mpr h]
  · simp [h]

/-- R156, one round: the head of the list, then the rest. -/
theorem State.admitFromList_head {s : State} {p : PortIx} (room : (s.session p).outbox.length < 16)
    (waiting : (s.session p).admission ≠ []) : s.admitFromList p = (s.admitHead p).admitFromList p := by
  have less := s.admitHead_admissionsLeft p room waiting
  have more : ((s.session p).hasRoom && !(s.session p).admission.isEmpty) = true := by
    rw [Session.hasRoom, decide_eq_true (p := (s.session p).outbox.length < Config.outboxRoom) room]
    simpa using waiting
  rw [s.admitFromList_eq_rounds p (Nat.le_succ _), State.admitRounds, if_pos more,
    State.admitFromList_eq_rounds _ p (Nat.le_of_lt less)]

theorem watchReport_eq_none {id : Byte} {w : Watch} :
    watchReport id w = none ↔ w.valueReport = none ∧ w.suspensionReport = none := by
  unfold watchReport
  cases hv : w.valueReport <;> cases hu : w.suspensionReport <;> simp
  split <;> simp

/-- A watch entry keeps a report after its first admission exactly when it held two (R128). -/
theorem watchReport_watchAdmitted (id : Byte) (w : Watch) :
    watchReport id (watchAdmitted w) ≠ none ↔ w.valueReport ≠ none ∧ w.suspensionReport ≠ none := by
  rw [ne_eq, watchReport_eq_none]
  unfold watchAdmitted
  cases hv : w.valueReport <;> cases hu : w.suspensionReport
  case some.some =>
    dsimp only
    split <;> simp
  all_goals simp [*]

/-- What a source holds once it is released. -/
theorem State.reportOf_releaseSource (s : State) (p : PortIx) (src : Source) (h : ∀ i, src ≠ .watch i) :
    (s.releaseSource p src).reportOf p src = none := by
  cases src with
  | watch i => exact absurd rfl (h i)
  | record i => simp [State.releaseSource, State.reportOf, State.freeRecord_record]
  | lease i =>
    simp only [State.releaseSource]
    cases he : s.lease i with
    | none => simp [State.reportOf, he]
    | some e =>
      dsimp only
      split <;> simp [State.reportOf, State.freeLease_lease, State.putLease_lease, leaseReport]
  | group i =>
    simp only [State.releaseSource]
    cases he : s.group i with
    | none => simp [State.reportOf, he]
    | some g => simp [State.reportOf, State.putGroup_group]
  | inbound b k => simp [State.releaseSource, State.reportOf, State.modTarget, InSlot.empty]
  | tally b => simp [State.releaseSource, State.reportOf, State.modTarget]
  | busEvent b => simp [State.releaseSource, State.reportOf, State.modSession_session]

/-- After one admission only a watch entry may hold a report still. -/
theorem State.reportOf_admitOne {s : State} {p : PortIx} {src : Source} (h : ∀ i, src ≠ .watch i) :
    (s.admitOne p src).reportOf p src = none := by
  obtain ⟨hn, hs⟩ | ⟨r, -, hs⟩ := s.admitOne_cases p src <;> rw [hs]
  · exact hn
  · exact State.reportOf_releaseSource _ p src h

theorem State.reportOf_admitOne_watch {s : State} {p : PortIx} {i : Fin 12} {w : Watch} (hw : s.watch i = some w) :
    (s.admitOne p (.watch i)).reportOf p (.watch i) ≠ none ↔ w.valueReport ≠ none ∧ w.suspensionReport ≠ none := by
  obtain ⟨hn, hs⟩ | ⟨r, -, hs⟩ := s.admitOne_cases p (.watch i)
  · rw [hs, hn]
    simp only [State.reportOf, hw, Option.bind_some, watchReport_eq_none] at hn
    simp [hn]
  · rw [hs]
    have released : ((s.modSession p fun x => x.push r).releaseSource p (.watch i)).watch i = some (watchAdmitted w) := by
      simp [State.releaseSource, State.modWatch, hw, State.putWatch_watch]
    simp only [State.reportOf, released, Option.bind_some]
    exact watchReport_watchAdmitted _ w

end Sys2Proof.Machine

namespace Sys2Proof.Proofs

open Sys2Proof Sys2Proof.Machine

/-- Settles O21: the choice of the one transmitter that has become idle, and the bodies by the definition of each layout. -/
theorem transmitFrameEnd : Obligations.TransmitFrameEnd := by
  unfold Obligations.TransmitFrameEnd
  have ends (s : State) (p : PortIx) (h : s.settled) :
      exec (.transmitFrameEnd p) s = .next ((s.frameSent p).chooseFrame p) :=
    congrArg Host.Outcome.next (State.frameSent_settle h p)
  refine ⟨fun s p m rest h hr => ?_, fun s p older newer e h hr ho hsent he => ?_, fun s p h hr hsent => ?_,
    fun tag r attempts lastRetry => ⟨rfl, ?_⟩, rfl, fun _ _ _ _ _ _ => ⟨rfl, rfl⟩, fun _ _ _ _ reason _ grant => ⟨rfl, ?_⟩,
    fun _ f => ⟨rfl, ?_⟩, fun _ _ _ _ _ => ⟨rfl, ?_⟩, fun _ _ _ _ _ => ⟨rfl, rfl⟩, fun _ _ c time hc => ⟨rfl, ?_⟩,
    fun _ _ => ⟨rfl, rfl⟩, fun _ e => ⟨rfl, ?_⟩, fun x => ?_, fun x => ⟨_, _, _, _, rfl, be32_append x⟩⟩
  · rw [ends s p h, State.chooseFrame]
    simp only [State.frameSent, State.modPort_port, if_true, hr, State.modPort_modPort]
  · rw [ends s p h, State.chooseFrame]
    simp only [State.frameSent, State.modPort_port, if_true, hr, State.modPort_session, ho, takeUnsent_append hsent he,
      State.modSession_after_modPort, State.modPort_modPort, timerAfterTake, Option.isNone_iff_eq_none]
    rfl
  · rw [ends s p h, State.chooseFrame]
    simp only [State.frameSent, State.modPort_port, if_true, hr, State.modPort_session, takeUnsent_of_all_sent hsent]
  · cases lastRetry <;> rfl
  · cases reason <;> cases grant <;> rfl
  · rfl
  · rfl
  · simp only [noticeBody, hc]
    rfl
  · rfl
  · obtain ⟨hi, lo, joined, form⟩ := exists_be16_eq_pair x
    exact ⟨hi, lo, form, joined⟩

/-- Settles O23: OPEN's checks, in the order of R146. -/
theorem openBySessionStateAndValues : Obligations.OpenBySessionStateAndValues := by
  unfold Obligations.OpenBySessionStateAndValues
  intro s p q window mask hi lo ht
  have answers {u : State} {r : Reply} (h : (s.arrived p).openRequest p [window, mask, hi, lo] = (u, r)) :
      exec (.openSession p q [window, mask, hi, lo]) s = .next (u.replied p 0x01 q r) := by
    rw [exec_takes (kind := 0x01) rfl (by decide) (by decide) ht, State.serve_open_request, h]
  refine ⟨fun hc h1 h32 h3 hi => answers ?_, fun hc hn => answers ?_, fun ho => answers ?_, fun ho => answers ?_⟩
  · have allowed := (openFieldsAllowed_iff window mask _ lo).mpr ⟨h1, h32, h3, hi⟩
    obtain ⟨bit0, bit1⟩ := mask_bits mask h3
    simp only [State.openRequest, parseOpen, State.arrived_session, hc, allowed, if_true, openedSession, bit0, bit1]
    exact Prod.ext rfl (by simp [flagByte, statusByte, byteOf])
  · simp only [State.openRequest, parseOpen, State.arrived_session, hc, mt (openFieldsAllowed_iff window mask _ lo).mp hn]
    rfl
  · simp only [State.openRequest, parseOpen, State.arrived_session, ho]
    rfl
  · simp only [State.openRequest, parseOpen, State.arrived_session, ho]
    rfl

/-- Settles O25: the outbox after the acknowledgement, the stray acks, and the rounds of admission. -/
theorem noticeAck : Obligations.NoticeAck := by
  unfold Obligations.NoticeAck
  refine ⟨fun s p q n older newer e ho hl hne he hev => ?_, fun s p q n h => ?_, fun s p q body h96 h1 => ?_,
    fun s p => ⟨State.admitFromList_stop, fun src rest room hl => ⟨fun hr => ?_, fun hr => ?_, ?_, ?_⟩⟩⟩
  · have acked : (s.arrived p).ackNotices p n = some (((s.arrived p).modSession p fun x =>
        { x with outbox := newer, timer := timerAfterAck { x with outbox := newer } s.clock }).admitFromList p) := by
      simp only [State.ackNotices, State.arrived_session, hl, ackOutbox_append hne he, hev, if_true, Option.map_some,
        State.arrived_clock]
    rw [exec_noticeAck s p q (by simp), State.noticeAck]
    simp only [State.isOpen, State.arrived_session, ho, decide_true, if_true, parseByte, Option.bind_some, acked,
      Option.getD_some]
    rfl
  · rw [exec_noticeAck s p q (by simp), State.noticeAck_stray]
    intro ho
    obtain h | h := h
    · simp [State.isOpen, h] at ho
    · simp [parseByte, State.ackNotices, ackOutbox_none h]
  · rw [exec_noticeAck s p q h96, State.noticeAck_stray]
    intro
    rw [parseByte_none h1, Option.bind_none]
  · rw [State.admitFromList_head room (by simp [hl]), State.admitHead]
    simp only [hl, Option.isSome_iff_ne_none.mpr hr, if_true]
  · rw [State.admitFromList_head room (by simp [hl]), State.admitHead]
    simp only [hl, hr, Option.isSome_none, Bool.false_eq_true, if_false]
  · rintro i w rfl hw
    exact State.reportOf_admitOne_watch hw
  · exact State.reportOf_admitOne

end Sys2Proof.Proofs
end

section
/-! PROOF. Teardown (R148): what it leaves of a session, and what it leaves to the others (chapters 1 and 5 to 9). -/

namespace Sys2Proof.Machine

/-! ### Nothing is taken on -/

/-- From `s` to `t` records, attempts, leases, groups, watches and target units are given up, or aborted, and none is taken
on. -/
structure State.Loses (s t : State) : Prop where
  records : ∀ i r', t.record i = some r' → ∃ r, s.record i = some r ∧ r'.owner = r.owner ∧ r'.bus = r.bus ∧
    r'.state = r.state ∧ (r.abortPending = true → r'.abortPending = true)
  attempts : ∀ b a', (t.bus b).engine = .active (some a') → ∃ a, (s.bus b).engine = .active (some a) ∧
    a'.item = a.item ∧ (a.abortPending = true → a'.abortPending = true)
  leases : ∀ i e', t.lease i = some e' → ∃ e, s.lease i = some e ∧ e'.owner = e.owner
  groups : ∀ i g', t.group i = some g' → ∃ g, s.group i = some g ∧ g'.owner = g.owner
  watches : ∀ i w', t.watch i = some w' → ∃ w, s.watch i = some w ∧ (w'.owner = w.owner ∨ w'.owner = none)
  targets : ∀ b, (t.bus b).target.owner = (s.bus b).target.owner ∨ (t.bus b).target.owner = none

/-- Record `i`, when session `p` owns it, is ACTIVE with abort pending, in its attempt too. -/
def State.recordTorn (p : PortIx) (i : Fin 64) (s : State) : Prop :=
  ∀ r, s.record i = some r → r.owner = p → r.state = .active ∧ r.abortPending = true ∧
    ∀ a, (s.bus r.bus).engine = .active (some a) → a.item = .record i → a.abortPending = true

/-- Session `p` owns nothing but ACTIVE records with abort pending. -/
structure State.GaveUp (s : State) (p : PortIx) : Prop where
  records : ∀ i, s.recordTorn p i
  leases : ∀ i e, s.lease i = some e → e.owner ≠ p
  groups : ∀ i g, s.group i = some g → g.owner ≠ p
  watches : ∀ i w, s.watch i = some w → w.owner ≠ some p
  targets : ∀ b, (s.bus b).target.owner ≠ some p

section order

variable {s t u : State}

theorem State.Loses.of_eq (hr : t.records = s.records) (hl : t.leases = s.leases) (hg : t.groups = s.groups)
    (hw : t.watches = s.watches) (hb : t.buses = s.buses) : s.Loses t := by
  have record (i) : t.record i = s.record i := by simp only [State.record, hr]
  have lease (i) : t.lease i = s.lease i := by simp only [State.lease, hl]
  have group (i) : t.group i = s.group i := by simp only [State.group, hg]
  have watch (i) : t.watch i = s.watch i := by simp only [State.watch, hw]
  have bus (i) : t.bus i = s.bus i := by simp only [State.bus, hb]
  exact ⟨fun i r h => ⟨r, record i ▸ h, rfl, rfl, rfl, id⟩, fun b a h => ⟨a, bus b ▸ h, rfl, id⟩,
    fun i e h => ⟨e, lease i ▸ h, rfl⟩, fun i g h => ⟨g, group i ▸ h, rfl⟩, fun i w h => ⟨w, watch i ▸ h, .inl rfl⟩,
    fun b => .inl (by rw [bus])⟩

theorem State.Loses.rfl : s.Loses s := .of_eq (Eq.refl _) (Eq.refl _) (Eq.refl _) (Eq.refl _) (Eq.refl _)

theorem State.Loses.trans (h : s.Loses t) (k : t.Loses u) : s.Loses u where
  records i r'' h'' := by
    obtain ⟨r', h', o', b', x', a'⟩ := k.records i r'' h''
    obtain ⟨r, hr, o, b, x, a⟩ := h.records i r' h'
    exact ⟨r, hr, o'.trans o, b'.trans b, x'.trans x, a' ∘ a⟩
  attempts b a'' h'' := by
    obtain ⟨a', h', i', p'⟩ := k.attempts b a'' h''
    obtain ⟨a, ha, i, p⟩ := h.attempts b a' h'
    exact ⟨a, ha, i'.trans i, p' ∘ p⟩
  leases i e'' h'' := by
    obtain ⟨e', h', o'⟩ := k.leases i e'' h''
    obtain ⟨e, he, o⟩ := h.leases i e' h'
    exact ⟨e, he, o'.trans o⟩
  groups i g'' h'' := by
    obtain ⟨g', h', o'⟩ := k.groups i g'' h''
    obtain ⟨g, hg, o⟩ := h.groups i g' h'
    exact ⟨g, hg, o'.trans o⟩
  watches i w'' h'' := by
    obtain ⟨w', h', o'⟩ := k.watches i w'' h''
    obtain ⟨w, hw, o⟩ := h.watches i w' h'
    exact ⟨w, hw, o'.elim (fun e => o.imp e.trans e.trans) .inr⟩
  targets b := (k.targets b).elim (fun e => (h.targets b).imp e.trans e.trans) .inr

theorem State.Loses.foldl {α : Type} {f : State → α → State} (h : ∀ (s : State) (x : α), s.Loses (f s x)) (l : List α)
    (s : State) : s.Loses (l.foldl f s) := by
  induction l generalizing s with
  | nil => exact .rfl
  | cons x l ih => exact (h s x).trans (ih _)

/-- What each of these steps establishes and none loses holds after them all. -/
theorem State.Loses.foldl_establishes {α : Type} {f : State → α → State} (h : ∀ (s : State) (x : α), s.Loses (f s x))
    (P : α → State → Prop) (keep : ∀ x s t, s.Loses t → P x s → P x t) (make : ∀ s x, P x (f s x)) {l : List α} {x : α}
    (hx : x ∈ l) (s : State) : P x (l.foldl f s) := by
  induction l generalizing s with
  | nil => cases hx
  | cons y l ih =>
    obtain rfl | hx := List.mem_cons.mp hx
    · exact keep _ _ _ (State.Loses.foldl h l _) (make s x)
    · exact ih hx _

end order

section updates

variable (s : State)

theorem State.modSession_loses (p : PortIx) (f : Session → Session) : s.Loses (s.modSession p f) :=
  .of_eq rfl rfl rfl rfl rfl

theorem State.putRecord_loses {i : Fin 64} {r : Record} (r' : Record) (h : s.record i = some r) (ho : r'.owner = r.owner)
    (hb : r'.bus = r.bus) (hx : r'.state = r.state) (ha : r.abortPending = true → r'.abortPending = true) :
    s.Loses (s.putRecord i r') :=
  { State.Loses.rfl (s := s) with
    records := fun k x hk => by
      rw [State.putRecord_record] at hk
      split at hk
      next e => cases hk; exact e ▸ ⟨r, h, ho, hb, hx, ha⟩
      next => exact ⟨x, hk, rfl, rfl, rfl, id⟩ }

theorem State.freeRecord_loses (i : Fin 64) : s.Loses (s.freeRecord i) :=
  { State.Loses.rfl (s := s) with
    records := fun k x hk => by
      rw [State.freeRecord_record] at hk
      split at hk
      next => cases hk
      next => exact ⟨x, hk, rfl, rfl, rfl, id⟩ }

theorem State.putLease_loses {i : Fin 16} {e : Lease} (e' : Lease) (h : s.lease i = some e) (ho : e'.owner = e.owner) :
    s.Loses (s.putLease i e') :=
  { State.Loses.rfl (s := s) with
    leases := fun k x hk => by
      rw [State.putLease_lease] at hk
      split at hk
      next hi => cases hk; exact hi ▸ ⟨e, h, ho⟩
      next => exact ⟨x, hk, rfl⟩ }

theorem State.freeLease_loses (i : Fin 16) : s.Loses (s.freeLease i) :=
  { State.Loses.rfl (s := s) with
    leases := fun k x hk => by
      rw [State.freeLease_lease] at hk
      split at hk
      next => cases hk
      next => exact ⟨x, hk, rfl⟩ }

theorem State.freeLeasesOf_loses (p : PortIx) : s.Loses (s.freeLeasesOf p) :=
  { State.Loses.rfl (s := s) with
    leases := fun k x hk => by
      rw [State.freeLeasesOf_lease, Option.filter_eq_some_iff] at hk
      exact ⟨x, hk.1, rfl⟩ }

theorem State.freeGroupsOf_group (p : PortIx) (i : Fin 8) :
    (s.freeGroupsOf p).group i = (s.group i).filter fun g => decide (g.owner ≠ p) := by
  simp only [State.freeGroupsOf, State.group, Fin.getElem_fin, Vector.getElem_map]
  cases h : s.groups[i.val].entry with
  | none => simp [h]
  | some g =>
    by_cases ho : g.owner = p
    · simp [ho, Option.filter]
    · simp [ho, h, Option.filter]

theorem State.freeGroupsOf_loses (p : PortIx) : s.Loses (s.freeGroupsOf p) :=
  { State.Loses.rfl (s := s) with
    groups := fun k x hk => by
      rw [State.freeGroupsOf_group, Option.filter_eq_some_iff] at hk
      exact ⟨x, hk.1, rfl⟩ }

theorem State.unstage_group (i : Fin 64) (k : Fin 8) : (s.unstage i).group k =
    (s.group k).map fun g => { g with staged := g.staged.filter fun j => decide (j ≠ i) } := by
  simp [State.unstage, State.group]

theorem State.unstage_loses (i : Fin 64) : s.Loses (s.unstage i) :=
  { State.Loses.rfl (s := s) with
    groups := fun k x hk => by
      rw [State.unstage_group] at hk
      obtain ⟨g, hg, rfl⟩ := Option.map_eq_some_iff.mp hk
      exact ⟨g, hg, rfl⟩ }

theorem State.putWatch_loses {i : Fin 12} {w : Watch} (w' : Watch) (h : s.watch i = some w)
    (ho : w'.owner = w.owner ∨ w'.owner = none) : s.Loses (s.putWatch i w') :=
  { State.Loses.rfl (s := s) with
    watches := fun k x hk => by
      rw [State.putWatch_watch] at hk
      split at hk
      next hi => cases hk; exact hi ▸ ⟨w, h, ho⟩
      next => exact ⟨x, hk, .inl rfl⟩ }

theorem State.freeWatch_loses (i : Fin 12) : s.Loses (s.freeWatch i) :=
  { State.Loses.rfl (s := s) with
    watches := fun k x hk => by
      rw [State.freeWatch_watch] at hk
      split at hk
      next => cases hk
      next => exact ⟨x, hk, .inl rfl⟩ }

theorem State.modBus_loses (b : BusIx) (f : Bus → Bus)
    (he : ∀ a', (f (s.bus b)).engine = .active (some a') → ∃ a, (s.bus b).engine = .active (some a) ∧
      a'.item = a.item ∧ (a.abortPending = true → a'.abortPending = true))
    (ht : (f (s.bus b)).target.owner = (s.bus b).target.owner ∨ (f (s.bus b)).target.owner = none) :
    s.Loses (s.modBus b f) :=
  { State.Loses.rfl (s := s) with
    attempts := fun c a' h => by
      rw [State.modBus_bus] at h
      split at h
      next hc => exact hc ▸ he a' h
      next => exact ⟨a', h, rfl, id⟩
    targets := fun c => by
      rw [State.modBus_bus]
      split
      next hc => exact hc ▸ ht
      next => exact .inl rfl }

/-- An update of a bus that leaves its engine and its target unit's owner alone. -/
theorem State.modBus_loses_of_eq (b : BusIx) (f : Bus → Bus) (he : (f (s.bus b)).engine = (s.bus b).engine)
    (ht : (f (s.bus b)).target.owner = (s.bus b).target.owner ∨ (f (s.bus b)).target.owner = none) :
    s.Loses (s.modBus b f) :=
  s.modBus_loses b f (fun a' h => ⟨a', he ▸ h, rfl, id⟩) ht

/-- An attempt takes abort pending. -/
theorem State.setAbort_loses {b : BusIx} {a : Attempt} (h : (s.bus b).engine = .active (some a)) :
    s.Loses (s.setEngine b (.active (some { a with abortPending := true }))) :=
  s.modBus_loses b _ (fun _ e => by cases e; exact ⟨a, h, rfl, fun _ => rfl⟩) (.inl rfl)

theorem State.abortRecord_loses (i : Fin 64) : s.Loses (s.abortRecord i) := by
  unfold State.abortRecord
  split
  next => exact .rfl
  next r h =>
    have mark := s.putRecord_loses { r with abortPending := true } h rfl rfl rfl fun _ => rfl
    dsimp only
    split
    next a ha =>
      split
      · exact mark.trans (State.setAbort_loses _ ha)
      · exact mark
    next => exact mark

theorem State.abortAttempt_loses (b : BusIx) : s.Loses (s.abortAttempt b) := by
  unfold State.abortAttempt
  split
  next a ha =>
    have mark := s.setAbort_loses ha
    dsimp only
    split
    next i _ =>
      refine mark.trans ?_
      unfold State.modRecord
      split
      · exact .rfl
      next r h => exact State.putRecord_loses _ _ h rfl rfl rfl fun _ => rfl
    next => exact mark
  next => exact .rfl

theorem State.tearRecord_loses (p : PortIx) (i : Fin 64) : s.Loses (s.tearRecord p i) := by
  unfold State.tearRecord
  repeat' split
  · exact .rfl
  · exact .rfl
  · exact s.abortRecord_loses i
  · exact (s.unstage_loses i).trans (State.freeRecord_loses _ i)
  · exact (s.modBus_loses_of_eq _ _ rfl (.inl rfl)).trans (State.freeRecord_loses _ i)
  · exact s.freeRecord_loses i

theorem State.dropSource_loses (p : PortIx) (src : Source) : s.Loses (s.dropSource p src) := .of_eq rfl rfl rfl rfl rfl

theorem State.discardWatchReports_loses {i : Fin 12} {w : Watch} (h : s.watch i = some w) :
    s.Loses (s.discardWatchReports i w) := by
  have put := s.putWatch_loses { w with valueReport := none, suspensionReport := none, suspensionFirst := false } h (.inl rfl)
  unfold State.discardWatchReports
  dsimp only
  split
  · exact put
  · exact put.trans (State.dropSource_loses _ _ _)

theorem State.discardWatchReports_watch (i : Fin 12) (w : Watch) : (s.discardWatchReports i w).watch i =
    some { w with valueReport := none, suspensionReport := none, suspensionFirst := false } := by
  unfold State.discardWatchReports
  dsimp only
  split <;> simp [State.putWatch_watch, State.dropSource]

theorem State.removeWatch_loses {i : Fin 12} {w : Watch} (h : s.watch i = some w) : s.Loses (s.removeWatch i w none) := by
  have discard := s.discardWatchReports_loses h
  unfold State.removeWatch
  split
  · refine discard.trans ?_
    rw [State.modWatch, State.discardWatchReports_watch]
    exact State.putWatch_loses _ _ (State.discardWatchReports_watch _ _ _) (.inr rfl)
  · exact (discard.trans (State.modBus_loses_of_eq _ _ _ rfl (.inl rfl))).trans (State.freeWatch_loses _ i)

theorem State.tearWatch_loses (p : PortIx) (i : Fin 12) : s.Loses (s.tearWatch p i) := by
  unfold State.tearWatch
  split
  · exact .rfl
  next w h =>
    split
    · exact s.removeWatch_loses h
    · exact .rfl

theorem Target.markDiscard_owner (t : Target) : t.markDiscard.owner = t.owner := by
  unfold Target.markDiscard
  split <;> rfl

theorem Target.loseOwner_owner (t : Target) : t.loseOwner.owner = none := Target.markDiscard_owner _

theorem State.loseOwnership_loses (p : PortIx) (b : BusIx) : s.Loses (s.loseOwnership p b) :=
  (s.modBus_loses_of_eq b _ rfl (.inr (Target.loseOwner_owner _))).trans (State.modSession_loses _ p _)

theorem State.tearTarget_loses (p : PortIx) (b : BusIx) :
    s.Loses (if (s.bus b).target.owner = some p then s.loseOwnership p b else s) := by
  split
  · exact s.loseOwnership_loses p b
  · exact .rfl

theorem State.tearSession_loses (p : PortIx) : s.Loses (s.tearSession p) := .of_eq rfl rfl rfl rfl rfl

theorem State.tearRecords_loses (p : PortIx) : s.Loses (s.tearRecords p) :=
  .foldl (fun t i => t.tearRecord_loses p i) _ s

theorem State.tearWatches_loses (p : PortIx) : s.Loses (s.tearWatches p) :=
  .foldl (fun t i => t.tearWatch_loses p i) _ s

theorem State.tearTargets_loses (p : PortIx) : s.Loses (s.tearTargets p) :=
  .foldl (fun t b => t.tearTarget_loses p b) _ s

theorem State.tearOwned_loses (p : PortIx) : s.Loses (s.tearOwned p) :=
  ((((s.tearRecords_loses p).trans (State.freeLeasesOf_loses _ p)).trans (State.tearWatches_loses _ p)).trans
    (State.freeGroupsOf_loses _ p)).trans ((State.tearTargets_loses _ p).trans (State.tearSession_loses _ p))

/-- An offered lease report touches its own entry and the session alone. -/
theorem State.offer_lease_loses (p : PortIx) (i : Fin 16) : s.Loses (s.offer p (.lease i)) := by
  obtain ⟨-, h⟩ | ⟨-, -, h⟩ | ⟨-, -, h⟩ := s.offer_cases p (.lease i) <;> rw [h]
  · exact .rfl
  · obtain ⟨-, h⟩ | ⟨r, -, h⟩ := s.admitOne_cases p (.lease i) <;> rw [h]
    · exact .rfl
    · refine (s.modSession_loses p fun x => x.push r).trans ?_
      simp only [State.releaseSource]
      split
      · exact .rfl
      next e he =>
        split
        · exact State.freeLease_loses _ i
        · exact State.putLease_loses _ _ he rfl
  · exact .of_eq rfl rfl rfl rfl rfl

theorem State.walkWaiting_loses (b : BusIx) (kept order : List (Fin 16)) : s.Loses (s.walkWaiting b kept order) := by
  induction order generalizing s kept with
  | nil => exact .of_eq rfl rfl rfl rfl rfl
  | cons i rest ih =>
    simp only [State.walkWaiting]
    split
    next => exact ih _ _
    next e he =>
      split
      next => exact ih _ _
      next => exact ((s.putLease_loses { e.grantAt s.clock with report := .granted } he rfl).trans
        (State.offer_lease_loses _ _ i)).trans (ih _ _)

theorem State.reexamineAfter_loses (before : State) (p : PortIx) (b : BusIx) : s.Loses (before.reexamineAfter p s b) := by
  unfold State.reexamineAfter
  split
  · exact s.walkWaiting_loses b [] _
  · exact .rfl

theorem State.wake_loses (b : BusIx) : s.Loses (s.wake b) := by
  obtain ⟨-, -, h⟩ | ⟨-, h⟩ := s.wake_cases b <;> rw [h]
  · exact s.modBus_loses b _ (fun _ e => by cases e) (.inl rfl)
  · exact .rfl

theorem State.wakeAfter_loses (before : State) (p : PortIx) (b : BusIx) : s.Loses (before.wakeAfter p s b) := by
  unfold State.wakeAfter
  split
  · exact s.wake_loses b
  · exact .rfl

end updates

/-! ### What teardown establishes -/

theorem State.recordTorn_of_loses (p : PortIx) (i : Fin 64) (s t : State) (l : s.Loses t) (h : s.recordTorn p i) :
    t.recordTorn p i := by
  intro r' hr ho
  obtain ⟨r, hr, o, b, x, a⟩ := l.records i r' hr
  obtain ⟨active, abort, attempt⟩ := h r hr (o ▸ ho)
  refine ⟨x.trans active, a abort, fun a' ha' hi => ?_⟩
  obtain ⟨y, hy, item, ha⟩ := l.attempts _ a' ha'
  exact ha (attempt y (b ▸ hy) (item ▸ hi))

theorem State.GaveUp.of_loses {s t : State} {p : PortIx} (h : s.GaveUp p) (l : s.Loses t) : t.GaveUp p where
  records i := State.recordTorn_of_loses p i s t l (h.records i)
  leases i e' he := by
    obtain ⟨e, he, o⟩ := l.leases i e' he
    exact o ▸ h.leases i e he
  groups i g' hg := by
    obtain ⟨g, hg, o⟩ := l.groups i g' hg
    exact o ▸ h.groups i g hg
  watches i w' hw := by
    obtain ⟨w, hw, o | o⟩ := l.watches i w' hw
    · exact o ▸ h.watches i w hw
    · simp [o]
  targets b := by
    obtain o | o := l.targets b
    · exact o ▸ h.targets b
    · simp [o]

/-- Abort of a live record reaches its attempt, when its bus runs it. -/
theorem State.abortRecord_cases {s : State} {i : Fin 64} {r : Record} (h : s.record i = some r) :
    (∃ a, (s.bus r.bus).engine = .active (some a) ∧ a.item = .record i ∧
      s.abortRecord i = (s.putRecord i { r with abortPending := true }).setEngine r.bus
        (.active (some { a with abortPending := true }))) ∨
    ((∀ a, (s.bus r.bus).engine = .active (some a) → a.item ≠ .record i) ∧
      s.abortRecord i = s.putRecord i { r with abortPending := true }) := by
  unfold State.abortRecord
  rw [h]
  dsimp only
  split
  next a ha =>
    rw [State.putRecord_bus] at ha
    split
    next hit => exact .inl ⟨a, ha, hit, rfl⟩
    next hit => exact .inr ⟨fun x hx => by rw [ha] at hx; cases hx; exact hit, rfl⟩
  next none => exact .inr ⟨fun x hx => absurd hx (none x), rfl⟩

theorem State.abortRecord_torn {s : State} {i : Fin 64} {r : Record} (p : PortIx) (h : s.record i = some r)
    (hx : r.state = .active) : (s.abortRecord i).recordTorn p i := by
  intro x hr _
  obtain ⟨a, ha, hit, hs⟩ | ⟨miss, hs⟩ := State.abortRecord_cases h <;> rw [hs] at hr ⊢
  · rw [State.setEngine_record, State.putRecord_record, if_pos rfl] at hr
    cases hr
    refine ⟨hx, rfl, fun y hy _ => ?_⟩
    rw [State.setEngine_bus_self] at hy
    cases hy
    rfl
  · rw [State.putRecord_record, if_pos rfl] at hr
    cases hr
    exact ⟨hx, rfl, fun y hy hi => absurd hi (miss y hy)⟩

theorem State.tearRecord_torn (s : State) (p : PortIx) (i : Fin 64) : (s.tearRecord p i).recordTorn p i := by
  have freed (t : State) : (t.freeRecord i).recordTorn p i := fun r hr => by simp [State.freeRecord_record] at hr
  unfold State.tearRecord
  split
  next h =>
    intro r hr
    rw [h] at hr
    cases hr
  next r h =>
    split
    next ho =>
      intro x hx hox
      rw [h] at hx
      cases hx
      exact absurd hox ho
    next =>
      split
      next hx => exact State.abortRecord_torn p h hx
      all_goals exact freed _

theorem State.tearWatch_torn (s : State) (p : PortIx) (i : Fin 12) (w : Watch)
    (h : (s.tearWatch p i).watch i = some w) : w.owner ≠ some p := by
  unfold State.tearWatch at h
  split at h
  next hn =>
    rw [hn] at h
    cases h
  next x hx =>
    split at h
    next =>
      unfold State.removeWatch at h
      split at h
      · rw [State.modWatch, State.discardWatchReports_watch] at h
        simp only [State.putWatch_watch, if_true, Option.some.injEq] at h
        simp [← h]
      · simp [State.freeWatch_watch] at h
    next ho =>
      rw [hx] at h
      cases h
      exact ho

theorem State.tearTarget_torn (s : State) (p : PortIx) (b : BusIx) :
    ((if (s.bus b).target.owner = some p then s.loseOwnership p b else s).bus b).target.owner ≠ some p := by
  split
  · simp [State.loseOwnership, State.modTarget, Target.loseOwner_owner]
  next h => exact h

theorem State.tearTargets_torn (s : State) (p : PortIx) (b : BusIx) :
    ((s.tearTargets p).bus b).target.owner ≠ some p := by
  unfold State.tearTargets
  refine State.Loses.foldl_establishes (fun t b => t.tearTarget_loses p b)
    (fun b t => (t.bus b).target.owner ≠ some p) (fun b s t l h => ?_) (fun t b => t.tearTarget_torn p b)
    (List.mem_finRange b) s
  obtain o | o := l.targets b
  · exact o ▸ h
  · simp [o]

theorem State.tearOwned_gaveUp (s : State) (p : PortIx) : (s.tearOwned p).GaveUp p := by
  have l1 := (s.tearRecords p).freeLeasesOf_loses p
  have l2 := ((s.tearRecords p).freeLeasesOf p).tearWatches_loses p
  have l3 := (((s.tearRecords p).freeLeasesOf p).tearWatches p).freeGroupsOf_loses p
  have l4 := ((((s.tearRecords p).freeLeasesOf p).tearWatches p).freeGroupsOf p).tearTargets_loses p
  have l5 : State.Loses _ (s.tearOwned p) :=
    (((((s.tearRecords p).freeLeasesOf p).tearWatches p).freeGroupsOf p).tearTargets p).tearSession_loses p
  refine ⟨fun i => ?_, fun i e' he' ho => ?_, fun i g' hg' ho => ?_, fun i w' hw' ho => ?_, fun b ho => ?_⟩
  · refine State.recordTorn_of_loses p i _ _ (l1.trans (l2.trans (l3.trans (l4.trans l5)))) ?_
    exact State.Loses.foldl_establishes (fun t i => t.tearRecord_loses p i) (fun i t => t.recordTorn p i)
      (State.recordTorn_of_loses p) (fun t i => t.tearRecord_torn p i) (List.mem_finRange i) s
  · obtain ⟨e, he, o⟩ := (l2.trans (l3.trans (l4.trans l5))).leases i e' he'
    rw [State.freeLeasesOf_lease, Option.filter_eq_some_iff] at he
    exact of_decide_eq_true he.2 (o ▸ ho)
  · obtain ⟨g, hg, o⟩ := (l4.trans l5).groups i g' hg'
    rw [State.freeGroupsOf_group, Option.filter_eq_some_iff] at hg
    exact of_decide_eq_true hg.2 (o ▸ ho)
  · obtain ⟨w, hw, o | o⟩ := (l3.trans (l4.trans l5)).watches i w' hw'
    · refine State.Loses.foldl_establishes (fun t i => t.tearWatch_loses p i)
        (fun i t => ∀ w, t.watch i = some w → w.owner ≠ some p) (fun i s t l h w' hw' => ?_)
        (fun t i w => t.tearWatch_torn p i w) (List.mem_finRange i) _ w hw (o ▸ ho)
      obtain ⟨w, hw, o | o⟩ := l.watches i w' hw'
      · exact o ▸ h w hw
      · simp [o]
    · rw [o] at ho
      cases ho
  · obtain o | o := l5.targets b
    · exact State.tearTargets_torn _ p b (o ▸ ho)
    · rw [o] at ho
      cases ho

/-! ### The session units under a teardown -/

/-- A session that owns no lease is left alone by a walk of a waiting order. -/
theorem State.offer_session_other (s : State) {p q : PortIx} (hq : q ≠ p) (i : Fin 16) :
    (s.offer p (.lease i)).session q = s.session q := by
  obtain ⟨-, h⟩ | ⟨-, -, h⟩ | ⟨-, -, h⟩ := s.offer_cases p (.lease i) <;> rw [h]
  · obtain ⟨-, h⟩ | ⟨r, -, h⟩ := s.admitOne_cases p (.lease i) <;> rw [h]
    simp only [State.releaseSource]
    repeat' split
    all_goals simp [State.modSession_session, hq]
  · simp [State.modSession_session, hq]

theorem State.walkWaiting_session {s : State} {p : PortIx} (h : ∀ i e, s.lease i = some e → e.owner ≠ p) (b : BusIx)
    (kept order : List (Fin 16)) : (s.walkWaiting b kept order).session p = s.session p := by
  induction order generalizing s kept with
  | nil => rfl
  | cons i rest ih =>
    simp only [State.walkWaiting]
    split
    next => exact ih h _
    next e he =>
      split
      next => exact ih h _
      next =>
        have granted : s.Loses (s.grantWaiting i e) :=
          (s.putLease_loses { e.grantAt s.clock with report := .granted } he rfl).trans (State.offer_lease_loses _ _ i)
        rw [ih (fun j x hx => by
          obtain ⟨y, hy, o⟩ := granted.leases j x hx
          exact o ▸ h j y hy), State.grantWaiting, State.offer_session_other _ (Ne.symm (h i e he)), State.putLease_session]

theorem State.offer_lease_records (s : State) (p : PortIx) (i : Fin 16) : (s.offer p (.lease i)).records = s.records := by
  obtain ⟨-, h⟩ | ⟨-, -, h⟩ | ⟨-, -, h⟩ := s.offer_cases p (.lease i) <;> rw [h]
  · obtain ⟨-, h⟩ | ⟨r, -, h⟩ := s.admitOne_cases p (.lease i) <;> rw [h]
    simp only [State.releaseSource]
    repeat' split
    all_goals rfl
  · rfl

theorem State.walkWaiting_records (s : State) (b : BusIx) (kept order : List (Fin 16)) :
    (s.walkWaiting b kept order).records = s.records := by
  induction order generalizing s kept with
  | nil => rfl
  | cons i rest ih =>
    simp only [State.walkWaiting]
    split
    next => exact ih _ _
    next e he =>
      split
      next => exact ih _ _
      next => rw [ih, State.grantWaiting, State.offer_lease_records, State.putLease_records]

theorem State.wake_records (s : State) (b : BusIx) : (s.wake b).records = s.records := by
  obtain ⟨-, -, h⟩ | ⟨-, h⟩ := s.wake_cases b <;> rw [h]
  rfl

theorem State.wake_sessions (s : State) (b : BusIx) : (s.wake b).sessions = s.sessions := by
  obtain ⟨-, -, h⟩ | ⟨-, h⟩ := s.wake_cases b <;> rw [h]
  rfl

/-- Re-examination and the wake events that follow a teardown keep what the torn session has given up, its unit and the
records. -/
structure State.Follows (p : PortIx) (s t : State) : Prop where
  loses : s.Loses t
  session : s.GaveUp p → t.session p = s.session p
  records : t.records = s.records

theorem State.Follows.foldl {p : PortIx} {f : State → BusIx → State} (h : ∀ s b, State.Follows p s (f s b))
    (l : List BusIx) (s : State) : State.Follows p s (l.foldl f s) := by
  induction l generalizing s with
  | nil => exact ⟨.rfl, fun _ => rfl, rfl⟩
  | cons b l ih =>
    obtain ⟨l1, s1, r1⟩ := h s b
    obtain ⟨l2, s2, r2⟩ := ih (f s b)
    exact ⟨l1.trans l2, fun g => (s2 (g.of_loses l1)).trans (s1 g), r2.trans r1⟩

theorem State.reexamineAfter_follows (before : State) (p : PortIx) (s : State) (b : BusIx) :
    State.Follows p s (before.reexamineAfter p s b) := by
  unfold State.reexamineAfter
  split
  · exact ⟨s.walkWaiting_loses b [] _, fun g => State.walkWaiting_session g.leases b [] _, s.walkWaiting_records b [] _⟩
  · exact ⟨.rfl, fun _ => rfl, rfl⟩

theorem State.wakeAfter_follows (before : State) (p : PortIx) (s : State) (b : BusIx) :
    State.Follows p s (before.wakeAfter p s b) := by
  unfold State.wakeAfter
  split
  · exact ⟨s.wake_loses b, fun _ => by simp only [State.session, State.wake_sessions], s.wake_records b⟩
  · exact ⟨.rfl, fun _ => rfl, rfl⟩

/-- What a torn session unit looks like. -/
def Session.Torn (x : Session) (active : Nat) : Prop :=
  x.state = (if 0 < active then .closing else .closed) ∧ x.outbox = [] ∧ x.admission = [] ∧ x.timer = none ∧
    ∀ b : Fin 4, x.busEvents[b] = none

theorem State.activeCount_of_records {s t : State} (h : t.records = s.records) (p : PortIx) :
    t.activeCount p = s.activeCount p := by
  simp only [State.activeCount, h]

theorem State.tearSession_torn (s : State) (p : PortIx) :
    ((s.tearSession p).session p).Torn ((s.tearSession p).activeCount p) := by
  have count : (s.tearSession p).activeCount p = s.activeCount p := State.activeCount_of_records rfl p
  rw [count]
  simp [Session.Torn, State.tearSession, State.modSession_session]

theorem State.teardown_follows (s : State) (p : PortIx) : State.Follows p (s.tearOwned p) (s.teardown p) := by
  obtain ⟨l1, s1, r1⟩ := State.Follows.foldl (fun t b => s.reexamineAfter_follows p t b) (List.finRange 4) (s.tearOwned p)
  obtain ⟨l2, s2, r2⟩ := State.Follows.foldl (fun t b => s.wakeAfter_follows p t b) (List.finRange 4)
    ((List.finRange 4).foldl (fun acc b => s.reexamineAfter p acc b) (s.tearOwned p))
  exact ⟨l1.trans l2, fun g => (s2 (g.of_loses l1)).trans (s1 g), r2.trans r1⟩

theorem State.teardown_gaveUp (s : State) (p : PortIx) : (s.teardown p).GaveUp p :=
  (s.tearOwned_gaveUp p).of_loses (s.teardown_follows p).loses

theorem State.teardown_torn (s : State) (p : PortIx) : ((s.teardown p).session p).Torn ((s.teardown p).activeCount p) := by
  obtain ⟨-, session, records⟩ := s.teardown_follows p
  rw [session (s.tearOwned_gaveUp p), State.activeCount_of_records records]
  exact State.tearSession_torn _ p

end Sys2Proof.Machine
end

section
/-! PROOF. CLOSE and BREAK (chapters 9 and 10): the teardown as each answers it. -/

namespace Sys2Proof.Machine

/-! ### What the transmitters' choice leaves alone -/

/-- From `s` to `t` idle transmitters have chosen a frame, and nothing else. -/
structure State.Chosen (s t : State) : Prop where
  records : t.records = s.records
  leases : t.leases = s.leases
  groups : t.groups = s.groups
  watches : t.watches = s.watches
  buses : t.buses = s.buses
  clock : t.clock = s.clock
  levels : t.levels = s.levels
  link : ∀ n, (t.port n).rx = (s.port n).rx ∧ (t.port n).cache = (s.port n).cache ∧
    (t.port n).counters = (s.port n).counters
  busy : ∀ n, (s.port n).tx ≠ none → t.port n = s.port n
  noReply : ∀ n, (s.port n).replies = [] → (t.port n).replies = []
  unit : ∀ n, (t.session n).state = (s.session n).state
  noNotice : ∀ n, (s.session n).outbox = [] → t.session n = s.session n

theorem State.Chosen.trans {s t u : State} (h : s.Chosen t) (k : t.Chosen u) : s.Chosen u where
  records := k.records.trans h.records
  leases := k.leases.trans h.leases
  groups := k.groups.trans h.groups
  watches := k.watches.trans h.watches
  buses := k.buses.trans h.buses
  clock := k.clock.trans h.clock
  levels := k.levels.trans h.levels
  link n := by
    obtain ⟨rx, cache, counters⟩ := h.link n
    obtain ⟨rx', cache', counters'⟩ := k.link n
    exact ⟨rx'.trans rx, cache'.trans cache, counters'.trans counters⟩
  busy n hn := by
    have same := h.busy n hn
    exact (k.busy n (same ▸ hn)).trans same
  noReply n := k.noReply n ∘ h.noReply n
  unit n := (k.unit n).trans (h.unit n)
  noNotice n hn := by
    have same := h.noNotice n hn
    exact (k.noNotice n (same ▸ hn)).trans same

theorem State.kick_chosen (s : State) (p : PortIx) : s.Chosen (s.kick p) := by
  obtain ⟨-, h⟩ | ⟨ht, m, rest, hr, h⟩ | ⟨-, -, -, h⟩ | ⟨ht, hr, e, out, hu, h⟩ := s.kick_cases p <;> rw [h]
  · exact ⟨rfl, rfl, rfl, rfl, rfl, rfl, rfl, fun _ => ⟨rfl, rfl, rfl⟩, fun _ _ => rfl, fun _ => id, fun _ => rfl,
      fun _ _ => rfl⟩
  · refine ⟨rfl, rfl, rfl, rfl, rfl, rfl, rfl, fun n => ?_, fun n hn => ?_, fun n hn => ?_, fun _ => rfl, fun _ _ => rfl⟩
    all_goals rw [State.modPort_port]; split
    · subst n; exact ⟨rfl, rfl, rfl⟩
    · exact ⟨rfl, rfl, rfl⟩
    · subst n; exact absurd ht hn
    · rfl
    · subst n; rw [hr] at hn; cases hn
    · exact hn
  · exact ⟨rfl, rfl, rfl, rfl, rfl, rfl, rfl, fun _ => ⟨rfl, rfl, rfl⟩, fun _ _ => rfl, fun _ => id, fun _ => rfl,
      fun _ _ => rfl⟩
  · refine ⟨rfl, rfl, rfl, rfl, rfl, rfl, rfl, fun n => ?_, fun n hn => ?_, fun n hn => ?_, fun n => ?_, fun n hn => ?_⟩
    · rw [State.modPort_port]
      split
      · subst n; exact ⟨rfl, rfl, rfl⟩
      · exact ⟨rfl, rfl, rfl⟩
    · rw [State.modPort_port, if_neg (by rintro rfl; exact hn ht)]
      rfl
    · rw [State.modPort_port]
      split
      · subst n; exact hn
      · exact hn
    · rw [State.modPort_session, State.modSession_session]
      split
      · subst n; rfl
      · rfl
    · rw [State.modPort_session, State.modSession_session]
      split
      · subst n; rw [hn] at hu; cases hu
      · rfl

theorem State.settle_chosen (s : State) : s.Chosen s.settle :=
  ((s.kick_chosen 0).trans (State.kick_chosen _ 1)).trans (State.kick_chosen _ 2)

theorem State.Chosen.loses {s t : State} (h : s.Chosen t) : s.Loses t :=
  .of_eq h.records h.leases h.groups h.watches h.buses

theorem State.Chosen.bus {s t : State} (h : s.Chosen t) (b : BusIx) : t.bus b = s.bus b := by
  simp only [State.bus, h.buses]

/-! ### The quiet part, field by field -/

theorem State.clock_of_quiet {s t : State} (h : t.quiet = s.quiet) : t.clock = s.clock := congrArg (fun x => x.1) h

theorem State.levels_of_quiet {s t : State} (h : t.quiet = s.quiet) : t.levels = s.levels :=
  congrArg (fun x => x.2.2.1) h

/-! ### BREAK (R150, R164) -/

/-- A break, before the transmitters choose, with port `p` emptied of the state `u` that the session's end leaves. -/
def State.emptyPort (u : State) (p : PortIx) : State :=
  u.modPort p fun x => { x with rx := { state := .hunt, buffer := [] }, cache := none, replies := [] }

theorem State.emptyPort_loses (u : State) (p : PortIx) : u.Loses (u.emptyPort p) := .of_eq rfl rfl rfl rfl rfl

theorem State.breakSeen_open {s : State} {p : PortIx} (h : (s.session p).state = .opened) : s.breakSeen p =
    ((s.countPort p fun c => { c with breaks := satInc c.breaks }).teardown p).emptyPort p := by
  have ho : (s.countPort p fun c => { c with breaks := satInc c.breaks }).isOpen p = true := decide_eq_true h
  simp only [State.breakSeen, ho, if_true, State.emptyPort]

theorem State.breakSeen_notOpen {s : State} {p : PortIx} (h : (s.session p).state ≠ .opened) : s.breakSeen p =
    (s.countPort p fun c => { c with breaks := satInc c.breaks }).emptyPort p := by
  have ho : (s.countPort p fun c => { c with breaks := satInc c.breaks }).isOpen p = false := decide_eq_false h
  simp only [State.breakSeen, ho, Bool.false_eq_true, if_false, State.emptyPort]

/-- The ports after a break: counted, and emptied but for the frame on the line. -/
theorem State.breakSeen_port (s : State) (p n : PortIx) : (s.breakSeen p).port n =
    if n = p then { s.port p with
      rx := { state := .hunt, buffer := [] }
      cache := none
      replies := []
      counters := { (s.port p).counters with breaks := satInc (s.port p).counters.breaks } }
    else s.port n := by
  have emptied (u : State) (hu : u.ports = (s.countPort p fun c => { c with breaks := satInc c.breaks }).ports) :
      (u.emptyPort p).port n = if n = p then { s.port p with
          rx := { state := .hunt, buffer := [] }
          cache := none
          replies := []
          counters := { (s.port p).counters with breaks := satInc (s.port p).counters.breaks } }
        else s.port n := by
    have port (k) : u.port k = (s.countPort p fun c => { c with breaks := satInc c.breaks }).port k := by
      simp only [State.port, hu]
    rw [State.emptyPort, State.modPort_port, port, port, State.countPort, State.modPort_port, State.modPort_port,
      if_pos rfl]
    split <;> rfl
  by_cases h : (s.session p).state = .opened
  · rw [State.breakSeen_open h]
    exact emptied _ (State.teardown_still _ p).ports
  · rw [State.breakSeen_notOpen h]
    exact emptied _ rfl

theorem State.breakSeen_lines (s : State) (p : PortIx) (b : BusIx) : ((s.breakSeen p).bus b).config = (s.bus b).config ∧
    ((s.breakSeen p).bus b).line = (s.bus b).line := by
  by_cases h : (s.session p).state = .opened
  · rw [State.breakSeen_open h]
    have still := State.teardown_still (s.countPort p fun c => { c with breaks := satInc c.breaks }) p
    exact ⟨still.configs b, still.lines b⟩
  · rw [State.breakSeen_notOpen h]
    exact ⟨rfl, rfl⟩

end Sys2Proof.Machine

namespace Sys2Proof.Proofs

open Sys2Proof Sys2Proof.Machine

/-- Settles O24: CLOSE answers the teardown of its session. -/
theorem closeGivesUpEverythingOwned : Obligations.CloseGivesUpEverythingOwned := by
  unfold Obligations.CloseGivesUpEverythingOwned
  intro s p q ht ho
  have torn := (s.arrived p).teardown_torn p
  have gaveUp := (s.arrived p).teardown_gaveUp p
  have still := (s.arrived p).teardown_still p
  obtain ⟨state, outbox, admission, timer, busEvents⟩ := torn
  refine ⟨(s.arrived p).teardown p, ?_, state, outbox, admission, timer, busEvents, fun i r hr hp => ?_, gaveUp.leases,
    gaveUp.groups, gaveUp.watches, gaveUp.targets, State.clock_of_quiet (State.teardown_quiet _ p),
    State.levels_of_quiet (State.teardown_quiet _ p), fun b => ⟨still.configs b, still.lines b⟩⟩
  · refine exec_open (kind := 0x02) rfl (by decide) (by decide) (by decide) ho ht ?_
    change (s.arrived p).closeRequest p [] = _
    rw [State.closeRequest, if_neg (by simp)]
    rfl
  · obtain ⟨active, abort, -⟩ := gaveUp.records i r hr hp
    exact ⟨active, abort⟩

/-- Settles O22: the teardown of an OPEN session, the emptied port, and the transmitters' choice after them. -/
theorem breakTearsDownAndEmptiesThePort : Obligations.BreakTearsDownAndEmptiesThePort := by
  unfold Obligations.BreakTearsDownAndEmptiesThePort
  intro s p hs
  have chosen := (s.breakSeen p).settle_chosen
  obtain ⟨rx, cache, counters⟩ := chosen.link p
  have port := s.breakSeen_port p
  have portSelf := (port p).trans (if_pos rfl)
  rw [portSelf] at rx cache counters
  have quiet : (s.breakSeen p).quiet = s.quiet := s.breakSeen_quiet p
  have torn (ho : (s.session p).state = .opened) : (s.breakSeen p).GaveUp p ∧
      ((s.breakSeen p).session p).Torn ((s.breakSeen p).activeCount p) := by
    rw [State.breakSeen_open ho]
    exact ⟨(State.teardown_gaveUp _ p).of_loses (State.emptyPort_loses _ p), State.teardown_torn _ p⟩
  have same (ho : (s.session p).state = .opened) :
      (s.breakSeen p).settle.session p = (s.breakSeen p).session p := by
    obtain ⟨-, -, outbox, -⟩ := torn ho
    exact chosen.noNotice p outbox
  refine ⟨(s.breakSeen p).settle, rfl, rx, cache, chosen.noReply p (by rw [portSelf]), counters, fun htx => ?_,
    fun ho => ?_, fun ho => ?_, chosen.clock.trans (State.clock_of_quiet quiet),
    chosen.levels.trans (State.levels_of_quiet quiet), fun b => ?_, fun hn => ?_,
    fun n hn => ?_⟩
  · rw [chosen.busy p (by rw [portSelf]; exact htx), portSelf]
  · obtain ⟨-, state, outbox, -⟩ := torn ho
    rw [same ho, state, outbox]
    exact ⟨by split <;> simp, rfl⟩
  · obtain ⟨gaveUp, state, -, admission, timer, busEvents⟩ := torn ho
    have gaveUp := gaveUp.of_loses chosen.loses
    rw [same ho, State.activeCount_of_records chosen.records]
    exact ⟨state, admission, timer, busEvents, gaveUp.records, gaveUp.leases, gaveUp.groups, gaveUp.watches,
      gaveUp.targets⟩
  · rw [chosen.bus b]
    exact s.breakSeen_lines p b
  · have before := State.breakSeen_notOpen hn
    refine ⟨(chosen.unit p).trans ?_, chosen.records.trans ?_, chosen.leases.trans ?_, chosen.groups.trans ?_,
      chosen.watches.trans ?_, chosen.buses.trans ?_⟩ <;> rw [before] <;> rfl
  · have portOther := (port n).trans (if_neg hn)
    obtain ⟨rx, cache, counters⟩ := chosen.link n
    rw [portOther] at rx cache counters
    refine ⟨rx, cache, ?_, counters⟩
    obtain busy | ⟨noReply, -⟩ := hs n
    · rw [chosen.busy n (by rw [portOther]; exact busy), portOther]
    · rw [noReply, chosen.noReply n (by rw [portOther]; exact noReply)]

end Sys2Proof.Proofs
end

section
/-! PROOF. The broker reset (R151): the teardown of each OPEN session without grants, the aborts, the discard marks and the
counters. -/

namespace Sys2Proof.Machine

/-! ### Counts over the transaction table -/

theorem State.countP_records (s : State) (f : Record → Bool) :
    (s.records.toList.filter fun c => c.entry.any f).length = (List.finRange 64).countP fun i => (s.record i).any f := by
  have list : s.records.toList = (List.finRange 64).map fun i => s.records[i] := by
    refine List.ext_getElem (by simp) fun n h h' => ?_
    simp
  rw [← List.countP_eq_length_filter, list, List.countP_map]
  rfl

theorem State.activeCount_congr {s t : State} {p : PortIx}
    (h : ∀ i, ((t.record i).any fun r => decide (r.owner = p) && decide (r.state = .active)) =
      (s.record i).any fun r => decide (r.owner = p) && decide (r.state = .active)) : t.activeCount p = s.activeCount p := by
  rw [State.activeCount, State.activeCount, State.countP_records, State.countP_records]
  exact List.countP_congr fun i _ => by rw [h i]

/-! ### What the teardown of one session spares of another -/

/-- From `s` to `t` nothing is taken on, and the unit of session `p` and the number of its ACTIVE records stay. -/
structure State.Spares (p : PortIx) (s t : State) : Prop where
  loses : s.Loses t
  unit : t.session p = s.session p
  active : t.activeCount p = s.activeCount p

theorem State.Spares.trans {p : PortIx} {s t u : State} (h : State.Spares p s t) (k : State.Spares p t u) :
    State.Spares p s u :=
  ⟨h.loses.trans k.loses, k.unit.trans h.unit, k.active.trans h.active⟩

theorem State.Spares.rfl {p : PortIx} {s : State} : State.Spares p s s := ⟨.rfl, Eq.refl _, Eq.refl _⟩

theorem State.Spares.foldl {α : Type} {p : PortIx} {f : State → α → State} (h : ∀ s x, State.Spares p s (f s x)) (l : List α)
    (s : State) : State.Spares p s (l.foldl f s) := by
  induction l generalizing s with
  | nil => exact .rfl
  | cons x l ih => exact (h s x).trans (ih _)

/-- What leaves the records alone spares, when it leaves the unit alone. -/
theorem State.Spares.of_records {p : PortIx} {s t : State} (h : s.Loses t) (hs : t.session p = s.session p)
    (hr : t.records = s.records) : State.Spares p s t :=
  ⟨h, hs, State.activeCount_of_records hr p⟩

section

variable {p q : PortIx}

theorem State.abortRecord_record {s : State} {i : Fin 64} {r : Record} (h : s.record i = some r) (k : Fin 64) :
    (s.abortRecord i).record k = if k = i then some { r with abortPending := true } else s.record k := by
  obtain ⟨a, -, -, hs⟩ | ⟨-, hs⟩ := State.abortRecord_cases h <;> rw [hs]
  · rw [State.setEngine_record, State.putRecord_record]
  · rw [State.putRecord_record]

theorem State.abortRecord_sessions (s : State) (i : Fin 64) : (s.abortRecord i).sessions = s.sessions := by
  unfold State.abortRecord
  split
  · rfl
  · dsimp only
    split
    · split <;> rfl
    · rfl

theorem State.tearRecord_sessions (s : State) (q : PortIx) (i : Fin 64) : (s.tearRecord q i).sessions = s.sessions := by
  unfold State.tearRecord
  repeat' split
  · rfl
  · rfl
  · exact s.abortRecord_sessions i
  · rfl
  · rfl
  · rfl

theorem State.tearRecord_spares (hp : p ≠ q) (s : State) (i : Fin 64) : State.Spares p s (s.tearRecord q i) := by
  refine ⟨s.tearRecord_loses q i, by simp only [State.session, State.tearRecord_sessions], State.activeCount_congr fun k => ?_⟩
  have freed {t : State} {r : Record} (ht : t.records = s.records) (h : s.record i = some r) (ho : r.owner = q) :
      ((t.freeRecord i).record k).any (fun r => decide (r.owner = p) && decide (r.state = .active)) =
        (s.record k).any fun r => decide (r.owner = p) && decide (r.state = .active) := by
    have same : t.record k = s.record k := by simp only [State.record, ht]
    rw [State.freeRecord_record, same]
    split
    next e => simp [e, h, ho, Ne.symm hp]
    next => rfl
  unfold State.tearRecord
  split
  next => rfl
  next r h =>
    split
    next => rfl
    next ho =>
      have ho : r.owner = q := not_not.mp ho
      split
      · rw [State.abortRecord_record h]
        split
        next e => simp [e, h, ho, Ne.symm hp]
        next => rfl
      all_goals exact freed rfl h ho

theorem State.discardWatchReports_session (s : State) {i : Fin 12} {w : Watch} (hw : w.owner = some q) (hp : p ≠ q) :
    (s.discardWatchReports i w).session p = s.session p := by
  simp [State.discardWatchReports, hw, State.dropSource, State.modSession_session, hp]

theorem State.discardWatchReports_records (s : State) (i : Fin 12) (w : Watch) :
    (s.discardWatchReports i w).records = s.records := by
  unfold State.discardWatchReports
  dsimp only
  split <;> rfl

theorem State.tearWatch_spares (hp : p ≠ q) (s : State) (i : Fin 12) : State.Spares p s (s.tearWatch q i) := by
  refine .of_records (s.tearWatch_loses q i) ?_ ?_
  all_goals
    unfold State.tearWatch
    split
    · rfl
    split
    next h =>
      unfold State.removeWatch
      split
      · first
          | rw [State.modWatch_session, State.discardWatchReports_session s h hp]
          | rw [State.modWatch_records, State.discardWatchReports_records]
      · first
          | exact State.discardWatchReports_session s h hp
          | exact State.discardWatchReports_records s i _
    · rfl

theorem State.tearTarget_spares (hp : p ≠ q) (s : State) (b : BusIx) :
    State.Spares p s (if (s.bus b).target.owner = some q then s.loseOwnership q b else s) := by
  refine .of_records (s.tearTarget_loses q b) ?_ ?_
  · split
    · simp [State.loseOwnership, State.modSession_session, hp]
    · rfl
  · split <;> rfl

theorem State.freeLeasesOf_spares (s : State) (p q : PortIx) : State.Spares p s (s.freeLeasesOf q) :=
  .of_records (s.freeLeasesOf_loses q) rfl rfl

theorem State.freeGroupsOf_spares (s : State) (p q : PortIx) : State.Spares p s (s.freeGroupsOf q) :=
  .of_records (s.freeGroupsOf_loses q) rfl rfl

theorem State.tearSession_spares (hp : p ≠ q) (s : State) : State.Spares p s (s.tearSession q) :=
  .of_records (s.tearSession_loses q) (by rw [State.tearSession, State.modSession_session, if_neg hp]) rfl

theorem State.tearOwned_spares (hp : p ≠ q) (s : State) : State.Spares p s (s.tearOwned q) := by
  have records : State.Spares p s (s.tearRecords q) := .foldl (fun t i => t.tearRecord_spares hp i) _ s
  have leases := (s.tearRecords q).freeLeasesOf_spares p q
  have watches : State.Spares p _ (((s.tearRecords q).freeLeasesOf q).tearWatches q) :=
    .foldl (fun t i => t.tearWatch_spares hp i) _ _
  have groups := (((s.tearRecords q).freeLeasesOf q).tearWatches q).freeGroupsOf_spares p q
  have targets : State.Spares p _ (((((s.tearRecords q).freeLeasesOf q).tearWatches q).freeGroupsOf q).tearTargets q) :=
    .foldl (fun t b => t.tearTarget_spares hp b) _ _
  have unit := State.tearSession_spares hp (((((s.tearRecords q).freeLeasesOf q).tearWatches q).freeGroupsOf q).tearTargets q)
  exact ((((records.trans leases).trans watches).trans groups).trans targets).trans unit

theorem State.tearIfOpen_spares (hp : p ≠ q) (s : State) : State.Spares p s (s.tearIfOpen q) := by
  unfold State.tearIfOpen
  split
  · exact State.tearOwned_spares hp s
  · exact .rfl

end

/-- Teardown of an OPEN session. -/
theorem State.tearIfOpen_open {s : State} {p : PortIx} (h : (s.session p).state = .opened) :
    (s.tearIfOpen p).GaveUp p ∧ ((s.tearIfOpen p).session p).Torn ((s.tearIfOpen p).activeCount p) := by
  have ho : s.isOpen p = true := decide_eq_true h
  rw [State.tearIfOpen, if_pos ho]
  exact ⟨s.tearOwned_gaveUp p, State.tearSession_torn _ p⟩

theorem State.tearIfOpen_notOpen {s : State} {p : PortIx} (h : (s.session p).state ≠ .opened) : s.tearIfOpen p = s := by
  have ho : s.isOpen p = false := decide_eq_false h
  rw [State.tearIfOpen, if_neg (by simp [ho])]

/-- The teardown of every OPEN session, in port order. -/
def State.tearAll (s : State) : State := ((s.tearIfOpen 0).tearIfOpen 1).tearIfOpen 2

/-- Session `p` is torn down as it is met, with what is torn down before and after sparing it. -/
theorem State.tearAll_split (s : State) (p : PortIx) : ∃ t, State.Spares p s t ∧ State.Spares p (t.tearIfOpen p) s.tearAll := by
  obtain rfl | rfl | rfl := PortIx.cases p
  · exact ⟨s, .rfl, (State.tearIfOpen_spares (by decide) _).trans (State.tearIfOpen_spares (by decide) _)⟩
  · exact ⟨_, State.tearIfOpen_spares (by decide) s, State.tearIfOpen_spares (by decide) _⟩
  · exact ⟨_, (State.tearIfOpen_spares (by decide) s).trans (State.tearIfOpen_spares (by decide) _), .rfl⟩

theorem State.tearAll_open {s : State} {p : PortIx} (h : (s.session p).state = .opened) :
    s.tearAll.GaveUp p ∧ (s.tearAll.session p).Torn (s.tearAll.activeCount p) := by
  obtain ⟨t, before, after⟩ := s.tearAll_split p
  obtain ⟨gaveUp, torn⟩ := State.tearIfOpen_open (s := t) (p := p) (by rw [before.unit, h])
  exact ⟨gaveUp.of_loses after.loses, by rw [after.unit, after.active]; exact torn⟩

theorem State.tearAll_notOpen {s : State} {p : PortIx} (h : (s.session p).state ≠ .opened) :
    s.tearAll.session p = s.session p := by
  obtain ⟨t, before, after⟩ := s.tearAll_split p
  rw [after.unit, State.tearIfOpen_notOpen (by rw [before.unit]; exact h), before.unit]

/-! ### The aborts, the discard marks and the counters -/

theorem State.abortAttempt_sessions (s : State) (b : BusIx) : (s.abortAttempt b).sessions = s.sessions := by
  unfold State.abortAttempt
  split
  · dsimp only
    split
    · simp
    · rfl
  · rfl

theorem State.abortAttempt_active (s : State) (b : BusIx) (p : PortIx) : (s.abortAttempt b).activeCount p = s.activeCount p := by
  refine State.activeCount_congr fun k => ?_
  unfold State.abortAttempt
  split
  · dsimp only
    split
    next i _ =>
      unfold State.modRecord
      split
      · rfl
      next r h =>
        rw [State.setEngine_record] at h
        rw [State.putRecord_record]
        split
        next e => simp [e, h]
        next => rfl
    · rfl
  · rfl

theorem State.abortMark_spares (p : PortIx) (s : State) (b : BusIx) :
    State.Spares p s ((s.abortAttempt b).modTarget b Target.markDiscard) := by
  refine ⟨(s.abortAttempt_loses b).trans (State.modBus_loses_of_eq _ b _ rfl (.inl (Target.markDiscard_owner _))), ?_, ?_⟩
  · rw [State.modTarget, State.modBus_session]
    simp only [State.session, State.abortAttempt_sessions]
  · exact s.abortAttempt_active b p

theorem State.abortEverywhere_spares (p : PortIx) (s : State) : State.Spares p s s.abortEverywhere :=
  .foldl (fun t b => t.abortMark_spares p b) _ s

theorem State.clearCounters_spares (p : PortIx) (s : State) : State.Spares p s s.clearCounters := by
  refine ⟨⟨fun i r h => ⟨r, h, rfl, rfl, rfl, id⟩, fun b a h => ⟨a, by simpa using h, rfl, id⟩, fun i e h => ⟨e, h, rfl⟩,
    fun i g h => ⟨g, h, rfl⟩, fun i w h => ⟨w, h, .inl rfl⟩, fun b => .inl (by simp)⟩, rfl, rfl⟩

/-- Every attempt has abort pending after the aborts (R59, R151). -/
theorem State.abortEverywhere_attempts (s : State) (b : BusIx) (a : Attempt)
    (h : (s.abortEverywhere.bus b).engine = .active (some a)) : a.abortPending = true := by
  refine State.Loses.foldl_establishes (fun t b => (t.abortMark_spares 0 b).loses)
    (fun b t => ∀ a, (t.bus b).engine = .active (some a) → a.abortPending = true) (fun b s t l k a' h' => ?_)
    (fun t b a h => ?_) (List.mem_finRange b) s a h
  · obtain ⟨a, ha, -, keep⟩ := l.attempts b a' h'
    exact keep (k a ha)
  · rw [State.modTarget, State.modBus_bus_self] at h
    unfold State.abortAttempt at h
    split at h
    · dsimp only at h
      split at h <;> simp at h <;> simp [← h]
    next none => exact absurd h (none a)

/-! ### The target units -/

theorem State.modBus_target {s : State} {c : BusIx} {f : Bus → Bus} (h : ∀ x, (f x).target = x.target) (b : BusIx) :
    ((s.modBus c f).bus b).target = (s.bus b).target := by
  rw [State.modBus_bus]
  split
  next e => rw [h, e]
  next => rfl

@[simp] theorem State.setEngine_target (s : State) (c : BusIx) (e : Engine) (b : BusIx) :
    ((s.setEngine c e).bus b).target = (s.bus b).target := State.modBus_target (f := fun x => { x with engine := e }) (fun _ => rfl) b

@[simp] theorem State.setQueue_target (s : State) (c : BusIx) (l : List QItem) (b : BusIx) :
    ((s.setQueue c l).bus b).target = (s.bus b).target := State.modBus_target (f := fun x => { x with queue := l }) (fun _ => rfl) b

theorem State.tearRecord_target (s : State) (p : PortIx) (i : Fin 64) (b : BusIx) :
    ((s.tearRecord p i).bus b).target = (s.bus b).target := by
  unfold State.tearRecord
  split
  next => rfl
  next r h =>
    split
    next => rfl
    split
    · obtain ⟨a, -, -, hs⟩ | ⟨-, hs⟩ := State.abortRecord_cases h <;> rw [hs]
      · simp
      · rfl
    · rfl
    · exact State.setQueue_target s _ _ b
    · rfl

theorem State.tearWatch_target (s : State) (p : PortIx) (i : Fin 12) (b : BusIx) :
    ((s.tearWatch p i).bus b).target = (s.bus b).target := by
  have discard (w : Watch) : ((s.discardWatchReports i w).bus b) = s.bus b := by
    unfold State.discardWatchReports
    dsimp only
    split <;> rfl
  unfold State.tearWatch
  split
  · rfl
  split
  · unfold State.removeWatch
    split
    · rw [State.modWatch_bus, discard]
    · exact (State.setQueue_target _ _ _ b).trans (by rw [discard])
  · rfl

theorem State.foldl_target {α : Type} {f : State → α → State} (h : ∀ s x b, ((f s x).bus b).target = (s.bus b).target)
    (l : List α) (s : State) (b : BusIx) : ((l.foldl f s).bus b).target = (s.bus b).target := by
  induction l generalizing s with
  | nil => rfl
  | cons x l ih => exact (ih _).trans (h s x b)

/-- The unit of a bus after the teardown of its owner (R141). -/
def Target.afterTear (t : Target) (p : PortIx) : Target := if t.owner = some p then t.loseOwner else t

theorem Target.afterTear_afterTear (t : Target) (p : PortIx) : (t.afterTear p).afterTear p = t.afterTear p := by
  unfold Target.afterTear
  split
  · rw [if_neg (by simp [Target.loseOwner_owner])]
  · rfl

/-- A fold that applies a change to the unit of each bus of the list, when applying it twice is applying it once. -/
theorem State.foldl_target_each {f : State → BusIx → State} {g : Target → Target} (idem : ∀ t, g (g t) = g t)
    (self : ∀ s b, ((f s b).bus b).target = g (s.bus b).target)
    (other : ∀ s b c, c ≠ b → ((f s b).bus c).target = (s.bus c).target) (l : List BusIx) (s : State) (b : BusIx) :
    ((l.foldl f s).bus b).target = if b ∈ l then g (s.bus b).target else (s.bus b).target := by
  induction l generalizing s with
  | nil => rfl
  | cons c l ih =>
    rw [List.foldl_cons, ih]
    by_cases hb : b = c
    · subst hb
      rw [self, idem, ite_self, if_pos List.mem_cons_self]
    · rw [other s c b hb]
      simp [hb]

theorem State.tearTargets_target (s : State) (p : PortIx) (b : BusIx) :
    ((s.tearTargets p).bus b).target = (s.bus b).target.afterTear p := by
  refine (State.foldl_target_each (g := fun t => t.afterTear p) (fun t => t.afterTear_afterTear p) (fun t c => ?_)
    (fun t c d hd => ?_) _ s b).trans (if_pos (List.mem_finRange b))
  · unfold Target.afterTear
    split
    · simp [State.loseOwnership, State.modTarget]
    · rfl
  · split
    · simp [State.loseOwnership, State.modTarget, State.modBus_bus, hd]
    · rfl

theorem State.tearOwned_target (s : State) (p : PortIx) (b : BusIx) :
    ((s.tearOwned p).bus b).target = (s.bus b).target.afterTear p := by
  have records : ((s.tearRecords p).bus b).target = (s.bus b).target :=
    State.foldl_target (fun t i => t.tearRecord_target p i) _ s b
  have watches (t : State) : ((t.tearWatches p).bus b).target = (t.bus b).target :=
    State.foldl_target (fun t i => t.tearWatch_target p i) _ t b
  have leases (t : State) : ((t.freeLeasesOf p).bus b).target = (t.bus b).target := rfl
  have unit (t : State) : ((t.tearSession p).bus b).target = (t.bus b).target := rfl
  have groups (t : State) : ((t.freeGroupsOf p).bus b).target = (t.bus b).target := rfl
  rw [State.tearOwned, unit, State.tearTargets_target, groups, watches, leases, records]

theorem State.tearIfOpen_target (s : State) (p : PortIx) (b : BusIx) : ((s.tearIfOpen p).bus b).target =
    if (s.session p).state = .opened then (s.bus b).target.afterTear p else (s.bus b).target := by
  by_cases h : (s.session p).state = .opened
  · have ho : s.isOpen p = true := decide_eq_true h
    rw [State.tearIfOpen, if_pos ho, State.tearOwned_target, if_pos h]
  · rw [State.tearIfOpen_notOpen h, if_neg h]

/-- A unit that no OPEN session owns is left alone, and one that an OPEN session owns loses its owner. -/
theorem State.tearAll_target (s : State) (b : BusIx) : (s.tearAll.bus b).target =
    if ∃ p, (s.bus b).target.owner = some p ∧ (s.session p).state = .opened then (s.bus b).target.loseOwner
    else (s.bus b).target := by
  have s1 : (s.tearIfOpen 0).session 1 = s.session 1 := (State.tearIfOpen_spares (by decide) s).unit
  have s2 : ((s.tearIfOpen 0).tearIfOpen 1).session 2 = s.session 2 :=
    ((State.tearIfOpen_spares (by decide) s).trans (State.tearIfOpen_spares (by decide) _)).unit
  rw [State.tearAll, State.tearIfOpen_target, State.tearIfOpen_target, State.tearIfOpen_target, s1, s2]
  cases ho : (s.bus b).target.owner with
  | none => simp [Target.afterTear, ho]
  | some p =>
    have gone (q : PortIx) : (s.bus b).target.loseOwner.afterTear q = (s.bus b).target.loseOwner := by
      simp [Target.afterTear, Target.loseOwner_owner]
    have mine : (s.bus b).target.afterTear p = (s.bus b).target.loseOwner := by simp [Target.afterTear, ho]
    have other (q : PortIx) (hq : p ≠ q) : (s.bus b).target.afterTear q = (s.bus b).target := by
      simp [Target.afterTear, ho, hq]
    simp only [Option.some.injEq, exists_eq_left']
    obtain rfl | rfl | rfl := PortIx.cases p
    · rw [mine]
      by_cases h : (s.session 0).state = .opened
      · simp [h, gone]
      · simp [h, other]
    · rw [other 0 (by decide), ite_self, mine]
      by_cases h : (s.session 1).state = .opened
      · simp [h, gone]
      · simp [h, other]
    · rw [other 0 (by decide), ite_self, other 1 (by decide), ite_self, mine]

theorem State.abortAttempt_target (s : State) (c b : BusIx) : ((s.abortAttempt c).bus b).target = (s.bus b).target := by
  unfold State.abortAttempt
  split
  · dsimp only
    split
    · rw [State.modRecord_bus]
      exact State.setEngine_target s c _ b
    · exact State.setEngine_target s c _ b
  · rfl

theorem Target.markDiscard_inTransfer (t : Target) : t.markDiscard.inTransfer = t.inTransfer := by
  unfold Target.markDiscard
  split <;> rfl

theorem Target.markDiscard_markDiscard (t : Target) : t.markDiscard.markDiscard = t.markDiscard := by
  unfold Target.markDiscard
  by_cases h : t.inTransfer
  · simp [h]
  · simp [h]

theorem State.abortEverywhere_target (s : State) (b : BusIx) :
    (s.abortEverywhere.bus b).target = (s.bus b).target.markDiscard := by
  refine (State.foldl_target_each (g := Target.markDiscard) Target.markDiscard_markDiscard (fun t c => ?_)
    (fun t c d hd => ?_) _ s b).trans (if_pos (List.mem_finRange b))
  · rw [State.modTarget, State.modBus_bus_self]
    exact congrArg Target.markDiscard (t.abortAttempt_target c c)
  · rw [State.modTarget, State.modBus_bus, if_neg hd, State.abortAttempt_target]

theorem State.brokerReset_eq (s : State) : s.brokerReset = s.tearAll.abortEverywhere.clearCounters := rfl

theorem State.clearCounters_core (s : State) (b : BusIx) : (s.clearCounters.bus b).config = (s.bus b).config ∧
    (s.clearCounters.bus b).line = (s.bus b).line ∧ (s.clearCounters.bus b).engine = (s.bus b).engine := by
  rw [State.clearCounters_bus]
  exact ⟨rfl, rfl, rfl⟩

theorem State.clearCounters_target (s : State) (b : BusIx) : (s.clearCounters.bus b).target = (s.bus b).target := by
  rw [State.clearCounters_bus]

/-- A unit after the broker reset (R141, R142). -/
theorem State.brokerReset_target (s : State) (b : BusIx) : (s.brokerReset.bus b).target =
    (if ∃ p, (s.bus b).target.owner = some p ∧ (s.session p).state = .opened then (s.bus b).target.loseOwner
    else (s.bus b).target).markDiscard := by
  rw [State.brokerReset_eq, State.clearCounters_target, State.abortEverywhere_target, State.tearAll_target]

theorem State.afterTearAll_spares (p : PortIx) (s : State) : State.Spares p s.tearAll s.brokerReset := by
  rw [State.brokerReset_eq]
  exact (State.abortEverywhere_spares p _).trans (State.clearCounters_spares p _)

theorem State.brokerReset_open {s : State} {p : PortIx} (h : (s.session p).state = .opened) :
    s.brokerReset.GaveUp p ∧ (s.brokerReset.session p).Torn (s.brokerReset.activeCount p) := by
  obtain ⟨gaveUp, torn⟩ := State.tearAll_open h
  have spares := s.afterTearAll_spares p
  exact ⟨gaveUp.of_loses spares.loses, by rw [spares.unit, spares.active]; exact torn⟩

theorem State.brokerReset_notOpen {s : State} {p : PortIx} (h : (s.session p).state ≠ .opened) :
    s.brokerReset.session p = s.session p :=
  (s.afterTearAll_spares p).unit.trans (State.tearAll_notOpen h)

theorem State.tearAll_still (s : State) : s.Still s.tearAll :=
  ((s.tearIfOpen_still 0).trans (State.tearIfOpen_still _ 1)).trans (State.tearIfOpen_still _ 2)

theorem State.brokerReset_lines (s : State) (b : BusIx) : (s.brokerReset.bus b).config = (s.bus b).config ∧
    (s.brokerReset.bus b).line = (s.bus b).line := by
  have still := s.tearAll_still.trans (State.abortEverywhere_still _)
  obtain ⟨config, line, -⟩ := s.tearAll.abortEverywhere.clearCounters_core b
  exact ⟨config.trans (still.configs b), line.trans (still.lines b)⟩

theorem State.brokerReset_port (s : State) (p : PortIx) :
    s.brokerReset.port p = { s.port p with counters := PortCounters.zero } := by
  have ports := (s.tearAll_still.trans (State.abortEverywhere_still _)).ports
  rw [State.brokerReset_eq, State.clearCounters_port, State.port, State.port, ports]

theorem State.brokerReset_attempts (s : State) (b : BusIx) (a : Attempt)
    (h : (s.brokerReset.bus b).engine = .active (some a)) : a.abortPending = true := by
  obtain ⟨-, -, engine⟩ := s.tearAll.abortEverywhere.clearCounters_core b
  exact State.abortEverywhere_attempts _ b a (engine.symm.trans h)

theorem State.brokerReset_counters (s : State) (b : BusIx) : (s.brokerReset.bus b).counters = BusCounters.zero := by
  rw [State.brokerReset_eq, State.clearCounters_bus]

/-! ### What a unit keeps -/

theorem Target.markDiscard_slots (t : Target) : t.markDiscard.slots = t.slots := by
  unfold Target.markDiscard
  split <;> rfl

theorem Target.markDiscard_reading (t : Target) : t.markDiscard.reading = t.reading := by
  unfold Target.markDiscard
  split <;> rfl

/-- A unit that loses its owner keeps no COMPLETE slot, and each other slot as it is. -/
theorem Target.loseOwner_slot (t : Target) (k : Fin 4) :
    t.loseOwner.slots[k] = if t.slots[k].state = .complete then InSlot.empty else t.slots[k] := by
  rw [Target.loseOwner, Target.markDiscard_slots]
  simp

theorem Target.markDiscard_loseOwner (t : Target) : t.loseOwner.markDiscard = t.loseOwner :=
  Target.markDiscard_markDiscard _

theorem Target.loseOwner_outbound (t : Target) : t.loseOwner.outbound = [] := by
  unfold Target.loseOwner Target.markDiscard
  split <;> rfl

theorem Target.loseOwner_deferred (t : Target) : t.loseOwner.deferred = none := by
  unfold Target.loseOwner Target.markDiscard
  split <;> rfl

theorem Target.loseOwner_tally (t : Target) : t.loseOwner.tally = none := by
  unfold Target.loseOwner Target.markDiscard
  split <;> rfl

theorem Target.loseOwner_reading (t : Target) : t.loseOwner.reading = t.reading := Target.markDiscard_reading _

theorem Target.inTransfer_iff (t : Target) :
    t.inTransfer = true ↔ t.reading ≠ none ∨ ∃ k : Fin 4, t.slots[k].state = .filling := by
  simp [Target.inTransfer, Target.filling, Option.ne_none_iff_isSome, or_comm]

theorem Target.loseOwner_inTransfer {t : Target} (h : t.inTransfer = true) : t.loseOwner.inTransfer = true := by
  rw [Target.inTransfer_iff] at h ⊢
  rw [Target.loseOwner_reading]
  refine h.imp_right fun ⟨k, hk⟩ => ⟨k, ?_⟩
  rw [Target.loseOwner_slot, if_neg (by rw [hk]; decide), hk]

theorem Target.markDiscard_discard {t : Target} (h : t.inTransfer = true) : t.markDiscard.discard = true := by
  rw [Target.markDiscard, if_pos h]

end Sys2Proof.Machine

namespace Sys2Proof.Proofs

open Sys2Proof Sys2Proof.Machine

/-- Settles O27: each OPEN session is torn down and spared by the rest of the reset, every other is spared by it all. -/
theorem resetBroker : Obligations.ResetBroker := by
  unfold Obligations.ResetBroker
  intro s q ht ho
  let a := s.arrived 0
  have target := a.brokerReset_target
  have gaveUp {p : PortIx} (h : (s.session p).state = .opened) : a.brokerReset.GaveUp p :=
    (State.brokerReset_open (s := a) h).1
  have torn {p : PortIx} (h : (s.session p).state = .opened) :
      (a.brokerReset.session p).Torn (a.brokerReset.activeCount p) := (State.brokerReset_open (s := a) h).2
  refine ⟨a.brokerReset, ?_, fun p => ?_, fun p h => State.brokerReset_notOpen (s := a) h, fun i r hr h => ?_,
    fun i e he h => (gaveUp h).leases i e he rfl, fun i g hg h => (gaveUp h).groups i g hg rfl,
    fun i w p hw hp h => (gaveUp h).watches i w hw hp, a.brokerReset_counters, fun p => ?_, a.brokerReset_attempts,
    fun p h => torn h, fun b p hp h => ?_, fun b h => ?_, fun b => ?_, a.brokerReset_lines, fun p => ?_,
    State.clock_of_quiet (State.brokerReset_quiet a)⟩
  · refine exec_open (kind := 0x18) rfl (by decide) (by decide) (by decide) ho ht ?_
    change a.resetBrokerRequest 0 [] = _
    rw [State.resetBrokerRequest, if_neg (by simp), if_neg (by rw [State.isPrimary, State.isOpen]; simp [a, ho])]
    rfl
  · by_cases h : (s.session p).state = .opened
    · obtain ⟨state, -⟩ := torn h
      rw [state]
      split <;> simp
    · rw [State.brokerReset_notOpen (s := a) h]
      exact h
  · obtain ⟨active, abort, -⟩ := (gaveUp h).records i r hr rfl
    exact ⟨active, abort⟩
  · rw [a.brokerReset_port]
  · have open_ : ∃ p, (a.bus b).target.owner = some p ∧ (a.session p).state = .opened := ⟨p, hp, h⟩
    rw [target, if_pos open_, Target.markDiscard_loseOwner]
    refine ⟨Target.loseOwner_owner _, Target.loseOwner_outbound _, Target.loseOwner_deferred _, Target.loseOwner_tally _,
      fun k => ?_⟩
    rw [Target.loseOwner_slot]
    split
    · decide
    · assumption
  · have transfer : (a.bus b).target.inTransfer = true := (Target.inTransfer_iff _).mpr h
    rw [target]
    refine Target.markDiscard_discard ?_
    split
    · exact Target.loseOwner_inTransfer transfer
    · exact transfer
  · rw [target, Target.markDiscard_reading]
    split
    · exact Target.loseOwner_reading _
    · rfl
  · rw [a.brokerReset_port]
    have port : (a.port p).replies = (s.port p).replies ∧ (a.port p).cache = (s.port p).cache := by
      rw [s.arrived_port 0 p]
      split
      next h => exact h ▸ ⟨rfl, rfl⟩
      next => exact ⟨rfl, rfl⟩
    exact port

end Sys2Proof.Proofs
end

section
/-! PROOF. Waiting orders, queues and selection (chapters 2 and 5). -/

namespace Sys2Proof.Machine

/-! ### Re-examination (R91) -/

section walk

variable {s : State} {b : BusIx} {e : Lease} {i : Fin 16}

theorem State.walkBlocked_iff (s : State) (e : Lease) (kept : List (Fin 16)) :
    s.walkBlocked e kept = true ↔ s.mustWait e kept := by
  have granted := s.any_lease fun g => decide (g.state = .granted) && g.conflicts e.owner e.bus e.low e.high
  rw [State.walkBlocked, Bool.or_eq_true, granted]
  simp [State.mustWait, List.any_eq_true, Option.any_eq_true]

/-- What the offer of a pending LEASE_GRANTED leaves of the lease table: its report is pending, or admitted. -/
theorem State.offer_granted_lease (s : State) (p : PortIx) (h : s.lease i = some e) (hr : e.report = .granted) :
    ∃ report, ∀ j, (s.offer p (.lease i)).lease j = if j = i then some { e with report := report } else s.lease j := by
  have stays : ∀ j, s.lease j = if j = i then some { e with report := e.report } else s.lease j := fun j => by
    split
    next hj => rw [hj, h]
    next => rfl
  obtain ⟨-, ho⟩ | ⟨-, -, ho⟩ | ⟨-, -, ho⟩ := s.offer_cases p (.lease i) <;> rw [ho]
  · exact ⟨e.report, stays⟩
  · obtain ⟨-, ha⟩ | ⟨r, -, ha⟩ := s.admitOne_cases p (.lease i) <;> rw [ha]
    · exact ⟨e.report, stays⟩
    · refine ⟨.none, fun j => ?_⟩
      have pushed : (s.modSession p fun x => x.push r).lease i = some e := h
      rw [State.releaseSource, pushed]
      dsimp only
      rw [if_neg (by rw [hr]; decide), State.putLease_lease]
      rfl
  · exact ⟨e.report, stays⟩

/-- The lease table after one grant of a walk. -/
theorem State.grantWaiting_lease (s : State) (i : Fin 16) (e : Lease) : ∃ report, ∀ j,
    (s.grantWaiting i e).lease j = if j = i then some { e.grantAt s.clock with report := report } else s.lease j := by
  obtain ⟨report, h⟩ := State.offer_granted_lease (s.putLease i { e.grantAt s.clock with report := .granted }) e.owner
    (by rw [State.putLease_lease, if_pos rfl]) rfl
  refine ⟨report, fun j => (h j).trans ?_⟩
  rw [State.putLease_lease]
  split <;> rfl

theorem Lease.conflicts_of_grant {g g' : Lease} {p : PortIx} {low high : Addr} (h : g.conflicts p b low high = true)
    (ho : g'.owner = g.owner) (hb : g'.bus = g.bus) (hl : g'.low = g.low) (hh : g'.high = g.high) (hs : g'.state = .granted) :
    g'.conflicts p b low high = true := by
  simp_all [Lease.conflicts]

/-- A grant leaves an entry that must wait one that must wait. -/
theorem State.mustWait_grantWaiting (h : s.lease i = some e) {x : Lease} {kept : List (Fin 16)} (hx : s.mustWait x kept) :
    (s.grantWaiting i e).mustWait x kept := by
  obtain ⟨report, leases⟩ := s.grantWaiting_lease i e
  have same {j g} (hj : s.lease j = some g) (hc : g.conflicts x.owner x.bus x.low x.high = true) :
      ∃ g' ∈ (s.grantWaiting i e).lease j, g'.conflicts x.owner x.bus x.low x.high = true ∧
        (g.state = .granted → g'.state = .granted) := by
    rw [leases j]
    split
    next hji =>
      subst hji
      obtain rfl : e = g := Option.some.inj (h.symm.trans hj)
      exact ⟨_, rfl, Lease.conflicts_of_grant hc rfl rfl rfl rfl rfl, fun _ => rfl⟩
    next => exact ⟨g, hj, hc, id⟩
  obtain ⟨j, g, hj, hg, hc⟩ | ⟨j, hm, g, hj, hc⟩ := hx
  · obtain ⟨g', hj', hc', hg'⟩ := same hj hc
    exact .inl ⟨j, g', hj', hg' hg, hc'⟩
  · obtain ⟨g', hj', hc', -⟩ := same hj hc
    exact .inr ⟨j, hm, g', hj', hc'⟩

/-- Each WAITING entry among these must wait behind those before it. -/
def State.waitersBlocked (s : State) (kept : List (Fin 16)) : Prop :=
  ∀ before i after e, kept = before ++ i :: after → s.lease i = some e → e.state = .waiting → s.mustWait e before

theorem State.waitersBlocked_append {kept : List (Fin 16)} (hk : s.waitersBlocked kept) (h : s.lease i = some e)
    (he : s.mustWait e kept) : s.waitersBlocked (kept ++ [i]) := by
  intro before j after x hsplit hj hx
  obtain rfl | ⟨l, y, rfl⟩ := after.eq_nil_or_concat'
  · obtain ⟨rfl, hij⟩ := List.append_inj' hsplit rfl
    obtain rfl : i = j := List.singleton_inj.mp hij
    obtain rfl : e = x := Option.some.inj (h.symm.trans hj)
    exact he
  · rw [← List.cons_append, ← List.append_assoc] at hsplit
    obtain ⟨rfl, -⟩ := List.append_inj' hsplit rfl
    exact hk before j l x rfl hj hx

theorem State.waitersBlocked_grantWaiting {kept : List (Fin 16)} (hk : s.waitersBlocked kept) (h : s.lease i = some e) :
    (s.grantWaiting i e).waitersBlocked kept := by
  intro before j after x hsplit hj hx
  obtain ⟨report, leases⟩ := s.grantWaiting_lease i e
  rw [leases j] at hj
  split at hj
  next =>
    obtain rfl := Option.some.inj hj
    exact absurd hx (by simp [Lease.grantAt])
  next => exact State.mustWait_grantWaiting h (hk before j after x hsplit hj hx)

/-- A walk leaves an order whose WAITING entries must wait. -/
theorem State.walkWaiting_blocked (s : State) (b : BusIx) (kept order : List (Fin 16)) (hk : s.waitersBlocked kept) :
    (s.walkWaiting b kept order).waitersBlocked ((s.walkWaiting b kept order).waitingOrder b) := by
  induction order generalizing s kept with
  | nil =>
    rw [State.walkWaiting, State.setWaiting_waitingOrder, if_pos rfl]
    exact hk
  | cons i rest ih =>
    rw [State.walkWaiting]
    split
    next => exact ih s kept hk
    next e h =>
      split
      next blocked => exact ih s _ (State.waitersBlocked_append hk h ((s.walkBlocked_iff e kept).mp blocked))
      next => exact ih _ kept (State.waitersBlocked_grantWaiting hk h)

/-- A walk passes over a part whose entries must all wait. -/
theorem State.walkWaiting_append (s : State) (b : BusIx) (kept front rest : List (Fin 16))
    (hf : ∀ before j after, front = before ++ j :: after → ∃ e ∈ s.lease j, s.mustWait e (kept ++ before)) :
    s.walkWaiting b kept (front ++ rest) = s.walkWaiting b (kept ++ front) rest := by
  induction front generalizing kept with
  | nil => rw [List.nil_append, List.append_nil]
  | cons i front ih =>
    obtain ⟨e, he, hw⟩ := hf [] i front rfl
    have he : s.lease i = some e := he
    rw [List.append_nil] at hw
    rw [List.cons_append, State.walkWaiting, he]
    dsimp only
    rw [if_pos ((s.walkBlocked_iff e kept).mpr hw), ih, List.append_assoc, List.singleton_append]
    intro before j after h
    rw [List.append_assoc]
    exact hf (i :: before) j after (by rw [h, List.cons_append])

theorem State.setWaiting_setWaiting (s : State) (b : BusIx) (v w : List (Fin 16)) :
    (s.setWaiting b v).setWaiting b w = s.setWaiting b w := by
  simp [State.setWaiting]

theorem State.setWaiting_self (s : State) (b : BusIx) : s.setWaiting b (s.waitingOrder b) = s := by
  simp [State.setWaiting, State.waitingOrder]

theorem State.offer_lease_setWaiting (s : State) (p : PortIx) (i : Fin 16) (w : List (Fin 16)) :
    (s.setWaiting b w).offer p (.lease i) = (s.offer p (.lease i)).setWaiting b w := by
  have admitted : (s.setWaiting b w).admitOne p (.lease i) = (s.admitOne p (.lease i)).setWaiting b w := by
    have same : (s.setWaiting b w).reportOf p (.lease i) = s.reportOf p (.lease i) := rfl
    rw [State.admitOne, State.admitOne, same]
    split
    · rfl
    next r _ =>
      have lease : ((s.setWaiting b w).modSession p fun x => x.push r).lease i = (s.modSession p fun x => x.push r).lease i :=
        rfl
      rw [State.releaseSource, State.releaseSource, lease]
      split
      · rfl
      · split <;> rfl
  have unit : (s.setWaiting b w).session p = s.session p := rfl
  rw [State.offer, State.offer, admitted, unit]
  split
  · rfl
  · split <;> rfl

/-- A walk does not read the order it will write. -/
theorem State.walkWaiting_setWaiting (s : State) (b : BusIx) (w kept order : List (Fin 16)) :
    (s.setWaiting b w).walkWaiting b kept order = s.walkWaiting b kept order := by
  induction order generalizing s kept with
  | nil => exact s.setWaiting_setWaiting b w kept
  | cons i rest ih =>
    have lease : (s.setWaiting b w).lease i = s.lease i := rfl
    have blocked (e) : (s.setWaiting b w).walkBlocked e kept = s.walkBlocked e kept := rfl
    have grant (e) : (s.setWaiting b w).grantWaiting i e = (s.grantWaiting i e).setWaiting b w :=
      State.offer_lease_setWaiting (s.putLease i { e.grantAt s.clock with report := .granted }) e.owner i w
    rw [State.walkWaiting, State.walkWaiting, lease]
    split
    · exact ih s kept
    · rw [blocked, grant, ih, ih]

end walk

/-! ### Joining a queue (R27, R28) -/

theorem Cls.rank_inj {c d : Cls} (h : c.rank = d.rank) : c = d := by
  cases c <;> cases d <;> first | rfl | cases h

theorem State.standsBefore_iff (s : State) (y x : QItem) : s.standsBefore y x = true ↔
    (s.itemClass y).rank < (s.itemClass x).rank ∨ (s.itemClass y = s.itemClass x ∧ s.itemAge x ≤ s.itemAge y) := by
  simp [State.standsBefore]

theorem State.standsBefore_trans {s : State} {x y z : QItem} (h : s.standsBefore x y = true) (k : s.standsBefore y z = true) :
    s.standsBefore x z = true := by
  rw [State.standsBefore_iff] at *
  obtain h | ⟨h, ha⟩ := h <;> obtain k | ⟨k, ka⟩ := k
  · exact .inl (h.trans k)
  · exact .inl (k ▸ h)
  · exact .inl (h ▸ k)
  · exact .inr ⟨h.trans k, ka.trans ha⟩

theorem State.standsBefore_total {s : State} {x y : QItem} (h : s.standsBefore y x = false) : s.standsBefore x y = true := by
  have h : ¬s.standsBefore y x = true := by simp [h]
  rw [State.standsBefore_iff, not_or, not_lt, not_and, not_le] at *
  obtain ⟨hr, ha⟩ := h
  obtain hr | hr := hr.lt_or_eq
  · exact .inl hr
  · have same := Cls.rank_inj hr
    exact .inr ⟨same, (ha same.symm).le⟩

/-- Where a joining item comes to stand. -/
theorem State.insertItem_split (s : State) (x : QItem) (q : List QItem) : ∃ front back, q = front ++ back ∧
    s.insertItem x q = front ++ x :: back ∧ (∀ y ∈ front, s.standsBefore y x = true) ∧
    ∀ y, back.head? = some y → s.standsBefore y x = false := by
  induction q with
  | nil => exact ⟨[], [], rfl, rfl, nofun, nofun⟩
  | cons y q ih =>
    obtain ⟨front, back, hq, hi, hf, hb⟩ := ih
    rw [State.insertItem]
    split
    next h => exact ⟨y :: front, back, by rw [hq]; rfl, by rw [hi]; rfl, List.forall_mem_cons.mpr ⟨h, hf⟩, hb⟩
    next h =>
      refine ⟨[], y :: q, rfl, rfl, nofun, fun z hz => ?_⟩
      obtain rfl := Option.some.inj hz
      exact Bool.eq_false_of_not_eq_true h

theorem State.insertItem_pairwise (s : State) (x : QItem) {q : List QItem}
    (hq : q.Pairwise fun y z => s.standsBefore y z = true) :
    (s.insertItem x q).Pairwise fun y z => s.standsBefore y z = true := by
  obtain ⟨front, back, rfl, hi, hf, hb⟩ := s.insertItem_split x q
  obtain ⟨hfront, hback, across⟩ := List.pairwise_append.mp hq
  have first : ∀ z ∈ back, s.standsBefore x z = true := by
    cases back with
    | nil => nofun
    | cons y back =>
      have hx := State.standsBefore_total (hb y rfl)
      refine List.forall_mem_cons.mpr ⟨hx, fun z hz => ?_⟩
      exact State.standsBefore_trans hx (List.rel_of_pairwise_cons hback hz)
  rw [hi, List.pairwise_append, List.pairwise_cons]
  refine ⟨hfront, ⟨first, hback⟩, fun y hy z hz => ?_⟩
  obtain rfl | hz := List.mem_cons.mp hz
  · exact hf y hy
  · exact across y hy z hz

/-! ### Eligibility and selection (R30, R40) -/

theorem State.leasedAway_iff (s : State) (b : BusIx) (it : QItem) : s.leasedAway b it = true ↔
    ∃ j, ∃ e ∈ s.lease j, e.keepsBack b (s.itemOwner it) (s.itemAddrs it) = true := s.any_lease _

theorem State.spaced_iff (s : State) (it : QItem) : s.spaced it = true ↔
    ∃ n, s.itemNotBefore it = some n ∧ s.itemSpacingOver it = false ∧ reached s.clock n = false := by
  unfold State.spaced
  cases s.itemNotBefore it <;> simp

theorem State.isEligible_iff (s : State) (b : BusIx) (it : QItem) :
    s.isEligible b it = true ↔ s.spaced it = false ∧ s.leasedAway b it = false := by
  unfold State.isEligible State.eligibility
  cases s.spaced it <;> cases s.leasedAway b it <;> simp

/-- Two reads of one watch are eligible alike. -/
theorem State.isEligible_watchRead (s : State) (b : BusIx) (w : Fin 12) (c d : Cls) (t u : Clock) (x y : Bool) :
    s.isEligible b (.watchRead w c t x) = s.isEligible b (.watchRead w d u y) := rfl

/-- What the end of a bus-free wait does. -/
theorem State.waitEnd_cases (s : State) (b : BusIx) :
    ((s.bus b).engine ≠ .reserved true ∧ s.waitEnd b = s) ∨
    (s.bus b).engine = .reserved true ∧
      (((s.bus b).queue.find? (s.isEligible b) = none ∧ s.waitEnd b = s.setEngine b .idle) ∨
      ∃ it ∈ (s.bus b).queue, (s.bus b).queue.find? (s.isEligible b) = some it ∧ s.isEligible b it = true ∧
        s.waitEnd b = s.select b it) := by
  by_cases he : (s.bus b).engine = .reserved true
  · refine .inr ⟨he, ?_⟩
    unfold State.waitEnd
    rw [he]
    dsimp only
    cases hf : (s.bus b).queue.find? (s.isEligible b) with
    | none => exact .inl ⟨rfl, rfl⟩
    | some it => exact .inr ⟨it, List.mem_of_find?_eq_some hf, rfl, List.find?_some hf, rfl⟩
  · refine .inl ⟨he, ?_⟩
    unfold State.waitEnd
    split
    next h => exact absurd h he
    next => rfl

/-- What the selection of an item does. -/
theorem State.select_cases (s : State) (b : BusIx) (it : QItem) : s.select b it = s ∨
    (∃ i r, it = .record i ∧ s.record i = some r ∧ s.select b it = ((s.dequeueRecord b i).putRecord i
      { r with state := .active, notBefore := none, spacingOver := false, attempts := r.attempts + 1 }).startAttempt b
        (.record i) r.segments) ∨
    ∃ w c t z x, it = .watchRead w c t z ∧ s.watch w = some x ∧ s.select b it =
      ((s.dequeueWatch b w).putWatch w { x with read := .active }).startAttempt b (.watch w) x.segments := by
  cases it with
  | record i =>
    rw [State.select]
    cases h : s.record i with
    | none => exact .inl rfl
    | some r => exact .inr (.inl ⟨i, r, rfl, h, rfl⟩)
  | watchRead w c t z =>
    rw [State.select]
    cases h : s.watch w with
    | none => exact .inl rfl
    | some x => exact .inr (.inr ⟨w, c, t, z, x, rfl, h, rfl⟩)

theorem exec_busFreeWaitEnd (s : State) (b : BusIx) : exec (.busFreeWaitEnd b) s = .next (s.waitEnd b).settle := rfl

/-- Leaving takes no item that `keep` holds of out of a queue, when none of those that leave satisfies it. -/
theorem List.filter_filter_of_imp {α : Type} {l : List α} {keep leave : α → Bool}
    (h : ∀ x, leave x = true → keep x = false) : ((l.filter fun x => !leave x).filter keep) = l.filter keep := by
  rw [List.filter_filter]
  refine List.filter_congr fun x _ => ?_
  cases hl : leave x
  · simp
  · simp [h x hl]

/-- The items that may not start stay in the queue, and their records as they are. -/
theorem State.waitEnd_ineligible (s : State) (b : BusIx) :
    ((s.waitEnd b).bus b).queue.filter (fun y => !s.isEligible b y) = ((s.bus b).queue.filter fun y => !s.isEligible b y) ∧
      ∀ i, s.isEligible b (.record i) = false → (s.waitEnd b).record i = s.record i := by
  obtain ⟨-, h⟩ | ⟨-, ⟨-, h⟩ | ⟨it, -, -, he, h⟩⟩ := s.waitEnd_cases b <;> rw [h]
  · exact ⟨rfl, fun _ _ => rfl⟩
  · rw [State.setEngine_bus_self]
    exact ⟨rfl, fun _ _ => rfl⟩
  obtain h | ⟨i, r, rfl, hr, h⟩ | ⟨w, c, t, z, x, rfl, hx, h⟩ := s.select_cases b it <;> rw [h]
  · exact ⟨rfl, fun _ _ => rfl⟩
  · refine ⟨?_, fun j hj => ?_⟩
    · rw [State.startAttempt, State.modBus_bus_self, State.putRecord_bus, State.dequeueRecord, State.setQueue,
        State.modBus_bus_self]
      refine List.filter_filter_of_imp fun y hy => ?_
      cases y with
      | record j => obtain rfl : j = i := of_decide_eq_true hy
                    rw [he]; rfl
      | watchRead => cases hy
    · rw [State.startAttempt, State.modBus_record, State.putRecord_record, if_neg]
      · rfl
      · rintro rfl
        rw [he] at hj
        cases hj
  · refine ⟨?_, fun _ _ => rfl⟩
    rw [State.startAttempt, State.modBus_bus_self, State.putWatch_bus, State.dequeueWatch, State.setQueue,
      State.modBus_bus_self]
    refine List.filter_filter_of_imp fun y hy => ?_
    cases y with
    | record => cases hy
    | watchRead v d u y =>
      obtain rfl : v = w := of_decide_eq_true hy
      rw [s.isEligible_watchRead b v d c u t y z, he]
      rfl

/-- An attempt that the end of a bus-free wait begins is that of an eligible item of the queue. -/
theorem State.waitEnd_starts {s : State} {b : BusIx} {item : Item} (hn : ∀ a, (s.bus b).engine ≠ .active a)
    (h : ((s.waitEnd b).bus b).engine.runs item = true) : (s.bus b).engine = .reserved true ∧
      ∃ it ∈ (s.bus b).queue, s.isEligible b it = true ∧
        ((∃ i, it = .record i ∧ item = .record i) ∨ ∃ w c t z, it = .watchRead w c t z ∧ item = .watch w) := by
  have idle {e : Engine} (he : e.runs item = true) : ∃ a, e = .active a := by
    cases e with
    | active a => exact ⟨a, rfl⟩
    | _ => cases he
  obtain ⟨-, hw⟩ | ⟨res, ⟨-, hw⟩ | ⟨it, hm, -, he, hw⟩⟩ := s.waitEnd_cases b <;> rw [hw] at h
  · obtain ⟨a, ha⟩ := idle h
    exact absurd ha (hn a)
  · rw [State.setEngine_bus_self] at h
    cases h
  refine ⟨res, it, hm, he, ?_⟩
  obtain hs | ⟨i, r, rfl, hr, hs⟩ | ⟨w, c, t, z, x, rfl, hx, hs⟩ := s.select_cases b it <;> rw [hs] at h
  · obtain ⟨a, ha⟩ := idle h
    exact absurd ha (hn a)
  · rw [State.startAttempt, State.modBus_bus_self] at h
    exact .inl ⟨i, rfl, (of_decide_eq_true h).symm⟩
  · rw [State.startAttempt, State.modBus_bus_self] at h
    exact .inr ⟨w, c, t, z, rfl, (of_decide_eq_true h).symm⟩

end Sys2Proof.Machine

namespace Sys2Proof.Proofs

open Sys2Proof Sys2Proof.Machine

/-- Settles O38: the walk as a fixpoint, and as its first grant with the walk of what is left. -/
theorem reexaminationLeavesNoneGrantable : Obligations.ReexaminationLeavesNoneGrantable := by
  unfold Obligations.ReexaminationLeavesNoneGrantable
  refine ⟨fun s b before after i e ho he hw => ?_, fun s b => ⟨fun before after i e ho he hb hn => ?_, fun hw => ?_⟩⟩
  · have blocked := s.walkWaiting_blocked b [] (s.waitingOrder b) fun _ _ _ _ h => by simp at h
    obtain ⟨j, g, hj, hg⟩ | ⟨j, hm, g, hj, hg⟩ := blocked before i after e ho he hw
    · exact .inl ⟨j, g, hj, hg⟩
    · exact .inr ⟨j, g, hm, hj, hg⟩
  · have granted (j : Fin 16) (x : Lease) (kept : List (Fin 16)) (hj : s.lease j = some x) (hx : s.mustWait x kept) :
        ∃ y ∈ (s.grantWaiting i e).lease j, (s.grantWaiting i e).mustWait y kept := by
      obtain ⟨report, leases⟩ := s.grantWaiting_lease i e
      have waits := State.mustWait_grantWaiting he hx
      rw [leases j]
      split
      next hji =>
        subst hji
        obtain rfl : e = x := Option.some.inj (he.symm.trans hj)
        exact ⟨_, rfl, waits⟩
      next => exact ⟨x, hj, waits⟩
    have left : s.reexamine b = (s.grantWaiting i e).walkWaiting b before after := by
      rw [State.reexamine, ho, State.walkWaiting_append s b [] before _ hb, State.walkWaiting, he]
      dsimp only
      rw [List.nil_append, if_neg (fun h => hn ((s.walkBlocked_iff e before).mp h))]
    have right : ((s.grantWaiting i e).setWaiting b (before ++ after)).reexamine b =
        (s.grantWaiting i e).walkWaiting b before after := by
      rw [State.reexamine, State.setWaiting_waitingOrder, if_pos rfl, State.walkWaiting_setWaiting,
        State.walkWaiting_append _ b [] before]
      · rfl
      · intro front j back h
        obtain ⟨x, hx, hm⟩ := hb front j back h
        exact granted j x front hx hm
    exact left.trans right.symm
  · have passed := State.walkWaiting_append s b [] (s.waitingOrder b) [] hw
    rw [List.append_nil, List.nil_append] at passed
    exact passed.trans (s.setWaiting_self b)

/-- Settles O51: the place of a joining item, and the wake event. -/
theorem joiningKeepsQueueOrder : Obligations.JoiningKeepsQueueOrder := by
  unfold Obligations.JoiningKeepsQueueOrder
  refine ⟨fun s x _ => s.insertItem_pairwise x, fun s x q => s.insertItem_split x q, State.standsBefore_iff, by decide,
    by decide, fun s b x => ?_, fun s b => ⟨fun hi ⟨y, hy, he⟩ => ?_, fun h => ?_⟩⟩
  · rfl
  · obtain ⟨-, -, h⟩ | ⟨no, -⟩ := s.wake_cases b
    · exact h
    · exact absurd ⟨hi, List.any_eq_true.mpr ⟨y, hy, he⟩⟩ no
  · obtain ⟨idle, found, -⟩ | ⟨-, same⟩ := s.wake_cases b
    · obtain ⟨y, hy, he⟩ := List.any_eq_true.mp found
      obtain busy | none := h
      · exact absurd idle busy
      · exact absurd he (by simp [none y hy])
    · exact same

/-- Settles O53: the two conditions of eligibility, and what the end of a bus-free wait selects. -/
theorem eligibilityAndSelection : Obligations.EligibilityAndSelection := by
  unfold Obligations.EligibilityAndSelection
  have bus {s t : State} {b : BusIx} (h : exec (.busFreeWaitEnd b) s = .next t) : t.bus b = (s.waitEnd b).bus b ∧
      t.records = (s.waitEnd b).records := by
    have ht := h
    rw [exec_busFreeWaitEnd, Host.Outcome.next.injEq] at ht
    rw [← ht]
    exact ⟨(State.settle_chosen _).bus b, (State.settle_chosen _).records⟩
  have starts {s t : State} {b : BusIx} {item : Item} (hc : s.busesCoherent) (hn : ∀ a, (s.bus b).engine ≠ .active a)
      (h : exec (.busFreeWaitEnd b) s = .next t) (hr : (t.bus b).engine.runs item = true) :
      (s.bus b).config.enabled = true ∧ (s.bus b).line = .free ∧ ∃ it ∈ (s.bus b).queue, s.isEligible b it = true ∧
        ((∃ i, it = .record i ∧ item = .record i) ∨ ∃ w c t z, it = .watchRead w c t z ∧ item = .watch w) := by
    obtain ⟨hb, -⟩ := bus h
    rw [hb] at hr
    obtain ⟨reserved, found⟩ := State.waitEnd_starts hn hr
    obtain ⟨-, -, -, free, -⟩ := hc b
    exact ⟨(hc b).enabled (by rw [reserved]; decide) (by rw [reserved]; rfl), free reserved, found⟩
  refine ⟨fun s b it => ?_, fun s i r h => ?_, fun s i c t z w h => ?_, fun s t b h => ?_,
    fun s t b i hc hn h hr => ?_, fun s t b i hc hn h hr => ?_⟩
  · rw [State.isEligible_iff, ← Bool.not_eq_true, ← Bool.not_eq_true, State.spaced_iff, State.leasedAway_iff]
    refine and_congr ?_ ?_
    · simp [reached, imp_iff_or_not, or_comm]
    · simp [Lease.keepsBack, Lease.covers]
  · simp [State.itemNotBefore, State.itemSpacingOver, State.itemOwner, State.itemAddrs, h]
  · simp [State.itemNotBefore, State.itemOwner, State.itemAddrs, h]
  · obtain ⟨hb, hr⟩ := bus h
    obtain ⟨queue, records⟩ := s.waitEnd_ineligible b
    rw [hb]
    refine ⟨queue, fun i hi => ?_⟩
    rw [← records i hi, State.record, hr]
    rfl
  · obtain ⟨enabled, free, it, -, eligible, ⟨j, rfl, hj⟩ | ⟨w, c, u, z, -, hw⟩⟩ := starts hc hn h hr
    · obtain rfl : i = j := Item.record.inj hj
      exact ⟨enabled, free, eligible⟩
    · cases hw
  · obtain ⟨enabled, free, it, hm, eligible, ⟨j, -, hj⟩ | ⟨w, c, u, z, rfl, hw⟩⟩ := starts hc hn h hr
    · cases hj
    · obtain rfl : i = w := Item.watch.inj hw
      exact ⟨enabled, free, c, u, z, hm, eligible⟩

end Sys2Proof.Proofs
end

section
/-! PROOF. BUS_CONFIGURE (chapter 11): its checks, an enable, a disable, and a transfer cut off (chapter 8). -/

namespace Sys2Proof.Machine

/-! ### What reports leave alone -/

/-- From `s` to `t` sessions, records, watches and ports may have changed, and one-bus parts beside the tables. -/
structure State.Offstage (s t : State) : Prop where
  leases : t.leases = s.leases
  groups : t.groups = s.groups
  waiting : t.waiting = s.waiting

theorem State.Offstage.rfl {s : State} : s.Offstage s := ⟨Eq.refl _, Eq.refl _, Eq.refl _⟩

theorem State.Offstage.trans {s t u : State} (h : s.Offstage t) (k : t.Offstage u) : s.Offstage u :=
  ⟨k.leases.trans h.leases, k.groups.trans h.groups, k.waiting.trans h.waiting⟩

theorem State.Offstage.foldl {α : Type} {f : State → α → State} (h : ∀ (s : State) (x : α), s.Offstage (f s x)) (l : List α)
    (s : State) : s.Offstage (l.foldl f s) := by
  induction l generalizing s with
  | nil => exact .rfl
  | cons x l ih => exact (h s x).trans (ih _)

/-- An offer changes the session, and releases the source or not. -/
theorem State.offer_shape (s : State) (p : PortIx) (src : Source) : s.offer p src = s ∨
    ∃ f, s.offer p src = s.modSession p f ∨ s.offer p src = (s.modSession p f).releaseSource p src := by
  obtain ⟨-, h⟩ | ⟨-, -, h⟩ | ⟨-, -, h⟩ := s.offer_cases p src
  · exact .inl h
  · obtain ⟨-, ha⟩ | ⟨r, -, ha⟩ := s.admitOne_cases p src
    · exact .inl (h.trans ha)
    · exact .inr ⟨_, .inr (h.trans ha)⟩
  · exact .inr ⟨_, .inl h⟩

theorem State.offer_record_buses (s : State) (p : PortIx) (i : Fin 64) : (s.offer p (.record i)).buses = s.buses := by
  obtain h | ⟨f, h | h⟩ := s.offer_shape p (.record i) <;> rw [h] <;> rfl

theorem State.offer_busEvent_buses (s : State) (p : PortIx) (b : BusIx) : (s.offer p (.busEvent b)).buses = s.buses := by
  obtain h | ⟨f, h | h⟩ := s.offer_shape p (.busEvent b) <;> rw [h] <;> rfl

/-- The sources that hold a report of a record or a bus. -/
def Source.ofBus : Source → Bool
  | .record _ | .inbound .. | .tally _ | .busEvent _ => true
  | .lease _ | .group _ | .watch _ => false

theorem State.offer_offstage (s : State) (p : PortIx) {src : Source} (hs : src.ofBus = true) : s.Offstage (s.offer p src) := by
  obtain h | ⟨f, h | h⟩ := s.offer_shape p src <;> rw [h]
  · exact .rfl
  · exact ⟨rfl, rfl, rfl⟩
  · cases src with
    | lease => cases hs
    | group => cases hs
    | watch => cases hs
    | _ => exact ⟨rfl, rfl, rfl⟩

theorem State.Offstage.offer {s t : State} (h : s.Offstage t) (p : PortIx) {src : Source} (hs : src.ofBus = true) :
    s.Offstage (t.offer p src) := h.trans (t.offer_offstage p hs)

theorem State.offerBusEventTo_offstage (s : State) (b : BusIx) (kind : BusEventKind) (p : PortIx) :
    s.Offstage (s.offerBusEventTo b kind p) ∧ (s.offerBusEventTo b kind p).buses = s.buses := by
  unfold State.offerBusEventTo
  dsimp only
  split
  · refine ⟨State.Offstage.offer ?_ p rfl, ?_⟩
    · exact ⟨rfl, rfl, rfl⟩
    · exact State.offer_busEvent_buses _ p b
  · exact ⟨.rfl, rfl⟩

theorem State.offerBusEvent_offstage (s : State) (b : BusIx) (kind : BusEventKind) : s.Offstage (s.offerBusEvent b kind) :=
  ((State.offerBusEventTo_offstage s b kind 0).1.trans (State.offerBusEventTo_offstage _ b kind 1).1).trans
    (State.offerBusEventTo_offstage _ b kind 2).1

theorem State.offerBusEvent_buses (s : State) (b : BusIx) (kind : BusEventKind) :
    (s.offerBusEvent b kind).buses = s.buses :=
  ((State.offerBusEventTo_offstage _ b kind 2).2.trans (State.offerBusEventTo_offstage _ b kind 1).2).trans
    (State.offerBusEventTo_offstage s b kind 0).2

theorem State.offerBusEvent_bus (s : State) (b : BusIx) (kind : BusEventKind) (n : BusIx) :
    (s.offerBusEvent b kind).bus n = s.bus n := by
  simp only [State.bus, State.offerBusEvent_buses]

theorem State.finishRecord_buses (s : State) (i : Fin 64) (st : Status) (f : Option Nat) (n : Nat) (d : List Byte) :
    (s.finishRecord i st f n d).buses = s.buses := by
  obtain ⟨-, h⟩ | ⟨r, -, h⟩ := s.finishRecord_cases i st f n d <;> rw [h]
  exact State.offer_record_buses _ _ i

theorem State.finishRecord_offstage (s : State) (i : Fin 64) (st : Status) (f : Option Nat) (n : Nat) (d : List Byte) :
    s.Offstage (s.finishRecord i st f n d) := by
  obtain ⟨-, h⟩ | ⟨r, -, h⟩ := s.finishRecord_cases i st f n d <;> rw [h]
  · exact .rfl
  · refine State.Offstage.offer ?_ r.owner rfl
    exact ⟨rfl, rfl, rfl⟩

theorem State.modWatch_offstage (s : State) (i : Fin 12) (f : Watch → Watch) : s.Offstage (s.modWatch i f) := by
  unfold State.modWatch
  split <;> exact ⟨rfl, rfl, rfl⟩

theorem State.dropItem_buses (s : State) (it : QItem) : (s.dropItem it).buses = s.buses := by
  cases it with
  | record i => exact s.finishRecord_buses i _ _ _ _
  | watchRead w => exact s.modWatch_buses w _

theorem State.dropItem_offstage (s : State) (it : QItem) : s.Offstage (s.dropItem it) := by
  cases it with
  | record i => exact s.finishRecord_offstage i _ _ _ _
  | watchRead w => exact s.modWatch_offstage w _

theorem State.foldl_dropItem_buses (l : List QItem) (s : State) : (l.foldl (fun t it => t.dropItem it) s).buses = s.buses := by
  induction l generalizing s with
  | nil => rfl
  | cons it l ih => exact (ih _).trans (s.dropItem_buses it)

theorem State.clearQueue_buses (s : State) (b : BusIx) : (s.clearQueue b).buses = (s.setQueue b []).buses :=
  State.foldl_dropItem_buses _ _

theorem State.clearQueue_offstage (s : State) (b : BusIx) : s.Offstage (s.clearQueue b) :=
  State.Offstage.trans (t := s.setQueue b []) ⟨rfl, rfl, rfl⟩ (.foldl (fun t it => t.dropItem_offstage it) _ _)

/-! ### A transfer that ends (R136, R137, R142) -/

/-- The first slot of a property. -/
theorem find?_finRange_eq_some {n : Nat} {f : Fin n → Bool} {k : Fin n} :
    (List.finRange n).find? f = some k ↔ f k = true ∧ ∀ j < k, f j = false := by
  rw [List.find?_eq_some_iff_getElem]
  constructor
  · rintro ⟨hk, i, hi, rfl, first⟩
    refine ⟨hk, fun j hj => ?_⟩
    rw [List.getElem_finRange] at hj
    simpa using first j.val (Fin.lt_def.mp hj)
  · rintro ⟨hk, first⟩
    refine ⟨hk, k.val, by simp, by simp, fun j hj => ?_⟩
    simp [first ⟨j, by omega⟩ (Fin.lt_def.mpr hj)]

theorem Target.filling_none {t : Target} : t.filling = none ↔ ∀ j : Fin 4, t.slots[j].state ≠ .filling := by
  simp [Target.filling]

theorem Target.filling_some {t : Target} {k : Fin 4} (h : t.slots[k].state = .filling)
    (first : ∀ j : Fin 4, j < k → t.slots[j].state ≠ .filling) : t.filling = some k :=
  find?_finRange_eq_some.mpr ⟨decide_eq_true h, fun j hj => decide_eq_false (first j hj)⟩

theorem State.completeWrite_offstage (s : State) (b : BusIx) (followed : Bool) : s.Offstage (s.completeWrite b followed) := by
  unfold State.completeWrite
  dsimp only
  repeat' split
  · exact .rfl
  · exact ⟨rfl, rfl, rfl⟩
  · exact ⟨rfl, rfl, rfl⟩
  · refine State.Offstage.offer ?_ _ rfl
    exact ⟨rfl, rfl, rfl⟩

theorem State.endRead_offstage (s : State) (b : BusIx) : s.Offstage (s.endRead b) := by
  unfold State.endRead
  dsimp only
  repeat' split
  · exact .rfl
  · exact ⟨rfl, rfl, rfl⟩
  · exact ⟨rfl, rfl, rfl⟩
  · refine State.Offstage.offer ?_ _ rfl
    exact ⟨rfl, rfl, rfl⟩

theorem State.cutOff_offstage (s : State) (b : BusIx) : s.Offstage (s.cutOff b) :=
  (s.completeWrite_offstage b false).trans (State.endRead_offstage _ b)

section transfer

variable {s : State} {b : BusIx} {k : Fin 4} {p : PortIx}

theorem State.completeWrite_none (hf : (s.bus b).target.filling = none) (followed : Bool) : s.completeWrite b followed = s := by
  unfold State.completeWrite
  dsimp only
  rw [hf]

/-- A write that ends is complete, counted and reported to the owner (R136). -/
theorem State.completeWrite_kept (hf : (s.bus b).target.filling = some k) (hd : (s.bus b).target.discard = false)
    (ho : (s.bus b).target.owner = some p) (followed : Bool) : s.completeWrite b followed = (s.modBus b fun x => { x with
      counters := { x.counters with targetWrites := satInc x.counters.targetWrites }
      target := { x.target with
        slots := x.target.slots.set k
          ({ x.target.slots[k] with
             state := .complete
             followedByRead := followed
             completionTime := some s.clock } : InSlot) } }).offer p (.inbound b k) := by
  unfold State.completeWrite
  dsimp only
  rw [hf]
  dsimp only
  rw [hd, ho]
  simp only [Bool.false_eq_true, if_false, State.setInSlot, State.countBus, State.modTarget, State.modBus_modBus]
  exact congrArg (fun t : State => t.offer p (.inbound b k)) (State.modBus_congr _ _ _ _ rfl)

/-- A write under a discard mark leaves an EMPTY slot, and the mark goes (R141, R142). -/
theorem State.completeWrite_dropped (hf : (s.bus b).target.filling = some k) (hd : (s.bus b).target.discard = true)
    (followed : Bool) : s.completeWrite b followed = s.modBus b fun x => { x with
      counters := { x.counters with targetWrites := satInc x.counters.targetWrites }
      target := { x.target with slots := x.target.slots.set k InSlot.empty, discard := false } } := by
  unfold State.completeWrite
  dsimp only
  rw [hf]
  dsimp only
  rw [if_pos hd]
  simp only [State.setInSlot, State.countBus, State.modTarget, State.modBus_modBus]

theorem State.endRead_none (hr : (s.bus b).target.reading = none) : s.endRead b = s := by
  unfold State.endRead
  dsimp only
  rw [hr]

/-- The unit's part of the end of a read (R137, R140). -/
def State.readEnded (s : State) (b : BusIx) : State :=
  s.modBus b fun x => { x with
    counters := { x.counters with targetReads := satInc x.counters.targetReads }
    target := { x.target with
      reading := none
      deferred := none
      outbound := x.target.deferred.getD x.target.outbound
      discard := false } }

theorem State.endRead_untallied {r : ReadProgress} (hr : (s.bus b).target.reading = some r)
    (h : (s.bus b).target.discard = true ∨ ∀ p, (s.bus b).target.owner = some p → (s.session p).maskTargetRead = false) :
    s.endRead b = s.readEnded b := by
  unfold State.endRead
  dsimp only
  rw [hr]
  dsimp only
  have ended : ((s.countBus b fun c => { c with targetReads := satInc c.targetReads }).modTarget b fun x => { x with
      reading := none
      deferred := none
      outbound := (s.bus b).target.deferred.getD (s.bus b).target.outbound
      discard := false }) = s.readEnded b := by
    simp only [State.countBus, State.modTarget, State.modBus_modBus]
    exact State.modBus_congr _ _ _ _ rfl
  split
  · exact ended
  next p ho =>
    rw [if_pos, ended]
    obtain hd | hm := h
    · rw [hd, Bool.true_or]
    · rw [hm p ho, Bool.not_false, Bool.or_true]

/-- A read of an owner that asks for tallies (R138). -/
theorem State.endRead_tallied {r : ReadProgress} (hr : (s.bus b).target.reading = some r)
    (hd : (s.bus b).target.discard = false) (ho : (s.bus b).target.owner = some p)
    (hm : (s.session p).maskTargetRead = true) : s.endRead b = ((s.readEnded b).modBus b fun x => { x with
      target := { x.target with tally := some (mergeTally (s.bus b).target.tally r s.clock
        ((s.bus b).target.deferred.getD (s.bus b).target.outbound).length) } }).offer p (.tally b) := by
  unfold State.endRead
  dsimp only
  rw [hr]
  dsimp only
  rw [ho, hd]
  dsimp only
  rw [hm]
  simp only [Bool.not_true, Bool.or_false, Bool.false_eq_true, if_false, State.readEnded, State.countBus, State.modTarget,
    State.modBus_modBus]
  exact congrArg (fun t : State => t.offer p (.tally b)) (State.modBus_congr _ _ _ _ rfl)

/-- The offer of a write's report begins no read. -/
theorem State.offer_inbound_reading (s : State) (p : PortIx) (b : BusIx) (k : Fin 4) :
    ((s.offer p (.inbound b k)).bus b).target.reading = (s.bus b).target.reading := by
  obtain h | ⟨f, h | h⟩ := s.offer_shape p (.inbound b k) <;> rw [h]
  · rfl
  · rw [State.releaseSource, State.modTarget, State.modBus_bus_self]
    rfl

end transfer

/-! ### The queue of a disabled bus (R43, R177) -/

theorem State.clearQueue_bus (s : State) (b n : BusIx) :
    (s.clearQueue b).bus n = if n = b then { s.bus b with queue := [] } else s.bus n := by
  have buses : (s.clearQueue b).bus n = (s.setQueue b []).bus n := by simp only [State.bus, s.clearQueue_buses b]
  rw [buses, State.setQueue, State.modBus_bus]

theorem State.promoteDue_nil {s : State} {b : BusIx} (h : (s.bus b).queue = []) : s.promoteDue b = s := by
  simp [State.promoteDue, State.dueForPromotion, h]

theorem State.foldl_invariant {α β : Type} {g : State → β} {f : State → α → State} (h : ∀ s x, g (f s x) = g s) (l : List α)
    (s : State) : g (l.foldl f s) = g s := by
  induction l generalizing s with
  | nil => rfl
  | cons x l ih => exact (ih _).trans (h s x)

theorem State.modRecord_offstage (s : State) (i : Fin 64) (f : Record → Record) : s.Offstage (s.modRecord i f) := by
  unfold State.modRecord
  split <;> exact ⟨rfl, rfl, rfl⟩

theorem State.promote_sessions (s : State) (b : BusIx) (it : QItem) : (s.promote b it).sessions = s.sessions := by
  cases it with
  | record i =>
    unfold State.promote State.modRecord
    dsimp only
    split <;> rfl
  | watchRead => rfl

theorem State.promote_offstage (s : State) (b : BusIx) (it : QItem) : s.Offstage (s.promote b it) := by
  cases it with
  | record i =>
    unfold State.promote State.modRecord
    dsimp only
    split <;> exact ⟨rfl, rfl, rfl⟩
  | watchRead => exact ⟨rfl, rfl, rfl⟩

theorem State.promoteDue_sessions (s : State) (b : BusIx) : (s.promoteDue b).sessions = s.sessions :=
  State.foldl_invariant (fun t it => t.promote_sessions b it) _ s

theorem State.promoteDue_offstage (s : State) (b : BusIx) : s.Offstage (s.promoteDue b) :=
  .foldl (fun t it => t.promote_offstage b it) _ s

/-! ### The bus of a transfer cut off -/

theorem State.offer_queue (s : State) (p : PortIx) (src : Source) (n : BusIx) :
    ((s.offer p src).bus n).queue = (s.bus n).queue := by
  have target (t : State) (b : BusIx) (f : Target → Target) : ((t.modTarget b f).bus n).queue = (t.bus n).queue := by
    rw [State.modTarget, State.modBus_bus]
    split
    next h => rw [h]
    next => rfl
  have released (t : State) : ((t.releaseSource p src).bus n).queue = (t.bus n).queue := by
    cases src with
    | lease i =>
      rw [State.releaseSource]
      split
      · rfl
      · split <;> rfl
    | group i =>
      rw [State.releaseSource]
      split <;> rfl
    | watch i =>
      rw [State.releaseSource, State.modWatch]
      split <;> rfl
    | inbound b k => exact target t b _
    | tally b => exact target t b _
    | _ => rfl
  obtain h | ⟨f, h | h⟩ := s.offer_shape p src <;> rw [h]
  · rfl
  · exact released _

theorem State.modBus_queue {s : State} {c : BusIx} {f : Bus → Bus} (h : ∀ x, (f x).queue = x.queue) (b : BusIx) :
    ((s.modBus c f).bus b).queue = (s.bus b).queue := by
  rw [State.modBus_bus]
  split
  next e => rw [h, e]
  next => rfl

theorem State.completeWrite_queue (s : State) (b : BusIx) (followed : Bool) (n : BusIx) :
    ((s.completeWrite b followed).bus n).queue = (s.bus n).queue := by
  unfold State.completeWrite
  dsimp only
  simp only [State.setInSlot, State.countBus, State.modTarget, State.modBus_modBus]
  repeat' split
  · rfl
  · exact State.modBus_queue (by exact fun _ => rfl) n
  · exact State.modBus_queue (by exact fun _ => rfl) n
  · exact (State.offer_queue _ _ _ n).trans (State.modBus_queue (by exact fun _ => rfl) n)

theorem State.endRead_queue (s : State) (b n : BusIx) : ((s.endRead b).bus n).queue = (s.bus n).queue := by
  unfold State.endRead
  dsimp only
  simp only [State.countBus, State.modTarget, State.modBus_modBus]
  repeat' split
  · rfl
  · exact State.modBus_queue (by exact fun _ => rfl) n
  · exact State.modBus_queue (by exact fun _ => rfl) n
  · exact (State.offer_queue _ _ _ n).trans (State.modBus_queue (by exact fun _ => rfl) n)

theorem State.cutOff_queue (s : State) (b n : BusIx) : ((s.cutOff b).bus n).queue = (s.bus n).queue :=
  (State.endRead_queue _ b n).trans (s.completeWrite_queue b false n)

/-! ### A disable (R58, R177) -/

section disable

variable {s : State} {b : BusIx}

theorem State.abortAttempt_watch {a : Attempt} {w : Fin 12} (h : (s.bus b).engine = .active (some a)) (hi : a.item = .watch w) :
    s.abortAttempt b = s.setEngine b (.active (some { a with abortPending := true })) := by
  unfold State.abortAttempt
  rw [h]
  dsimp only
  rw [hi]

theorem State.abortAttempt_record {a : Attempt} {i : Fin 64} {r : Record} (h : (s.bus b).engine = .active (some a))
    (hi : a.item = .record i) (hr : s.record i = some r) : s.abortAttempt b =
      (s.putRecord i { r with abortPending := true }).setEngine b (.active (some { a with abortPending := true })) := by
  unfold State.abortAttempt
  rw [h]
  dsimp only
  rw [hi]
  dsimp only
  rw [State.modRecord, State.setEngine_record, hr]
  rfl

theorem State.disableEngine_active {a : Attempt} (h : (s.bus b).engine = .active (some a)) : s.disableEngine b =
    (s.abortAttempt b).setEngine b (.active (some { a with abortPending := true, underDisable := true })) := by
  unfold State.disableEngine
  rw [h]
  dsimp only
  refine State.modBus_congr _ _ _ _ ?_
  rw [State.abortAttempt_bus h]

/-- The state whose engine enters DISABLED at once: a transfer is cut off before (R58). -/
def State.beforeDisabled (s : State) (b : BusIx) : State := if (s.bus b).engine = .target then s.cutOff b else s

theorem State.disableEngine_other (h : ∀ a, (s.bus b).engine ≠ .active (some a)) (hd : (s.bus b).engine ≠ .disabled) :
    s.disableEngine b = (s.beforeDisabled b).enterDisabled b := by
  unfold State.disableEngine State.beforeDisabled
  split
  next e => exact absurd e hd
  next a e => exact absurd e (h a)
  next e => rw [if_pos e]
  all_goals
    next e => rw [if_neg (by rw [e]; nofun)]

theorem State.beforeDisabled_calm (s : State) (b : BusIx) : s.Calm (s.beforeDisabled b) := by
  unfold State.beforeDisabled
  split
  · exact s.cutOff_calm b
  · exact .rfl

theorem State.beforeDisabled_offstage (s : State) (b : BusIx) : s.Offstage (s.beforeDisabled b) := by
  unfold State.beforeDisabled
  split
  · exact s.cutOff_offstage b
  · exact .rfl

theorem State.beforeDisabled_queue (s : State) (b n : BusIx) : ((s.beforeDisabled b).bus n).queue = (s.bus n).queue := by
  unfold State.beforeDisabled
  split
  · exact s.cutOff_queue b n
  · rfl

theorem State.enterDisabled_bus (s : State) (b n : BusIx) : (s.enterDisabled b).bus n = if n = b then
    { s.bus b with engine := .disabled, line := .off, following := false, faultReason := none } else s.bus n := by
  rw [State.enterDisabled, State.offerBusEvent_bus, State.modBus_bus]

theorem State.abortAttempt_offstage (s : State) (b : BusIx) : s.Offstage (s.abortAttempt b) := by
  unfold State.abortAttempt
  split
  · dsimp only
    split
    · refine State.Offstage.trans ?_ (State.modRecord_offstage _ _ _)
      exact ⟨rfl, rfl, rfl⟩
    · exact ⟨rfl, rfl, rfl⟩
  · exact .rfl

theorem State.abortAttempt_other (s : State) {b n : BusIx} (hn : n ≠ b) : (s.abortAttempt b).bus n = s.bus n := by
  have engine (e : Engine) : (s.setEngine b e).bus n = s.bus n := by rw [State.setEngine, State.modBus_bus, if_neg hn]
  unfold State.abortAttempt
  split
  · dsimp only
    split
    · exact (State.modRecord_bus _ _ _ n).trans (engine _)
    · exact engine _
  · rfl

theorem State.disableEngine_offstage (s : State) (b : BusIx) : s.Offstage (s.disableEngine b) := by
  by_cases h : ∃ a, (s.bus b).engine = .active (some a)
  · obtain ⟨a, h⟩ := h
    rw [State.disableEngine_active h]
    refine (s.abortAttempt_offstage b).trans ?_
    exact ⟨rfl, rfl, rfl⟩
  · have h : ∀ a, (s.bus b).engine ≠ .active (some a) := fun a ha => h ⟨a, ha⟩
    by_cases hd : (s.bus b).engine = .disabled
    · unfold State.disableEngine
      rw [hd]
      exact .rfl
    · rw [State.disableEngine_other h hd, State.enterDisabled]
      refine (s.beforeDisabled_offstage b).trans (State.Offstage.trans ?_ (State.offerBusEvent_offstage _ b _))
      exact ⟨rfl, rfl, rfl⟩

/-- What a disable leaves of its bus, and of the others. -/
structure State.Disabled (s t : State) (b : BusIx) : Prop where
  queue : (t.bus b).queue = []
  off : (∀ a, (s.bus b).engine ≠ .active (some a)) →
    (t.bus b).engine = .disabled ∧ (t.bus b).line = .off ∧ (t.bus b).faultReason = none
  finishing : ∀ a, (s.bus b).engine = .active (some a) →
    (t.bus b).engine = .active (some { a with abortPending := true, underDisable := true }) ∧
    (t.bus b).line = (s.bus b).line
  config : (t.bus b).config.enabled = false
  others : ∀ n, n ≠ b → (t.bus n).config = (s.bus n).config ∧ (t.bus n).engine = (s.bus n).engine ∧
    (t.bus n).line = (s.bus n).line

/-- The state of a disabled bus with its queue emptied. -/
def State.emptied (s : State) (b : BusIx) : State := (s.modConfig b fun c => { c with enabled := false }).clearQueue b

theorem State.emptied_bus (s : State) (b n : BusIx) : (s.emptied b).bus n = if n = b then
    { s.bus b with config := { (s.bus b).config with enabled := false }, queue := [] } else s.bus n := by
  rw [State.emptied, State.clearQueue_bus, State.modConfig, State.modBus_bus_self, State.modBus_bus]
  split <;> rfl

theorem State.disableBus_disabled (hd : (s.bus b).engine ≠ .disabled) : State.Disabled s (s.disableBus b) b := by
  have empty : (s.emptied b).bus b = { s.bus b with
      config := { (s.bus b).config with enabled := false }
      queue := [] } := (s.emptied_bus b b).trans (if_pos rfl)
  have other (n) (hn : n ≠ b) : (s.emptied b).bus n = s.bus n := (s.emptied_bus b n).trans (if_neg hn)
  have he : ((s.emptied b).bus b).engine = (s.bus b).engine := by rw [empty]
  change State.Disabled s ((s.emptied b).disableEngine b) b
  by_cases h : ∃ a, (s.bus b).engine = .active (some a)
  · obtain ⟨a, h⟩ := h
    have ha := he.trans h
    have bus : ((s.emptied b).disableEngine b).bus b = { s.bus b with
        config := { (s.bus b).config with enabled := false }
        queue := []
        engine := .active (some { a with abortPending := true, underDisable := true }) } := by
      rw [State.disableEngine_active ha, State.setEngine_bus_self, State.abortAttempt_bus ha, empty]
    refine ⟨by rw [bus], fun no => absurd h (no a), fun a' h' => ?_, by rw [bus], fun n hn => ?_⟩
    · obtain rfl : a = a' := by simpa using h.symm.trans h'
      rw [bus]
      exact ⟨rfl, rfl⟩
    · rw [State.disableEngine_active ha, State.setEngine, State.modBus_bus, if_neg hn, State.abortAttempt_other _ hn, other n hn]
      exact ⟨rfl, rfl, rfl⟩
  · have h : ∀ a, (s.bus b).engine ≠ .active (some a) := fun a ha => h ⟨a, ha⟩
    rw [State.disableEngine_other (by rw [he]; exact h) (by rw [he]; exact hd)]
    have calm := (s.emptied b).beforeDisabled_calm b
    have bus := ((s.emptied b).beforeDisabled b).enterDisabled_bus b b
    rw [if_pos rfl] at bus
    refine ⟨by rw [bus]; exact (State.beforeDisabled_queue _ b b).trans (by rw [empty]), fun _ => by rw [bus]; exact ⟨rfl, rfl, rfl⟩,
      fun a ha => absurd ha (h a), by rw [bus]; exact (congrArg BusConfig.enabled (calm.configs b)).trans (by rw [empty]),
      fun n hn => ?_⟩
    rw [State.enterDisabled_bus, if_neg hn, calm.configs, calm.engines, calm.lines, other n hn]
    exact ⟨rfl, rfl, rfl⟩

end disable

end Sys2Proof.Machine
end

section
/-! PROOF. BUS_CONFIGURE (chapter 11): the request. -/

namespace Sys2Proof.Machine

/-! ### The values -/

section values

variable {s : State} {b : BusIx} {c : BusConfig}

/-- The state with the new values, before a changed aging limit promotes (R175). -/
def State.valuesSet (s : State) (b : BusIx) (c : BusConfig) : State := s.modConfig b fun x => { c with enabled := x.enabled }

theorem State.applyValues_eq (s : State) (b : BusIx) (c : BusConfig) : s.applyValues b c =
    if c.aging = (s.bus b).config.aging then s.valuesSet b c else (s.valuesSet b c).promoteDue b := by
  unfold State.applyValues
  dsimp only
  split
  · rfl
  next h => rw [if_pos (not_not.mp h)]; rfl

theorem State.valuesSet_bus (s : State) (b : BusIx) (c : BusConfig) (n : BusIx) : (s.valuesSet b c).bus n = if n = b then
    { s.bus b with config := { c with enabled := (s.bus b).config.enabled } } else s.bus n := by
  rw [State.valuesSet, State.modConfig, State.modBus_bus]

theorem State.applyValues_calm (s : State) (b : BusIx) (c : BusConfig) : (s.valuesSet b c).Calm (s.applyValues b c) := by
  rw [State.applyValues_eq]
  split
  · exact .rfl
  · exact State.promoteDue_calm _ b

theorem State.applyValues_bus_config (s : State) (b : BusIx) (c : BusConfig) :
    ((s.applyValues b c).bus b).config = { c with enabled := (s.bus b).config.enabled } := by
  rw [(s.applyValues_calm b c).configs b, State.valuesSet_bus, if_pos rfl]

/-- The new values leave engines and monitors, and the other buses' configurations. -/
theorem State.applyValues_bus_core (s : State) (b : BusIx) (c : BusConfig) (n : BusIx) :
    ((s.applyValues b c).bus n).engine = (s.bus n).engine ∧ ((s.applyValues b c).bus n).line = (s.bus n).line ∧
      (n ≠ b → ((s.applyValues b c).bus n).config = (s.bus n).config) := by
  have calm := s.applyValues_calm b c
  rw [calm.engines, calm.lines, calm.configs, State.valuesSet_bus]
  split
  next h => subst h; exact ⟨rfl, rfl, absurd rfl⟩
  next => exact ⟨rfl, rfl, fun _ => rfl⟩

theorem State.applyValues_sessions (s : State) (b : BusIx) (c : BusConfig) :
    (s.applyValues b c).sessions = s.sessions ∧ s.Offstage (s.applyValues b c) := by
  have set : (s.valuesSet b c).sessions = s.sessions ∧ s.Offstage (s.valuesSet b c) := ⟨rfl, rfl, rfl, rfl⟩
  rw [State.applyValues_eq]
  split
  · exact set
  · exact ⟨(State.promoteDue_sessions _ b).trans set.1, set.2.trans (State.promoteDue_offstage _ b)⟩

/-- On an empty queue the new values promote nothing. -/
theorem State.applyValues_empty (hq : (s.bus b).queue = []) (he : (s.bus b).config.enabled = c.enabled) :
    s.applyValues b c = s.modBus b fun x => { x with config := c } := by
  have set : s.valuesSet b c = s.modBus b fun x => { x with config := c } := by
    unfold State.valuesSet State.modConfig
    exact State.modBus_congr _ _ _ _ (by dsimp only; rw [he])
  rw [State.applyValues_eq, State.promoteDue_nil, ite_self, set]
  rw [State.valuesSet_bus, if_pos rfl, hq]

/-! ### The four ways of a BUS_CONFIGURE (R175) -/

theorem State.applyConfig_kept (he : (s.bus b).config.enabled = true) (hc : c.enabled = true) :
    s.applyConfig b c = s.applyValues b c := by
  rw [State.applyConfig, if_pos (show s.enabled b = true from he), if_pos hc]

theorem State.applyConfig_disable (he : (s.bus b).config.enabled = true) (hc : c.enabled = false)
    (hd : (s.bus b).engine ≠ .disabled) :
    s.applyConfig b c = (s.disableBus b).modBus b fun x => { x with config := c } := by
  have disabled := State.disableBus_disabled hd
  rw [State.applyConfig, if_pos (show s.enabled b = true from he), if_neg (by rw [hc]; decide),
    State.applyValues_empty disabled.queue (disabled.config.trans hc.symm)]

theorem State.applyConfig_enable (he : (s.bus b).config.enabled = false) (hc : c.enabled = true) :
    s.applyConfig b c = (s.applyValues b c).enableBus b := by
  rw [State.applyConfig, if_neg (show ¬s.enabled b = true by rw [State.enabled, he]; decide), if_pos hc]

theorem State.applyConfig_off (he : (s.bus b).config.enabled = false) (hc : c.enabled = false) :
    s.applyConfig b c = s.applyValues b c := by
  rw [State.applyConfig, if_neg (show ¬s.enabled b = true by rw [State.enabled, he]; decide), if_neg (by rw [hc]; decide)]

/-- What an enable does (R59, R176). -/
theorem State.enableBus_eq (s : State) (b : BusIx) : s.enableBus b =
    if (s.bus b).engine = .disabled then
      (s.modBus b fun x => { x with
        config := { x.config with enabled := true }
        line := .unknown
        engine := .idle }).wake b
    else s.modBus b fun x => { x with config := { x.config with enabled := true } } := by
  unfold State.enableBus
  dsimp only
  split
  next h => rw [if_pos h]; simp only [State.enterIdle, State.modConfig, State.setLine, State.setEngine, State.modBus_modBus]
  next h => rw [if_neg h]; rfl

/-- A wake event moves the engine of its bus alone, to RESERVED. -/
theorem State.wake_bus (s : State) (b n : BusIx) : (s.wake b).bus n = s.bus n ∨
    n = b ∧ (s.bus b).engine = .idle ∧
      (s.wake b).bus n = { s.bus b with engine := .reserved (decide ((s.bus b).line = .free)) } := by
  obtain ⟨he, -, h⟩ | ⟨-, h⟩ := s.wake_cases b <;> rw [h]
  · rw [State.setEngine, State.modBus_bus]
    split
    next hn => exact .inr ⟨hn, he, rfl⟩
    next => exact .inl rfl
  · exact .inl rfl

/-- What an enable of a disabled bus leaves of the buses (R59, R176). -/
theorem State.enableBus_bus (s : State) (b n : BusIx) : ((s.enableBus b).bus b).config = { (s.bus b).config with enabled := true } ∧
    ((s.bus b).engine = .disabled → ((s.enableBus b).bus b).line = .unknown ∧
      (((s.enableBus b).bus b).engine = .idle ∨ ((s.enableBus b).bus b).engine = .reserved false)) ∧
    ((s.bus b).engine ≠ .disabled → ((s.enableBus b).bus b).line = (s.bus b).line ∧
      ((s.enableBus b).bus b).engine = (s.bus b).engine) ∧ (n ≠ b → (s.enableBus b).bus n = s.bus n) := by
  rw [State.enableBus_eq]
  split
  next h =>
    refine ⟨?_, fun _ => ?_, absurd h, fun hn => ?_⟩
    · obtain hw | ⟨-, -, hw⟩ := State.wake_bus (s.modBus b fun x => { x with
        config := { x.config with enabled := true }, line := .unknown, engine := .idle }) b b <;>
        rw [hw, State.modBus_bus_self]
    · obtain hw | ⟨-, -, hw⟩ := State.wake_bus (s.modBus b fun x => { x with
        config := { x.config with enabled := true }, line := .unknown, engine := .idle }) b b <;>
        rw [hw, State.modBus_bus_self]
      · exact ⟨rfl, .inl rfl⟩
      · exact ⟨rfl, .inr (by simp)⟩
    · obtain hw | ⟨hb, -⟩ := State.wake_bus (s.modBus b fun x => { x with
        config := { x.config with enabled := true }, line := .unknown, engine := .idle }) b n
      · rw [hw, State.modBus_bus, if_neg hn]
      · exact absurd hb hn
  next h =>
    rw [State.modBus_bus_self, State.modBus_bus]
    exact ⟨rfl, fun hd => absurd hd h, fun _ => ⟨rfl, rfl⟩, fun hn => if_neg hn⟩

theorem State.enableBus_sessions (s : State) (b : BusIx) :
    (s.enableBus b).sessions = s.sessions ∧ s.Offstage (s.enableBus b) := by
  rw [State.enableBus_eq]
  split
  · obtain ⟨-, -, h⟩ | ⟨-, h⟩ := State.wake_cases (s.modBus b fun x => { x with
      config := { x.config with enabled := true }, line := .unknown, engine := .idle }) b <;> rw [h] <;>
      exact ⟨rfl, rfl, rfl, rfl⟩
  · exact ⟨rfl, rfl, rfl, rfl⟩

theorem State.modBus_offstage (s : State) (b : BusIx) (f : Bus → Bus) : s.Offstage (s.modBus b f) := ⟨rfl, rfl, rfl⟩

theorem State.disableBus_offstage (s : State) (b : BusIx) : s.Offstage (s.disableBus b) := by
  refine State.Offstage.trans ?_ ((State.clearQueue_offstage (s.modConfig b fun c => { c with enabled := false }) b).trans
    (State.disableEngine_offstage _ b))
  exact State.modBus_offstage s b _

theorem State.applyConfig_bus_config (hc : s.busesCoherent) : ((s.applyConfig b c).bus b).config = c := by
  cases he : (s.bus b).config.enabled <;> cases hx : c.enabled
  · rw [State.applyConfig_off he hx, State.applyValues_bus_config, he, ← hx]
  · rw [State.applyConfig_enable he hx, (State.enableBus_bus _ b b).1, State.applyValues_bus_config, ← hx]
  · obtain ⟨engine, -⟩ := (hc b).running he
    rw [State.applyConfig_disable he hx engine, State.modBus_bus_self]
  · rw [State.applyConfig_kept he hx, State.applyValues_bus_config, he, ← hx]

/-- What an accepted BUS_CONFIGURE leaves of the buses, the sessions and the tables (R175 to R177). -/
structure State.Configured (s u : State) (b : BusIx) (c : BusConfig) : Prop where
  kept : (s.bus b).config.enabled = true → c.enabled = true →
    (u.bus b).engine = (s.bus b).engine ∧ (u.bus b).line = (s.bus b).line
  begun : (s.bus b).config.enabled = false → (s.bus b).engine = .disabled → c.enabled = true →
    (u.bus b).line = .unknown ∧ ((u.bus b).engine = .idle ∨ (u.bus b).engine = .reserved false)
  finishing : (s.bus b).config.enabled = false → (s.bus b).engine ≠ .disabled → c.enabled = true →
    (u.bus b).line = (s.bus b).line ∧ (u.bus b).engine = (s.bus b).engine
  sessions : c.enabled = true → u.sessions = s.sessions
  disabled : (s.bus b).config.enabled = true → c.enabled = false → State.Disabled s u b
  others : ∀ n, n ≠ b → (u.bus n).config = (s.bus n).config ∧ (u.bus n).engine = (s.bus n).engine ∧
    (u.bus n).line = (s.bus n).line
  offstage : s.Offstage u

theorem State.applyConfig_configured (hc : s.busesCoherent) : State.Configured s (s.applyConfig b c) b c := by
  obtain ⟨sessions, offstage⟩ := s.applyValues_sessions b c
  have core := s.applyValues_bus_core b c
  obtain ⟨engine, line, -⟩ := core b
  have other (n) (hn : n ≠ b) : ((s.applyValues b c).bus n).config = (s.bus n).config ∧
      ((s.applyValues b c).bus n).engine = (s.bus n).engine ∧ ((s.applyValues b c).bus n).line = (s.bus n).line := by
    obtain ⟨engine, line, config⟩ := core n
    exact ⟨config hn, engine, line⟩
  cases he : (s.bus b).config.enabled <;> cases hx : c.enabled
  · rw [State.applyConfig_off he hx]
    exact ⟨by simp [he], by simp [hx], by simp [hx], by simp [hx], by simp [he], other, offstage⟩
  · rw [State.applyConfig_enable he hx]
    obtain ⟨sessions', offstage'⟩ := State.enableBus_sessions (s.applyValues b c) b
    obtain ⟨-, begun, finishing, -⟩ := State.enableBus_bus (s := s.applyValues b c) b b
    rw [engine] at begun finishing
    rw [line] at finishing
    refine ⟨by simp [he], fun _ hd _ => begun hd, fun _ hd _ => finishing hd, fun _ => sessions'.trans sessions,
      by simp [he], fun n hn => ?_, offstage.trans offstage'⟩
    obtain ⟨-, -, -, same⟩ := State.enableBus_bus (s := s.applyValues b c) b n
    rw [same hn]
    exact other n hn
  · obtain ⟨running, -⟩ := (hc b).running he
    obtain ⟨queue, off, finishing, enabled, others⟩ := State.disableBus_disabled running
    rw [State.applyConfig_disable he hx running]
    refine ⟨by simp [hx], by simp [he], by simp [he], by simp [hx], fun _ _ => ?_, fun n hn => ?_, ?_⟩
    · refine ⟨?_, ?_, ?_, ?_, fun n hn => ?_⟩
      · rw [State.modBus_bus_self]; exact queue
      · rw [State.modBus_bus_self]; exact off
      · rw [State.modBus_bus_self]; exact finishing
      · rw [State.modBus_bus_self]; exact hx
      · rw [State.modBus_bus, if_neg hn]; exact others n hn
    · rw [State.modBus_bus, if_neg hn]; exact others n hn
    · refine (s.disableBus_offstage b).trans ?_
      exact State.modBus_offstage _ b _
  · rw [State.applyConfig_kept he hx]
    exact ⟨fun _ _ => ⟨engine, line⟩, by simp [he], by simp [he], fun _ => sessions, by simp [hx], other, offstage⟩

end values

/-! ### The request -/

/-- The nine values of a BUS_CONFIGURE body that pass its checks (R174). -/
structure ConfigBody.Valid (x : ConfigBody) (c : BusConfig) : Prop where
  config : c =
    { enabled := decide (x.enable = 1)
      rate := if x.rate = 1 then .c1 else if x.rate = 2 then .c2 else .c3
      stretch := x.stretch
      spacing := x.spacing
      aging := x.aging
      own := if x.own = 0xFF then none else some (x.own.setWidth 7)
      fill := x.fill }
  enable : x.enable.toNat ≤ 1
  rateLow : 1 ≤ x.rate.toNat
  rateHigh : x.rate.toNat ≤ 3
  stretch : x.stretch ≠ 0
  aging : x.aging = 0#16 ∨ 10 ≤ x.aging.toNat
  agingHigh : x.aging.toNat ≤ 10000
  own : x.own = 0xFF ∨ (0x08 ≤ x.own.toNat ∧ x.own.toNat ≤ 0x77)

theorem addrOf_own {x : Byte} (h : x = 0xFF ∨ (0x08 ≤ x.toNat ∧ x.toNat ≤ 0x77)) :
    addrOf x = if x = 0xFF then none else some (x.setWidth 7) := by
  obtain rfl | h := h
  · rfl
  · rw [addrOf, if_pos h, if_neg]
    rintro rfl
    exact absurd h.2 (by decide)

theorem rateOf_valid {x : Byte} (low : 1 ≤ x.toNat) (high : x.toNat ≤ 3) :
    rateOf x = some (if x = 1 then .c1 else if x = 2 then .c2 else .c3) := by
  have cases_ : x = 1 ∨ x = 2 ∨ x = 3 := by bv_omega
  obtain rfl | rfl | rfl := cases_ <;> rfl

theorem configOf_valid {x : ConfigBody} {c : BusConfig} (h : x.Valid c) : configOf x = .ok c := by
  obtain ⟨rfl, enable, low, high, stretch, aging, agingHigh, own⟩ := h
  have hasOwn : ¬(x.own ≠ 0xFF ∧ (addrOf x.own).isNone = true) := by
    rw [addrOf_own own]
    split <;> simp_all
  have inRange : ¬(1 < x.enable.toNat ∨ x.stretch = 0 ∨ (1 ≤ x.aging.toNat ∧ x.aging.toNat ≤ 9) ∨
      10000 < x.aging.toNat) := by
    have least : x.aging.toNat = 0 ∨ 10 ≤ x.aging.toNat := aging.imp_left fun h => by rw [h]; rfl
    rintro (h | h | h | h)
    · omega
    · exact stretch h
    · omega
    · omega
  rw [configOf, if_neg hasOwn, rateOf_valid low high]
  dsimp only
  rw [if_neg inRange, addrOf_own own]

theorem configOf_badAddress {x : ConfigBody} (hn : x.own ≠ 0xFF) (h : x.own.toNat < 0x08 ∨ 0x77 < x.own.toNat) :
    configOf x = .error .badAddress := by
  rw [configOf, if_pos ⟨hn, by rw [addrOf, if_neg (by omega)]; rfl⟩]

theorem configOf_badField {x : ConfigBody} (own : x.own = 0xFF ∨ (0x08 ≤ x.own.toNat ∧ x.own.toNat ≤ 0x77))
    (h : 1 < x.enable.toNat ∨ x.rate = 0 ∨ 3 < x.rate.toNat ∨ x.stretch = 0 ∨ (1 ≤ x.aging.toNat ∧ x.aging.toNat ≤ 9) ∨
      10000 < x.aging.toNat) : configOf x = .error .badField := by
  have hasOwn : ¬(x.own ≠ 0xFF ∧ (addrOf x.own).isNone = true) := by
    rw [addrOf_own own]
    split <;> simp_all
  rw [configOf, if_neg hasOwn]
  by_cases hr : x.rate = 0 ∨ 3 < x.rate.toNat
  · have none_ : rateOf x.rate = none := by
      rw [rateOf, if_neg (by bv_omega), if_neg (by bv_omega), if_neg (by bv_omega)]
    rw [none_]
  · rw [rateOf_valid (by bv_omega) (by bv_omega)]
    dsimp only
    refine if_pos ?_
    obtain enable | rate | rate | rest := h
    · exact .inl enable
    · exact absurd (.inl rate) hr
    · exact absurd (.inr rate) hr
    · exact .inr rest

/-- The configuration bytes of a reply repeat the request's (section 12.4). -/
theorem configBytes_valid {x : ConfigBody} {c : BusConfig} {b : BusIx} (h : x.Valid c) (hb : x.bus = BitVec.ofNat 8 b.val) :
    configBytes b c = [x.bus, x.enable, x.rate, x.stretch, x.spacing] ++ be16 x.aging ++ [x.own, x.fill] := by
  obtain ⟨rfl, enable, low, high, -, -, -, own⟩ := h
  have flag : flagByte (decide (x.enable = 1)) = x.enable := by
    have cases_ : x.enable = 0 ∨ x.enable = 1 := by bv_omega
    obtain h | h := cases_ <;> rw [h] <;> rfl
  have rate : rateCode (if x.rate = 1 then .c1 else if x.rate = 2 then .c2 else .c3) = x.rate := by
    have cases_ : x.rate = 1 ∨ x.rate = 2 ∨ x.rate = 3 := by bv_omega
    obtain h | h | h := cases_ <;> rw [h] <;> rfl
  have address : ownCode (if x.own = 0xFF then none else some (x.own.setWidth 7)) = x.own := by
    split
    next h => rw [h]; rfl
    next h =>
      obtain hx | hx := own
      · exact absurd hx h
      · refine BitVec.eq_of_toNat_eq ?_
        simp only [ownCode, addrByte, BitVec.toNat_setWidth]
        omega
  simp only [configBytes, flag, rate, address, hb, byteOf]

theorem be16_append (h l : Byte) : be16 (h ++ l) = [h, l] := by
  have value : (h ++ l : Half).toNat = h.toNat * 256 + l.toNat := by
    rw [BitVec.toNat_append, ← Nat.shiftLeft_add_eq_or_of_lt l.isLt, Nat.shiftLeft_eq]
  simp only [be16, List.cons.injEq, and_true]
  constructor
  · refine BitVec.eq_of_toNat_eq ?_
    simp only [BitVec.toNat_setWidth, BitVec.toNat_ushiftRight, value, Nat.shiftRight_eq_div_pow]
    omega
  · refine BitVec.eq_of_toNat_eq ?_
    simp only [BitVec.toNat_setWidth, value]
    omega

/-- The request of the primary session for a bus above 3. -/
theorem State.busConfigureRequest_badBus {s : State} {body : List Byte} {x : ConfigBody} (hp : s.isPrimary 0 = true)
    (h : parseConfigure body = some x) (hb : busOf x.bus = none) : s.busConfigureRequest 0 body = (s, answer .badBus) := by
  simp only [State.busConfigureRequest, h, hp, hb, Bool.not_true, Bool.false_eq_true, if_false]

/-- The request of the primary session with values that do not pass. -/
theorem State.busConfigureRequest_refused {s : State} {body : List Byte} {x : ConfigBody} {b : BusIx} {e : ReplyStatus}
    (hp : s.isPrimary 0 = true) (h : parseConfigure body = some x) (hb : busOf x.bus = some b) (hc : configOf x = .error e) :
    s.busConfigureRequest 0 body = (s, answer e) := by
  simp only [State.busConfigureRequest, h, hp, hb, hc, Bool.not_true, Bool.false_eq_true, if_false]

/-- The request of the primary session with values that pass. -/
theorem State.busConfigureRequest_valid {s : State} {body : List Byte} {x : ConfigBody} {b : BusIx} {c : BusConfig}
    (hp : s.isPrimary 0 = true) (h : parseConfigure body = some x) (hb : busOf x.bus = some b) (hc : configOf x = .ok c) :
    s.busConfigureRequest 0 body =
      if (s.bus b).config.enabled ∧ c.enabled ∧ (c.rate ≠ (s.bus b).config.rate ∨ c.own ≠ (s.bus b).config.own) then
        (s, answer .wrongState)
      else (s.applyConfig b c, statusByte .ok :: configBytes b ((s.applyConfig b c).bus b).config ++
        [engineCode ((s.applyConfig b c).bus b).engine, lineCode ((s.applyConfig b c).bus b).line]) := by
  simp only [State.busConfigureRequest, h, hp, hb, hc, Bool.not_true, Bool.false_eq_true, if_false]

theorem exec_busConfigure {s u : State} {q : Byte} {body : List Byte} {r : Reply} (ht : s.takes 0 0x16 q body = true)
    (ho : (s.session 0).state = .opened) (h : (s.arrived 0).busConfigureRequest 0 body = (u, r)) :
    exec (.busConfigure 0 q body) s = .next (u.replied 0 0x16 q r) :=
  exec_open (kind := 0x16) rfl (by decide) (by decide) (by decide) ho ht h

theorem busOf_bus (b : BusIx) : busOf (BitVec.ofNat 8 b.val) = some b :=
  busOf_of_toNat (by simp only [BitVec.toNat_ofNat]; omega)

/-- The statement's fold over a disabled bus's queue is the model's. -/
theorem foldl_dropItem (l : List QItem) (s : State) : l.foldl (fun acc it => match it with
    | .record i => acc.finishRecord i .busOff none 0 []
    | .watchRead w _ _ _ => match acc.watch w with
      | none => acc
      | some y => acc.putWatch w { y with read := .none }) s = l.foldl (fun acc it => acc.dropItem it) s := by
  refine congrArg (fun f => l.foldl f s) (funext fun acc => funext fun it => ?_)
  cases it with
  | record i => rfl
  | watchRead w =>
    cases h : acc.watch w <;> simp only [State.dropItem, State.modWatch, h]

end Sys2Proof.Machine

namespace Sys2Proof.Proofs

open Sys2Proof Sys2Proof.Machine

/-- Settles O48: the four ways of an accepted BUS_CONFIGURE, the end of a transfer cut off, and the refusals. -/
theorem busConfigure : Obligations.BusConfigure := by
  unfold Obligations.BusConfigure
  refine ⟨fun s q b en rate st sp ah al own fill c body hbody ht ho hc hen hlow hhigh hst hag hagh hown hcoh => ?_,
    fun s b => ⟨fun hr hf => ?_, fun k hr hk hj => ⟨fun p hp hd => ?_, fun hd => ?_⟩,
      fun hf r hr buffer ended hbuf hend => ?_⟩,
    fun s q x en rate st sp ah al own fill body hbody ht ho => ?_⟩
  · let x : ConfigBody := ⟨BitVec.ofNat 8 b.val, en, rate, st, sp, ah ++ al, own, fill⟩
    have valid : x.Valid c := ⟨hc, hen, hlow, hhigh, hst, hag, hagh, hown⟩
    have enabled : c.enabled = true ↔ en = 1 := by rw [hc]; simp
    have bytes : configBytes b c = body := by
      rw [configBytes_valid valid rfl, hbody]
      simp only [x, be16_append]
      rfl
    have request : (s.arrived 0).busConfigureRequest 0 body =
        if (s.bus b).config.enabled ∧ c.enabled ∧ (c.rate ≠ (s.bus b).config.rate ∨ c.own ≠ (s.bus b).config.own) then
          (s.arrived 0, answer .wrongState)
        else ((s.arrived 0).applyConfig b c, 0x00 :: body ++
          [engineCode (((s.arrived 0).applyConfig b c).bus b).engine, lineCode (((s.arrived 0).applyConfig b c).bus b).line]) := by
      rw [State.busConfigureRequest_valid (x := x) (by rw [State.isPrimary, State.isOpen]; simp [ho]) (by rw [hbody]; rfl)
        (busOf_bus b) (configOf_valid valid)]
      rw [State.applyConfig_bus_config (s := s.arrived 0) hcoh, bytes]
      rfl
    have exec_ {t : State} {r : Reply} (h : (s.arrived 0).busConfigureRequest 0 body = (t, r)) :=
      exec_busConfigure ht ho h
    have code (t : State) : (s.arrived 0).applyConfig b c = t →
        ¬((s.bus b).config.enabled ∧ c.enabled ∧ (c.rate ≠ (s.bus b).config.rate ∨ c.own ≠ (s.bus b).config.own)) →
        exec (.busConfigure 0 q body) s = .next (t.replied 0 0x16 q
          (0x00 :: body ++ [engineCode (t.bus b).engine, lineCode (t.bus b).line])) := by
      rintro rfl hn
      exact exec_ (request.trans (if_neg hn))
    have notEnabled (he : en = 0) : c.enabled = false := by rw [hc, he]; rfl
    have disable {t : State} (he : (s.bus b).config.enabled = true) (h0 : en = 0)
        (h : (((s.arrived 0).emptied b).disableEngine b).modBus b (fun x => { x with config := c }) = t) :
        exec (.busConfigure 0 q body) s = .next (t.replied 0 0x16 q
          (0x00 :: body ++ [engineCode (t.bus b).engine, lineCode (t.bus b).line])) := by
      obtain ⟨running, -⟩ := (hcoh b).running he
      refine code t ((State.applyConfig_disable (s := s.arrived 0) he (notEnabled h0) running).trans h) ?_
      rw [notEnabled h0]
      rintro ⟨-, h, -⟩
      cases h
    have emptied {off cleared : State}
        (hoff : off = ((s.arrived 0).modBus b fun x => { x with config := { x.config with enabled := false }, queue := [] }))
        (hcl : cleared = (s.bus b).queue.foldl (fun acc it => match it with
          | .record i => acc.finishRecord i .busOff none 0 []
          | .watchRead w _ _ _ => match acc.watch w with
            | none => acc
            | some y => acc.putWatch w { y with read := .none }) off) : (s.arrived 0).emptied b = cleared := by
      rw [hcl, foldl_dropItem, hoff, State.emptied, State.clearQueue, State.modConfig, State.modBus_bus_self, State.setQueue,
        State.modBus_modBus]
      rfl
    have clearedBus : ((s.arrived 0).emptied b).bus b = { s.bus b with
        config := { (s.bus b).config with enabled := false }
        queue := [] } := (State.emptied_bus _ b b).trans (if_pos rfl)
    refine ⟨fun he h1 hdiff => exec_ (request.trans (if_pos ⟨he, enabled.mpr h1, hdiff.imp Ne.symm Ne.symm⟩)), fun hsame => ?_,
      fun kept he h1 hr hown' hk => ?_, fun off cleared he h0 hoff hcl => ⟨fun a w ha hw => ?_, fun a i r ha hi hr => ?_,
        fun cut ht1 ht2 hn => ?_⟩⟩
    · refine ⟨(s.arrived 0).applyConfig b c, code _ rfl ?_, State.applyConfig_bus_config (s := s.arrived 0) hcoh, ?_⟩
      · rintro ⟨he, h1, hne⟩
        obtain ⟨hr, hw⟩ := hsame he (enabled.mp h1)
        exact hne.elim (fun h => h hr.symm) fun h => h hw.symm
      obtain ⟨kept, begun, finishing, sessions, disabled, others, offstage⟩ :=
        State.applyConfig_configured (s := s.arrived 0) (b := b) (c := c) hcoh
      refine ⟨fun he h1 => kept he (enabled.mpr h1), fun he hd h1 => begun he hd (enabled.mpr h1),
        fun he hd h1 => finishing he hd (enabled.mpr h1), fun h1 => sessions (enabled.mpr h1), fun he h0 => ?_, others,
        offstage.leases, offstage.groups, State.clock_of_quiet (State.applyConfig_quiet _ b c)⟩
      obtain ⟨queue, off, finishing, -⟩ := disabled he (notEnabled h0)
      exact ⟨queue, off, finishing⟩
    · have same : (s.arrived 0).applyConfig b c = if c.aging = (s.bus b).config.aging then kept else kept.promoteDue b := by
        have set : (s.arrived 0).valuesSet b c = kept := by
          rw [hk, State.valuesSet, State.modConfig]
          exact State.modBus_congr _ _ _ _ (by simp only [State.arrived_bus, he, ← enabled.mpr h1])
        rw [State.applyConfig_kept (s := s.arrived 0) he (enabled.mpr h1), State.applyValues_eq, set]
        rfl
      obtain ⟨engine, line⟩ := (State.applyConfig_configured (s := s.arrived 0) (b := b) (c := c) hcoh).kept he
        (enabled.mpr h1)
      rw [same] at engine line
      rw [code _ same, engine, line]
      · rfl
      · rintro ⟨-, -, hne⟩
        exact hne.elim (fun h => h hr.symm) fun h => h hown'.symm
    · have h := emptied hoff hcl
      rw [h] at clearedBus
      have active : (cleared.bus b).engine = .active (some a) := by rw [clearedBus]; exact ha
      rw [disable (t := cleared.modBus b fun x => { x with
        config := c
        engine := .active (some { a with abortPending := true, underDisable := true }) }) he h0, State.modBus_bus_self, clearedBus]
      · rfl
      · rw [h, State.disableEngine_active active, State.abortAttempt_watch active hw]
        simp only [State.setEngine, State.modBus_modBus]
    · have h := emptied hoff hcl
      rw [h] at clearedBus
      have active : (cleared.bus b).engine = .active (some a) := by rw [clearedBus]; exact ha
      rw [disable (t := (cleared.putRecord i { r with abortPending := true }).modBus b fun x => { x with
        config := c
        engine := .active (some { a with abortPending := true, underDisable := true }) }) he h0, State.modBus_bus_self,
        State.putRecord_bus, clearedBus]
      · rfl
      · rw [h, State.disableEngine_active active, State.abortAttempt_record active hi hr]
        simp only [State.setEngine, State.modBus_modBus]
    · have h := emptied hoff hcl
      rw [h] at clearedBus
      obtain ⟨running, -⟩ := (hcoh b).running he
      have engine : (cleared.bus b).engine = (s.bus b).engine := by rw [clearedBus]
      have before : cleared.beforeDisabled b = cut := by
        unfold State.beforeDisabled
        rw [engine]
        split
        next e => exact (ht1 e).symm
        next e => exact (ht2 e).symm
      rw [disable (t := (cut.enterDisabled b).modBus b fun x => { x with config := c }) he h0, State.modBus_bus_self,
        State.enterDisabled_bus, if_pos rfl]
      · rfl
      · rw [h, State.disableEngine_other (by rw [engine]; exact hn) (by rw [engine]; exact running), before]
  · rw [State.cutOff, State.completeWrite_none (Target.filling_none.mpr hf), State.endRead_none hr]
  · rw [State.cutOff, State.completeWrite_kept (Target.filling_some hk hj) hd hp, State.endRead_none]
    rw [State.offer_inbound_reading, State.modBus_bus_self]
    exact hr
  · rw [State.cutOff, State.completeWrite_dropped (Target.filling_some hk hj) hd, State.endRead_none]
    rw [State.modBus_bus_self]
    exact hr
  · have outbound : (s.bus b).target.deferred.getD (s.bus b).target.outbound = buffer := by
      rw [hbuf]
      cases (s.bus b).target.deferred <;> rfl
    have readEnded : s.readEnded b = ended := by
      rw [hend]
      exact State.modBus_congr _ _ _ _ (by rw [outbound])
    have cut : s.cutOff b = s.endRead b := by
      rw [State.cutOff, State.completeWrite_none (Target.filling_none.mpr hf)]
    rw [cut]
    refine ⟨fun hd => ?_, fun p hd hp => ⟨fun hm => ?_, fun tally hm htal => ?_⟩⟩
    · rw [State.endRead_untallied hr, readEnded]
      exact hd.imp_right fun h p hp => absurd (h.symm.trans hp) (by simp)
    · rw [State.endRead_untallied hr, readEnded]
      refine .inr fun n hn => ?_
      obtain rfl : p = n := Option.some.inj (hp.symm.trans hn)
      exact hm
    · rw [State.endRead_tallied hr hd hp hm, readEnded, outbound]
      have merged : mergeTally (s.bus b).target.tally r s.clock buffer.length = tally := by
        rw [htal]
        cases (s.bus b).target.tally <;> rfl
      rw [merged]
  · let y : ConfigBody := ⟨x, en, rate, st, sp, ah ++ al, own, fill⟩
    have primary : (s.arrived 0).isPrimary 0 = true := by rw [State.isPrimary, State.isOpen]; simp [ho]
    have parsed : parseConfigure body = some y := by rw [hbody]; rfl
    have refused {e : ReplyStatus} (hx : x.toNat ≤ 3) (h : configOf y = .error e) :
        exec (.busConfigure 0 q body) s = .next ((s.arrived 0).replied 0 0x16 q (answer e)) :=
      exec_busConfigure ht ho (State.busConfigureRequest_refused (b := ⟨x.toNat, by omega⟩) primary parsed (busOf_of_toNat rfl) h)
    refine ⟨fun hx =>
      exec_busConfigure ht ho (State.busConfigureRequest_badBus primary parsed (busOf_none hx)), fun hx hne hr => refused (e := .badAddress) hx ?_,
      fun hx hr hf => refused (e := .badField) hx ?_⟩
    · exact configOf_badAddress hne hr
    · exact configOf_badField hr hf

end Sys2Proof.Proofs
end

section
/-! PROOF. QUERY (chapters 11 and 12): pages, layouts and the bound of a reply. -/

namespace Sys2Proof.Machine

/-! ### Pages (R183) -/

theorem pageBytes_cons (i : Nat) (x : List Byte) (page : List (Nat × List Byte)) :
    pageBytes ((i, x) :: page) = x ++ pageBytes page := rfl

/-- The longest run of whole entries that fits. -/
theorem carried_prefix (room : Nat) (entries : List (Nat × List Byte)) : ∃ rest, entries = carried room entries ++ rest ∧
    (pageBytes (carried room entries)).length ≤ room ∧
    ∀ x, rest.head? = some x → room < (pageBytes (carried room entries)).length + x.2.length := by
  induction entries generalizing room with
  | nil => exact ⟨[], by rw [carried]; rfl, by rw [carried]; exact Nat.zero_le _, nofun⟩
  | cons e entries ih =>
    obtain ⟨i, x⟩ := e
    rw [carried]
    split
    next fits =>
      obtain ⟨rest, split_, short, next_⟩ := ih (room - x.length)
      rw [pageBytes_cons, List.length_append]
      refine ⟨rest, congrArg _ split_, by omega, fun y hy => ?_⟩
      have := next_ y hy
      omega
    next long =>
      refine ⟨(i, x) :: entries, rfl, Nat.zero_le _, fun y hy => ?_⟩
      obtain rfl : (i, x) = y := Option.some.inj hy
      change room < 0 + x.length
      omega

theorem carried_length_le (room : Nat) (entries : List (Nat × List Byte)) :
    (pageBytes (carried room entries)).length ≤ room := by
  obtain ⟨-, -, short, -⟩ := carried_prefix room entries
  exact short

/-- A page of as many entries as there are holds them all. -/
theorem carried_eq_iff (room : Nat) (entries : List (Nat × List Byte)) :
    (carried room entries).length = entries.length ↔ carried room entries = entries := by
  refine ⟨fun h => ?_, fun h => by rw [h]⟩
  obtain ⟨rest, split_, -⟩ := carried_prefix room entries
  have none_ : rest.length = 0 := by
    have := congrArg List.length split_
    rw [List.length_append] at this
    omega
  rw [List.length_eq_zero_iff.mp none_, List.append_nil] at split_
  exact split_.symm

theorem nextIndex_all {room : Nat} {entries : List (Nat × List Byte)} (h : carried room entries = entries) :
    nextIndex entries (carried room entries) = 0xFF := by
  rw [nextIndex, if_pos (by rw [h])]

theorem nextIndex_more {room : Nat} {entries : List (Nat × List Byte)} (h : carried room entries ≠ entries)
    {x : Nat × List Byte} (hx : (carried room entries).getLast? = some x) :
    nextIndex entries (carried room entries) = BitVec.ofNat 8 (x.1 + 1) := by
  rw [nextIndex, if_neg (mt (carried_eq_iff room entries).mp h), hx]
  rfl

/-- The entries of a table, each with its bytes. -/
theorem entriesFrom_map {n : Nat} {α : Type} (start : Nat) (slot : Fin n → Option α) (bytes : Fin n → α → List Byte) :
    entriesFrom start (fun i => (slot i).map (bytes i)) =
      (List.finRange n).filterMap fun i => if start ≤ i.val then (slot i).map fun e => (i.val, bytes i e) else none := by
  simp only [entriesFrom, Option.map_map]
  rfl

theorem freeBytes_zero (f : Nat → Byte) (n : Nat) : freeBytes f 0 n = (List.range n).map f := by
  simp [freeBytes]

/-- The slots of a vector in their order. -/
theorem Vector.flatMap_toList {n : Nat} {α β : Type} (v : Vector α n) (f : α → List β) :
    v.toList.flatMap f = (List.finRange n).flatMap fun i => f v[i] := by
  have list : v.toList = (List.finRange n).map fun i => v[i] := List.ext_getElem (by simp) fun k h h' => by simp
  rw [list, List.flatMap_map]

theorem append_two_clocks (x : List Byte) (a b : Option Clock) :
    x ++ optClock a ++ optClock b = x ++ [a, b].flatMap optClock := by simp

theorem append_three_clocks (x : List Byte) (a b c : Option Clock) :
    x ++ optClock a ++ optClock b ++ optClock c = x ++ [a, b, c].flatMap optClock := by simp

/-! ### The bound of a reply (R165) -/

@[simp] theorem be16_length (x : Half) : (be16 x).length = 2 := rfl

@[simp] theorem be32_length (x : Clock) : (be32 x).length = 4 := rfl

@[simp] theorem optClock_length (x : Option Clock) : (optClock x).length = 5 := by
  cases x <;> rfl

@[simp] theorem freeBytes_length (f : Nat → Byte) (k n : Nat) : (freeBytes f k n).length = n := by
  simp [freeBytes]

@[simp] theorem counted_length (x : List Byte) : (counted x).length = x.length + 1 := rfl

theorem sessionContent_length (s : State) (p : PortIx) : (s.sessionContent p).length = 30 := by
  simp [State.sessionContent, List.length_flatMap]

theorem currentItem_length (s : State) (b : BusIx) (f : Nat → Byte) : (s.currentItem b f).length = 2 := by
  unfold State.currentItem
  repeat' split
  all_goals rfl

theorem recoveryBytes_length (e : Engine) (f : Nat → Byte) : (e.recoveryBytes f).length = 3 := by
  cases e <;> rfl

theorem busContent_length (s : State) (b : BusIx) (f : Nat → Byte) : (s.busContent b f).length = 12 := by
  simp [State.busContent, currentItem_length, recoveryBytes_length]

theorem resultBytes_length (f : Nat → Byte) (x : Option Result) : (resultBytes f x).length = 7 := by
  cases x <;> simp [resultBytes]

theorem recordContent_length (tag : Byte) (r : Record) (f : Nat → Byte) :
    (recordContent tag r f).length = 39 + 3 * r.segments.length := by
  simp [recordContent, resultBytes_length, List.length_flatMap, Segment.bytes]
  omega

theorem leaseBytes_length (s : State) (i : Fin 16) (e : Lease) : (s.leaseBytes i e).length = 25 := by
  simp [State.leaseBytes]

theorem lineBytes_length (s : State) (y : Byte) (l : TriggerLine) : (s.lineBytes y l).length = 3 := by
  unfold State.lineBytes
  split <;> rfl

theorem fireBytes_length (f : Nat → Byte) (x : Option FireReport) : (fireBytes f x).length = 14 := by
  cases x <;> simp [fireBytes]

theorem bindingBytes_length (y : Byte) (x : Option Binding) : (bindingBytes y x).length = 2 := by
  cases x <;> rfl

theorem groupBytes_length (s : State) (f : Nat → Byte) (i : Fin 8) (g : GroupEntry) :
    (s.groupBytes f i g).length = 24 + g.staged.length := by
  simp [State.groupBytes, fireBytes_length, bindingBytes_length]
  omega

theorem tallyBytes_length (f : Nat → Byte) (x : Option Tally) : (tallyBytes f x).length = 11 := by
  cases x <;> simp [tallyBytes]

theorem deferredBytes_length {x : Option (List Byte)} (h : ∀ d ∈ x, d.length ≤ Config.targetBytes) :
    (deferredBytes x).length ≤ 33 := by
  cases x with
  | none => decide
  | some d => exact Nat.succ_le_succ (h d rfl)

theorem targetContent_length {s : State} {b : BusIx} (f : Nat → Byte) (h : (s.bus b).target.bounded) :
    (s.targetContent b f).length ≤ 94 := by
  obtain ⟨outbound, deferred, -⟩ := h
  have := deferredBytes_length deferred
  have : Config.targetBytes = 32 := rfl
  simp [State.targetContent, tallyBytes_length, List.length_flatMap]
  omega

theorem BusCounters.bytes_length (c : BusCounters) : c.bytes.length = 26 := rfl

theorem PortCounters.bytes_length (c : PortCounters) : c.bytes.length = 12 := rfl

theorem queryReply_length (subject : Byte) (content : List Byte) : (queryReply subject content).length = content.length + 2 :=
  rfl

theorem answer_length (e : ReplyStatus) : (answer e).length ≤ 96 := by
  cases e <;> decide

theorem onBus_length {s : State} {x : Byte} {f : BusIx → State × Reply} (h : ∀ b, (f b).2.length ≤ 96) :
    (s.onBus x f).2.length ≤ 96 := by
  unfold State.onBus
  split
  · exact answer_length _
  · exact h _

theorem queryCounters_length (s : State) (p : PortIx) (scope number clear : Byte) :
    (s.queryCounters p scope number clear).2.length ≤ 96 := by
  unfold State.queryCounters
  repeat' split
  · exact answer_length _
  · exact answer_length _
  · exact onBus_length fun b => by simp [State.queryBusCounters, queryReply_length, BusCounters.bytes_length]
  · exact answer_length _
  · simp [State.queryPortCounters, queryReply_length, PortCounters.bytes_length]

theorem queueContent_length (s : State) (b : BusIx) (start : Byte) : (s.queueContent b start).length ≤ 94 := by
  have page := carried_length_le (pageRoom 5) (((s.bus b).queue.mapIdx fun k it => (k, s.itemBytes b it)).drop start.toNat)
  have room : pageRoom 5 = 91 := rfl
  simp only [State.queueContent, List.length_append, List.length_cons, List.length_nil]
  omega

theorem leasesContent_length (s : State) (start : Byte) : (s.leasesContent start).length ≤ 94 :=
  Nat.succ_le_succ (carried_length_le (pageRoom 3) _)

theorem watchesContent_length (s : State) (start : Byte) (f : Nat → Byte) : (s.watchesContent start f).length ≤ 94 :=
  Nat.succ_le_succ (carried_length_le (pageRoom 3) _)

theorem groupsContent_length (s : State) (start : Byte) (f : Nat → Byte) : (s.groupsContent start f).length ≤ 94 := by
  have page := carried_length_le (pageRoom 3) (entriesFrom start.toNat fun i => (s.group i).map (s.groupBytes f i))
  have room : pageRoom 3 = 93 := rfl
  unfold State.groupsContent
  dsimp only
  split
  · simp only [List.cons_append, List.length_cons, List.length_append, lineBytes_length]
    omega
  · simp only [List.length_cons]
    omega

theorem queryTransaction_length {s : State} (tag : Byte) (h : ∀ i, ∀ r ∈ s.record i, r.lawful) :
    (s.queryTransaction tag).2.length ≤ 96 := by
  unfold State.queryTransaction
  split
  · exact answer_length _
  next i r found =>
    obtain ⟨hr, -⟩ := State.findRecord_some found
    obtain ⟨segments, -⟩ := h i r hr
    rw [queryReply_length, recordContent_length]
    omega

theorem querySubject_length {s : State} (p : PortIx) (subject : Byte) (params : List Byte) (hr : s.recordsLawful)
    (hb : s.buffersBounded) : (s.querySubject p subject params).2.length ≤ 96 := by
  have fits {x : Byte} {content : List Byte} (h : content.length ≤ 94) : (queryReply x content).length ≤ 96 := by
    rw [queryReply_length]
    omega
  unfold State.querySubject
  split
  · exact fits ((sessionContent_length s p).trans_le (by decide))
  · exact onBus_length fun b => fits ((busContent_length s b s.free).trans_le (by decide))
  · exact onBus_length fun b => fits (queueContent_length s b _)
  · exact queryTransaction_length _ hr.1
  · exact fits (leasesContent_length s _)
  · exact fits (groupsContent_length s _ _)
  · exact fits (watchesContent_length s _ _)
  · exact onBus_length fun b => fits (targetContent_length s.free (hb.2 b))
  · exact queryCounters_length s p _ _ _
  · exact answer_length _

theorem queryRequest_length {s : State} (p : PortIx) (body : List Byte) (hr : s.recordsLawful) (hb : s.buffersBounded) :
    (s.queryRequest p body).2.length ≤ 96 := by
  unfold State.queryRequest
  split
  · exact answer_length _
  · exact querySubject_length p _ _ hr hb

end Sys2Proof.Machine

namespace Sys2Proof.Proofs

open Sys2Proof Sys2Proof.Machine

/-- Settles O30: the bound of a reply, and the contents field by field. -/
theorem queryRepliesFit : Obligations.QueryRepliesFit := by
  unfold Obligations.QueryRepliesFit
  refine ⟨fun s p body hr hb => queryRequest_length p body hr hb, fun s p => ⟨sessionContent_length s p, ?_⟩,
    fun s b f => ⟨busContent_length s b f, ?_⟩, ⟨rfl, rfl, fun _ => rfl, fun _ => rfl, rfl, fun _ => rfl, rfl⟩, rfl, rfl,
    fun s b it => ?_, fun tag r f => ?_, fun s i e => ⟨leaseBytes_length s i e, ?_⟩,
    fun s i g f => ⟨groupBytes_length s f i g, ?_⟩, fun s l y => ?_, fun s i w f => ?_, fun n bytes h => ?_,
    fun s b f => ?_, fun y => ⟨fun hf => ?_, fun hf => ⟨fun hr => ?_, fun hr => ?_⟩⟩,
    fun s b start => ⟨_, _, rfl, rfl, rfl⟩, fun s start => ?_, fun s start f => ?_, fun s start f => ?_, fun room entries => ?_⟩
  · have primary : flagByte (s.isPrimary p) = if p = 0 ∧ (s.session p).state = .opened then 1 else 0 := by
      simp [flagByte, State.isPrimary, State.isOpen]
    have mask (x y : Bool) : maskCode x y = (if x = true then 1 else 0) + (if y = true then 2 else 0) := by
      cases x <;> cases y <;> rfl
    have timer (x : Option Clock) : flagByte x.isSome = if x = none then 0 else 1 := by cases x <;> rfl
    unfold State.sessionContent
    dsimp only
    rw [Vector.flatMap_toList, primary, mask, timer]
    refine congrArg₂ (· ++ ·) (congrArg₂ (· ++ ·) (congrArg₂ (· ++ ·) rfl ?_) rfl) ?_
    · cases (s.session p).outbox.head? <;> cases (s.session p).outbox.getLast? <;> rfl
    · refine congrArg (fun g => List.flatMap g (List.finRange 4)) (funext fun b => ?_)
      cases (s.session p).busEvents[b] <;> rfl
  · unfold State.busContent State.currentItem Engine.recoveryBytes
    dsimp only
    refine congrArg₂ (· ++ ·) (congrArg₂ (· ++ ·) (congrArg₂ (· ++ ·) ?_ ?_) ?_) ?_
    · simp [flagByte, byteOf]
    · generalize (s.bus b).engine = e
      cases e with
      | active a =>
        cases a with
        | none => rfl
        | some a =>
          obtain ⟨item, -⟩ := a
          cases item <;> rfl
      | _ => rfl
    · cases (s.bus b).engine with
      | recovery r =>
        obtain ⟨step, -⟩ := r
        cases step <;> rfl
      | _ => rfl
    · obtain _ | why := (s.bus b).faultReason
      · rfl
      · cases why <;> rfl
  · unfold State.itemBytes
    generalize s.eligibility b it = e
    cases it <;> cases e <;> rfl
  · unfold recordContent
    rw [append_three_clocks]
    refine congrArg₂ (· ++ ·) (congrArg₂ (· ++ ·) (congrArg₂ (· ++ ·) (congrArg₂ (· ++ ·) (congrArg₂ (· ++ ·)
      (congrArg₂ (· ++ ·) ?_ rfl) ?_) ?_) ?_) ?_) ?_
    · cases r.group <;> rfl
    · cases r.state <;> rfl
    · refine congrArg (fun g => List.flatMap g _) (funext fun x => ?_)
      cases x <;> rfl
    · cases r.lastRetry <;> rfl
    · refine congrArg (fun g => List.flatMap g _) (funext fun g => ?_)
      cases g <;> rfl
    · cases r.result with
      | none => rw [resultBytes, freeBytes_zero]; rfl
      | some x => rfl
  · unfold State.leaseBytes
    rw [append_two_clocks]
    refine congrArg₂ (· ++ ·) (congrArg₂ (· ++ ·) (congrArg₂ (· ++ ·) (congrArg₂ (· ++ ·) rfl ?_) rfl) ?_) ?_
    · cases e.state <;> rfl
    · refine congrArg (fun g => List.flatMap g _) (funext fun x => ?_)
      cases x <;> rfl
    · refine congrArg₂ List.cons ?_ (congrArg₂ List.cons ?_ rfl)
      · obtain _ | why := e.endReason
        · rfl
        · cases why <;> rfl
      · cases e.report <;> rfl
  · unfold State.groupBytes
    refine congrArg₂ (· ++ ·) (congrArg₂ (· ++ ·) (congrArg₂ (· ++ ·) (congrArg₂ (· ++ ·) (congrArg₂ (· ++ ·)
      ?_ ?_) rfl) rfl) ?_) ?_
    · cases g.state <;> rfl
    · cases g.binding with
      | none => rfl
      | some x =>
        obtain ⟨line, edge⟩ := x
        cases line <;> cases edge <;> rfl
    · cases g.report with
      | none => rfl
      | some x =>
        obtain ⟨-, -, -, source, -⟩ := x
        cases source with
        | request => rfl
        | line l => cases l <;> rfl
    · rw [counted, List.length_map]
      rfl
  · unfold State.lineBytes
    cases s.boundGroup l <;> rfl
  · unfold State.watchBytes
    refine congrArg₂ (· ++ ·) (congrArg₂ (· ++ ·) (congrArg₂ (· ++ ·) (congrArg₂ (· ++ ·) (congrArg₂ (· ++ ·)
      (congrArg₂ (· ++ ·) (congrArg₂ (· ++ ·) (congrArg₂ (· ++ ·) (congrArg₂ (· ++ ·) (congrArg₂ (· ++ ·) (congrArg₂ (· ++ ·)
      (congrArg₂ (· ++ ·) ?_ rfl) rfl) rfl) rfl) ?_) ?_) ?_) rfl) ?_) rfl) ?_) ?_
    · cases w.owner <;> rfl
    · cases w.state <;> rfl
    · cases w.nextPeriod <;> rfl
    · cases w.read <;> cases w.lastReported <;> rfl
    · cases w.lastFailure <;> rfl
    · cases w.valueReport <;> rfl
    · cases w.suspensionReport <;> rfl
  · have length : (List.replicate (n - bytes.length) (0 : Byte)).length = n - bytes.length := List.length_replicate
    refine ⟨by rw [padTo, List.length_append, length]; omega, List.take_left, fun y hy => ?_⟩
    rw [padTo, List.drop_left] at hy
    exact List.eq_of_mem_replicate hy
  · unfold State.targetContent
    dsimp only
    rw [Vector.flatMap_toList]
    refine congrArg₂ (· ++ ·) (congrArg₂ (· ++ ·) (congrArg₂ (· ++ ·) (congrArg₂ (· ++ ·) (congrArg₂ (· ++ ·)
      ?_ ?_) rfl) ?_) rfl) ?_
    · cases (s.bus b).config.own <;> cases (s.bus b).target.owner <;> rfl
    · refine congrArg (fun g => List.flatMap g (List.finRange 4)) (funext fun k => ?_)
      generalize (s.bus b).target.slots[k] = slot
      have flags : slotFlags slot = (if slot.overflow = true then 1 else 0) + if slot.followedByRead = true then 2 else 0 := by
        unfold slotFlags
        cases slot.overflow <;> cases slot.followedByRead <;> rfl
      rw [flags]
      cases slot.state <;> rfl
    · cases (s.bus b).target.tally <;> rfl
    · cases (s.bus b).target.deferred <;> rfl
  · obtain ⟨k, hk⟩ := hf
    have filling : y.filling.isSome = true := by
      rw [Option.isSome_iff_ne_none]
      exact fun none_ => Target.filling_none.mp none_ k hk
    rw [Target.transferCode, if_pos filling]
  · rw [Target.transferCode, Target.filling_none.mpr hf, hr]
    rfl
  · rw [Target.transferCode, Target.filling_none.mpr hf, Option.isSome_iff_ne_none.mpr hr]
    rfl
  · exact ⟨_, _, (entriesFrom_map _ _ _), rfl, rfl⟩
  · exact ⟨_, _, (entriesFrom_map _ _ _), rfl, rfl⟩
  · refine ⟨_, _, (entriesFrom_map _ _ _), rfl, fun hp hl => ?_, fun x hp hx => ?_⟩
    · unfold State.groupsContent
      rw [if_pos ⟨(carried_eq_iff _ _).mpr hp, hl⟩]
      rfl
    · unfold State.groupsContent
      rw [if_neg]
      · rw [show (carried (pageRoom 3) _).getLast? = some x from hx]
        rfl
      · rintro ⟨all, fits⟩
        obtain hp | hp := hp
        · exact hp ((carried_eq_iff _ _).mp all)
        · exact absurd fits (not_le.mpr hp)
  · obtain ⟨rest, split_, short, next_⟩ := carried_prefix room entries
    have all : rest = [] ↔ carried room entries = entries := by
      conv_rhs => rhs; rw [split_]
      simp
    exact ⟨rest, split_, short, next_, fun h => nextIndex_all (all.mp h), fun h x hx => nextIndex_more (mt all.mpr h) hx⟩

end Sys2Proof.Proofs
end

section
/-! PROOF. The rows of QUERY (chapter 11). -/

namespace Sys2Proof.Machine

/-- A subject's reply to an OPEN session, from what its content says. -/
theorem exec_query {c : Instr} {s u : State} {p : PortIx} {q subject : Byte} {params : List Byte} {r : Reply}
    (hf : frameOf c = some (p, 0x03, q, subject :: params)) (ho : (s.session p).state = .opened)
    (ht : s.takes p 0x03 q (subject :: params) = true) (h : (s.arrived p).querySubject p subject params = (u, r)) :
    exec c s = .next (u.replied p 0x03 q r) :=
  exec_open hf (by decide) (by decide) (by decide) ho ht h

theorem querySubject_wrongLength {s : State} {p : PortIx} {subject : Byte} {params : List Byte} {n : Nat}
    (h : (subject, n) ∈ ([(1, 0), (2, 1), (3, 2), (4, 1), (5, 1), (6, 1), (7, 1), (8, 1), (9, 3)] : List (Byte × Nat)))
    (hn : params.length ≠ n) : s.querySubject p subject params = (s, answer .malformed) := by
  have number : (subject.toNat, n) ∈ [(1, 0), (2, 1), (3, 2), (4, 1), (5, 1), (6, 1), (7, 1), (8, 1), (9, 3)] :=
    List.mem_map_of_mem (f := fun x : Byte × Nat => (x.1.toNat, x.2)) h
  have known : 1 ≤ subject.toNat ∧ subject.toNat ≤ 9 := by
    simp only [List.mem_cons, Prod.mk.injEq, List.not_mem_nil, or_false] at number
    omega
  have length (k m : Nat) (hk : subject.toNat = k)
      (hm : (k, m) ∈ [(1, 0), (2, 1), (3, 2), (4, 1), (5, 1), (6, 1), (7, 1), (8, 1), (9, 3)]) : n = m := by
    simp only [List.mem_cons, Prod.mk.injEq, List.not_mem_nil, or_false] at number hm
    omega
  unfold State.querySubject
  split
  next hk => exact absurd rfl (length 1 0 hk (by decide) ▸ hn)
  next hk => exact absurd rfl (length 2 1 hk (by decide) ▸ hn)
  next hk => exact absurd rfl (length 3 2 hk (by decide) ▸ hn)
  next hk => exact absurd rfl (length 4 1 hk (by decide) ▸ hn)
  next hk => exact absurd rfl (length 5 1 hk (by decide) ▸ hn)
  next hk => exact absurd rfl (length 6 1 hk (by decide) ▸ hn)
  next hk => exact absurd rfl (length 7 1 hk (by decide) ▸ hn)
  next hk => exact absurd rfl (length 8 1 hk (by decide) ▸ hn)
  next hk => exact absurd rfl (length 9 3 hk (by decide) ▸ hn)
  next => rw [if_pos known]

theorem querySubject_unknown {s : State} {p : PortIx} {subject : Byte} {params : List Byte}
    (h : subject = 0 ∨ 9 < subject.toNat) : s.querySubject p subject params = (s, answer .badField) := by
  have out : ¬(1 ≤ subject.toNat ∧ subject.toNat ≤ 9) := by
    rintro ⟨low, high⟩
    obtain rfl | h := h
    · exact absurd low (by decide)
    · omega
  unfold State.querySubject
  split
  all_goals first
    | (exfalso; omega)
    | skip
  rw [if_neg out]

theorem clear_allowed {s : State} {p : PortIx} {clear : Byte} (hp : clear = 1 → s.isPrimary p = true) :
    ¬(clear = 1 && !s.isPrimary p) = true := by
  rw [Bool.and_eq_true, decide_eq_true_eq]
  rintro ⟨one, no⟩
  simp [hp one] at no

theorem queryCounters_badField {s : State} {p : PortIx} {scope number clear : Byte} (hp : clear = 1 → s.isPrimary p = true)
    (h : 1 < scope.toNat ∨ 1 < clear.toNat ∨ (scope = 1 ∧ 2 < number.toNat)) :
    s.queryCounters p scope number clear = (s, answer .badField) := by
  rw [State.queryCounters, if_neg (clear_allowed hp)]
  split
  next => rfl
  next inRange =>
    obtain h | h | ⟨rfl, h⟩ := h
    · exact absurd (.inl h) inRange
    · exact absurd (.inr h) inRange
    · rw [if_neg (by decide), portOf, dif_neg (by omega)]

theorem queryCounters_bus {s : State} {p : PortIx} {number clear : Byte} (hp : clear = 1 → s.isPrimary p = true)
    (hc : clear.toNat ≤ 1) : s.queryCounters p 0 number clear =
      s.onBus number fun b => s.queryBusCounters b (decide (clear = 1)) := by
  rw [State.queryCounters, if_neg (clear_allowed hp), if_neg (by rintro (h | h); exacts [absurd h (by decide), by omega]), if_pos rfl]

theorem queryCounters_port {s : State} {p n : PortIx} {clear : Byte} (hp : clear = 1 → s.isPrimary p = true)
    (hc : clear.toNat ≤ 1) : s.queryCounters p 1 (BitVec.ofNat 8 n.val) clear =
      s.queryPortCounters n (decide (clear = 1)) := by
  have port : portOf (BitVec.ofNat 8 n.val) = some n := by
    have value : (BitVec.ofNat 8 n.val).toNat = n.val := by simp only [BitVec.toNat_ofNat]; omega
    simp only [portOf, value, n.isLt, dite_true]
  rw [State.queryCounters, if_neg (clear_allowed hp), if_neg (by rintro (h | h); exacts [absurd h (by decide), by omega]),
    if_neg (by decide), port]

theorem onBus_bus (s : State) (b : BusIx) (f : BusIx → State × Reply) : s.onBus (BitVec.ofNat 8 b.val) f = f b := by
  rw [State.onBus, busOf_bus]

theorem onBus_badBus {s : State} {x : Byte} (h : 3 < x.toNat) (f : BusIx → State × Reply) :
    s.onBus x f = (s, answer .badBus) := by
  rw [State.onBus, busOf_none h]

theorem BusCounters.bytes_eq (c : BusCounters) : c.bytes = be16 c.completedOk ++ be16 c.failedFinal ++
    be16 c.arbitrationLosses ++ be16 c.addressNacks ++ be16 c.dataNacks ++ be16 c.stretchTimeouts ++ be16 c.busErrors ++
    be16 c.recoveries ++ be16 c.faults ++ be16 c.targetWrites ++ be16 c.targetReads ++ be16 c.targetRefusals ++
    be16 c.underruns := by
  simp only [BusCounters.bytes, List.flatMap_cons, List.flatMap_nil, List.append_nil, List.append_assoc]

theorem PortCounters.bytes_eq (c : PortCounters) : c.bytes = be16 c.good ++ be16 c.bad ++ be16 c.duplicates ++
    be16 c.overruns ++ be16 c.breaks ++ be16 c.strayAcks := by
  simp only [PortCounters.bytes, List.flatMap_cons, List.flatMap_nil, List.append_nil, List.append_assoc]

end Sys2Proof.Machine

namespace Sys2Proof.Proofs

open Sys2Proof Sys2Proof.Machine

/-- Settles O28: each subject by its own rule, and the refusals by the length and the subject. -/
theorem queriesAnswerTheirSubjects : Obligations.QueriesAnswerTheirSubjects := by
  unfold Obligations.QueriesAnswerTheirSubjects
  refine ⟨fun c s p q body hf ht ho => ⟨fun h => ?_, ?_⟩, fun s p q ho => ⟨fun ht => ?_, fun b ht => ?_, fun b start ht => ?_,
    fun tag i r ht hr => ?_, fun tag ht hr => ?_, fun start ht => ?_, fun start ht => ?_, fun start ht => ?_, fun b ht => ?_,
    fun x hx ht => ?_, fun x hx ht => ?_, fun x start hx ht => ?_⟩⟩
  · obtain rfl | ⟨subject, params, n, rfl, hn, hm⟩ := h
    · exact exec_open hf (by decide) (by decide) (by decide) ho ht rfl
    · exact exec_query hf ho ht (querySubject_wrongLength hm hn)
  · rintro subject params rfl h
    exact exec_query hf ho ht (querySubject_unknown h)
  · exact exec_query (subject := 1) (params := []) rfl ho ht rfl
  · exact exec_query (subject := 2) rfl ho ht (onBus_bus _ b _)
  · exact exec_query (subject := 3) rfl ho ht (onBus_bus _ b _)
  · refine exec_query (subject := 4) rfl ho ht ?_
    change (s.arrived p).queryTransaction tag = _
    rw [State.queryTransaction, State.arrived_findRecord, hr]
    rfl
  · refine exec_query (subject := 4) rfl ho ht ?_
    change (s.arrived p).queryTransaction tag = _
    rw [State.queryTransaction, State.arrived_findRecord, hr]
    rfl
  · exact exec_query (subject := 5) rfl ho ht rfl
  · exact exec_query (subject := 6) rfl ho ht rfl
  · exact exec_query (subject := 7) rfl ho ht rfl
  · exact exec_query (subject := 8) rfl ho ht (onBus_bus _ b _)
  · exact exec_query (subject := 2) rfl ho ht (onBus_badBus hx _)
  · exact exec_query (subject := 8) rfl ho ht (onBus_badBus hx _)
  · exact exec_query (subject := 3) rfl ho ht (onBus_badBus hx _)

/-- Settles O29: the counters in their order, cleared or not, and the refusals. -/
theorem queryCounters : Obligations.QueryCounters := by
  unfold Obligations.QueryCounters
  refine ⟨fun c => ⟨rfl, c.bytes_eq⟩, fun c => ⟨rfl, c.bytes_eq⟩, fun s p q ho => ⟨fun b ht => ?_, fun n ht => ?_, fun b hp ht => ?_,
    fun n hp ht => ?_, fun c scope number clear hf ht hp => ?_⟩⟩
  · exact exec_query (subject := 9) rfl ho ht ((queryCounters_bus (fun h => absurd h (by decide)) (by decide)).trans (onBus_bus _ b _))
  · exact exec_query (subject := 9) rfl ho ht (queryCounters_port (fun h => absurd h (by decide)) (by decide))
  · subst hp
    have primary : (s.arrived 0).isPrimary 0 = true := by rw [State.isPrimary, State.isOpen]; simp [ho]
    exact exec_query (subject := 9) rfl ho ht ((queryCounters_bus (fun _ => primary) (by decide)).trans (onBus_bus _ b _))
  · subst hp
    have primary : (s.arrived 0).isPrimary 0 = true := by rw [State.isPrimary, State.isOpen]; simp [ho]
    exact exec_query (subject := 9) rfl ho ht (queryCounters_port (fun _ => primary) (by decide))
  · have primary (h : clear = 1) : (s.arrived p).isPrimary p = true := by
      obtain rfl := hp h
      rw [State.isPrimary, State.isOpen]
      simp [ho]
    refine ⟨fun h => exec_query hf ho ht (queryCounters_badField primary h), ?_⟩
    rintro rfl hc hn
    exact exec_query hf ho ht ((queryCounters_bus primary hc).trans (onBus_badBus hn _))

end Sys2Proof.Proofs
end

section
/-! PROOF. The rows of SUBMIT and CANCEL (chapter 1). -/

namespace Sys2Proof.Machine

/-! ### The layout of a body (section 12.3) -/

/-- One segment as a body declares it. -/
def RawSegment.layout (g : RawSegment) : List Byte :=
  [g.addr, match g.dir with | .write => 0 | .read => 1, BitVec.ofNat 8 g.count] ++ g.data

/-- The declared count of a segment is that of its bytes, and a READ declares none. -/
def RawSegment.declared (g : RawSegment) : Prop :=
  g.count < 256 ∧ (g.dir = .write → g.data.length = g.count) ∧ (g.dir = .read → g.data = [])

theorem ofNat_toNat_byte (x : Byte) : BitVec.ofNat 8 x.toNat = x := by simp

theorem toNat_ofNat_byte {n : Nat} (h : n < 256) : (BitVec.ofNat 8 n : Byte).toNat = n := by
  simp only [BitVec.toNat_ofNat]
  omega

/-- A READ is declared by its three bytes. -/
theorem readSegments_read (n : Nat) (a c : Byte) (rest : List Byte) : readSegments (n + 1) (a :: 1 :: c :: rest) =
    (readSegments n rest).map ({ addr := a, dir := .read, count := c.toNat, data := [] } :: ·) := by
  rw [readSegments, if_pos rfl]

/-- A WRITE is declared by its three bytes and its data. -/
theorem readSegments_write (n : Nat) (a c : Byte) (data rest : List Byte) (h : data.length = c.toNat) :
    readSegments (n + 1) (a :: 0 :: c :: (data ++ rest)) =
      (readSegments n rest).map ({ addr := a, dir := .write, count := c.toNat, data := data } :: ·) := by
  rw [readSegments, if_neg (by decide), if_pos rfl, if_neg (by rw [List.length_append]; omega), ← h, List.take_left,
    List.drop_left]

theorem readSegments_layout (segs : List RawSegment) (h : ∀ g ∈ segs, g.declared) :
    readSegments segs.length (segs.flatMap RawSegment.layout) = some segs := by
  induction segs with
  | nil => rfl
  | cons g segs ih =>
    obtain ⟨count, write, read⟩ := h g List.mem_cons_self
    have rest := ih fun x hx => h x (List.mem_cons_of_mem g hx)
    have number := toNat_ofNat_byte count
    obtain ⟨addr, dir, count', data⟩ := g
    cases dir with
    | read =>
      obtain rfl := read rfl
      refine (readSegments_read segs.length addr _ (segs.flatMap RawSegment.layout)).trans ?_
      rw [rest, number]
      rfl
    | write =>
      refine (readSegments_write segs.length addr _ data (segs.flatMap RawSegment.layout) (by rw [number]; exact write rfl)).trans ?_
      rw [rest, number]
      rfl

/-- The bytes that parse as `n` segments are their layout. -/
theorem readSegments_some {n : Nat} {bytes : List Byte} {segs : List RawSegment} (h : readSegments n bytes = some segs) :
    segs.length = n ∧ (∀ g ∈ segs, g.declared) ∧ bytes = segs.flatMap RawSegment.layout := by
  induction n generalizing bytes segs with
  | zero =>
    cases bytes with
    | nil =>
      obtain rfl := Option.some.inj h
      exact ⟨rfl, nofun, rfl⟩
    | cons => cases h
  | succ n ih =>
    match bytes with
    | a :: d :: c :: rest =>
      rw [readSegments] at h
      split at h
      next hd =>
        obtain ⟨tail, ht, rfl⟩ := Option.map_eq_some_iff.mp h
        obtain ⟨length, declared, layout⟩ := ih ht
        refine ⟨by rw [List.length_cons, length], List.forall_mem_cons.mpr ⟨⟨c.isLt, nofun, fun _ => rfl⟩, declared⟩, ?_⟩
        rw [hd, layout, List.flatMap_cons, RawSegment.layout, ofNat_toNat_byte]
        rfl
      next =>
        split at h
        next hd =>
          split at h
          next => cases h
          next enough =>
            obtain ⟨tail, ht, rfl⟩ := Option.map_eq_some_iff.mp h
            obtain ⟨length, declared, layout⟩ := ih ht
            have data : (rest.take c.toNat).length = c.toNat := by rw [List.length_take]; omega
            refine ⟨by rw [List.length_cons, length],
              List.forall_mem_cons.mpr ⟨⟨c.isLt, fun _ => data, nofun⟩, declared⟩, ?_⟩
            rw [hd, List.flatMap_cons, RawSegment.layout, ofNat_toNat_byte, ← layout]
            simp
        next => cases h
    | [] => cases h
    | [_] => cases h
    | [_, _] => cases h

theorem parseSubmit_iff (body : List Byte) (x : SubmitBody) : parseSubmit body = some x ↔
    ∃ dh dl : Byte, x.deadline = dh ++ dl ∧ x.segments.length < 256 ∧ (∀ g ∈ x.segments, g.declared) ∧
      body = [x.bus, x.cls, x.noReplay, x.retryNack, x.budget, x.groupFlag, x.groupId, dh, dl,
        BitVec.ofNat 8 x.segments.length] ++ x.segments.flatMap RawSegment.layout := by
  constructor
  · intro h
    unfold parseSubmit at h
    split at h
    next b c nr rn bu gf gi dh dl n rest =>
      obtain ⟨segs, hs, rfl⟩ := Option.map_eq_some_iff.mp h
      obtain ⟨length, declared, layout⟩ := readSegments_some hs
      refine ⟨dh, dl, rfl, by rw [length]; exact n.isLt, declared, ?_⟩
      rw [length, ofNat_toNat_byte, layout]
      rfl
    next => cases h
  · rintro ⟨dh, dl, deadline, short, declared, rfl⟩
    obtain ⟨bus, cls, noReplay, retryNack, budget, groupFlag, groupId, deadline', segs⟩ := x
    obtain rfl : deadline' = dh ++ dl := deadline
    change (readSegments (BitVec.ofNat 8 segs.length : Byte).toNat (segs.flatMap RawSegment.layout)).map _ = _
    rw [toNat_ofNat_byte short, readSegments_layout segs declared]
    rfl

/-! ### The checks (R11) -/

theorem addressAllowed_iff (own : Option Addr) (x : Byte) : addressAllowed own x = true ↔
    0x08 ≤ x.toNat ∧ x.toNat ≤ 0x77 ∧ own ≠ some (x.setWidth 7) := by
  unfold addressAllowed addrOf
  split
  next h => split at h <;> simp_all
  next h => split at h <;> simp_all

theorem addresses_allowed_iff (own : Option Addr) (segs : List RawSegment) :
    (segs.all fun g => addressAllowed own g.addr) = true ↔
      ∀ g ∈ segs, 0x08 ≤ g.addr.toNat ∧ g.addr.toNat ≤ 0x77 ∧ own ≠ some (g.addr.setWidth 7) := by
  simp only [List.all_eq_true, addressAllowed_iff]

theorem lengthsAllowed_iff (segs : List RawSegment) : lengthsAllowed segs = true ↔ 1 ≤ segs.length ∧ segs.length ≤ 6 ∧
    (∀ g ∈ segs, g.count ≤ 64 ∧ (g.dir = .read → 1 ≤ g.count)) ∧ (segs.map fun g => g.count).sum ≤ 64 := by
  have each (g : RawSegment) : (g.dir = .write ∨ 1 ≤ g.count) ↔ (g.dir = .read → 1 ≤ g.count) := by
    cases g.dir <;> simp
  simp only [lengthsAllowed, Bool.and_eq_true, Bool.or_eq_true, decide_eq_true_eq, List.all_eq_true, each, and_assoc]

theorem classOf_isSome_iff (x : Byte) : (classOf x).isSome = true ↔ x.toNat ≤ 2 := by
  constructor
  · intro h
    unfold classOf at h
    split at h
    next hx => subst hx; decide
    split at h
    next hx => subst hx; decide
    split at h
    next hx => subst hx; decide
    next => cases h
  · intro h
    have cases_ : x = 0 ∨ x = 1 ∨ x = 2 := by bv_omega
    obtain rfl | rfl | rfl := cases_ <;> rfl

theorem submitFieldsAllowed_iff (x : SubmitBody) : submitFieldsAllowed x = true ↔ x.cls.toNat ≤ 2 ∧ x.budget.toNat ≤ 7 ∧
    x.noReplay.toNat ≤ 1 ∧ x.retryNack.toNat ≤ 1 ∧ x.groupFlag.toNat ≤ 1 := by
  simp only [submitFieldsAllowed, Bool.and_eq_true, decide_eq_true_eq, classOf_isSome_iff, and_assoc]

section checks

variable {s : State} {p : PortIx} {x : SubmitBody} {b : BusIx}

/-- A SUBMIT passes the checks of its own values (R11, checks 2 to 6). -/
structure State.SubmitPasses (s : State) (x : SubmitBody) (b : BusIx) : Prop where
  bus : x.bus.toNat = b.val
  enabled : x.groupFlag ≠ 0 ∨ (s.bus b).config.enabled = true
  addresses : ∀ g ∈ x.segments,
    0x08 ≤ g.addr.toNat ∧ g.addr.toNat ≤ 0x77 ∧ (s.bus b).config.own ≠ some (g.addr.setWidth 7)
  lengths : 1 ≤ x.segments.length ∧ x.segments.length ≤ 6 ∧
    (∀ g ∈ x.segments, g.count ≤ 64 ∧ (g.dir = .read → 1 ≤ g.count)) ∧ (x.segments.map fun g => g.count).sum ≤ 64
  fields : x.cls.toNat ≤ 2 ∧ x.budget.toNat ≤ 7 ∧ x.noReplay.toNat ≤ 1 ∧ x.retryNack.toNat ≤ 1 ∧ x.groupFlag.toNat ≤ 1

theorem State.submitFields_badBus (h : 3 < x.bus.toNat) : s.submitFields p x = (s, answer .badBus) := by
  rw [State.submitFields, busOf_none h]

theorem State.submitFields_busOff (hb : x.bus.toNat = b.val) (hg : x.groupFlag = 0)
    (he : (s.bus b).config.enabled = false) : s.submitFields p x = (s, answer .busOff) := by
  rw [State.submitFields, busOf_of_toNat hb]
  simp only [hg, State.enabled, he]
  rfl

theorem submit_on {s : State} {x : SubmitBody} {b : BusIx} (he : x.groupFlag ≠ 0 ∨ (s.bus b).config.enabled = true) :
    ¬(decide (x.groupFlag = 0) && !s.enabled b) = true := by
  rw [State.enabled, Bool.and_eq_true, decide_eq_true_eq]
  rintro ⟨zero, off⟩
  exact he.elim (fun h => h zero) fun h => by simp [h] at off

theorem State.submitFields_badAddress (hb : x.bus.toNat = b.val) (he : x.groupFlag ≠ 0 ∨ (s.bus b).config.enabled = true)
    (ha : ¬∀ g ∈ x.segments, 0x08 ≤ g.addr.toNat ∧ g.addr.toNat ≤ 0x77 ∧ (s.bus b).config.own ≠ some (g.addr.setWidth 7)) :
    s.submitFields p x = (s, answer .badAddress) := by
  rw [← addresses_allowed_iff, Bool.not_eq_true] at ha
  rw [State.submitFields, busOf_of_toNat hb]
  dsimp only
  rw [if_neg (submit_on he), ha]
  rfl

theorem State.submitFields_badLength (hb : x.bus.toNat = b.val) (he : x.groupFlag ≠ 0 ∨ (s.bus b).config.enabled = true)
    (ha : ∀ g ∈ x.segments, 0x08 ≤ g.addr.toNat ∧ g.addr.toNat ≤ 0x77 ∧ (s.bus b).config.own ≠ some (g.addr.setWidth 7))
    (hl : ¬(1 ≤ x.segments.length ∧ x.segments.length ≤ 6 ∧ (∀ g ∈ x.segments, g.count ≤ 64 ∧ (g.dir = .read → 1 ≤ g.count)) ∧
      (x.segments.map fun g => g.count).sum ≤ 64)) : s.submitFields p x = (s, answer .badLength) := by
  rw [← addresses_allowed_iff] at ha
  rw [← lengthsAllowed_iff, Bool.not_eq_true] at hl
  rw [State.submitFields, busOf_of_toNat hb]
  dsimp only
  rw [if_neg (submit_on he), ha, hl]
  rfl

theorem State.submitFields_badField (hb : x.bus.toNat = b.val) (he : x.groupFlag ≠ 0 ∨ (s.bus b).config.enabled = true)
    (ha : ∀ g ∈ x.segments, 0x08 ≤ g.addr.toNat ∧ g.addr.toNat ≤ 0x77 ∧ (s.bus b).config.own ≠ some (g.addr.setWidth 7))
    (hl : 1 ≤ x.segments.length ∧ x.segments.length ≤ 6 ∧ (∀ g ∈ x.segments, g.count ≤ 64 ∧ (g.dir = .read → 1 ≤ g.count)) ∧
      (x.segments.map fun g => g.count).sum ≤ 64)
    (hf : ¬(x.cls.toNat ≤ 2 ∧ x.budget.toNat ≤ 7 ∧ x.noReplay.toNat ≤ 1 ∧ x.retryNack.toNat ≤ 1 ∧ x.groupFlag.toNat ≤ 1)) :
    s.submitFields p x = (s, answer .badField) := by
  rw [← addresses_allowed_iff] at ha
  rw [← lengthsAllowed_iff] at hl
  rw [← submitFieldsAllowed_iff, Bool.not_eq_true] at hf
  rw [State.submitFields, busOf_of_toNat hb]
  dsimp only
  rw [if_neg (submit_on he), ha, hl, hf]
  rfl

/-- What is left of a SUBMIT that passes the checks of its values: its group, the window and the table (R11, checks 7 to 9). -/
def State.submitRest (s : State) (p : PortIx) (x : SubmitBody) (b : BusIx) (g : Option (Fin 8 × GroupEntry)) : State × Reply :=
  if (s.session p).window ≤ s.windowUse p then (s, answer .windowFull)
  else
    match lowestFree s.records with
    | none => (s, answer .noSlot)
    | some i => (s.acceptSubmit p b x g i, [statusByte .ok, s.tagOf i])

theorem State.submitFields_refusedGroup {e : ReplyStatus} (h : s.SubmitPasses x b) (hg : s.submitGroup p x = .error e) :
    s.submitFields p x = (s, answer e) := by
  obtain ⟨hb, he, ha, hl, hf⟩ := h
  rw [← addresses_allowed_iff] at ha
  rw [← lengthsAllowed_iff] at hl
  rw [← submitFieldsAllowed_iff] at hf
  rw [State.submitFields, busOf_of_toNat hb]
  dsimp only
  rw [if_neg (submit_on he), ha, hl, hf, hg]
  rfl

theorem State.submitFields_rest {g : Option (Fin 8 × GroupEntry)} (h : s.SubmitPasses x b) (hg : s.submitGroup p x = .ok g) :
    s.submitFields p x = s.submitRest p x b g := by
  obtain ⟨hb, he, ha, hl, hf⟩ := h
  rw [← addresses_allowed_iff] at ha
  rw [← lengthsAllowed_iff] at hl
  rw [← submitFieldsAllowed_iff] at hf
  rw [State.submitFields, busOf_of_toNat hb]
  dsimp only
  rw [if_neg (submit_on he), ha, hl, hf, hg]
  rfl

theorem State.submitRest_windowFull {g : Option (Fin 8 × GroupEntry)} (h : (s.session p).window ≤ s.windowUse p) :
    s.submitRest p x b g = (s, answer .windowFull) := by
  rw [State.submitRest, if_pos h]

theorem State.submitRest_noSlot {g : Option (Fin 8 × GroupEntry)} (h : s.windowUse p < (s.session p).window)
    (hf : lowestFree s.records = none) : s.submitRest p x b g = (s, answer .noSlot) := by
  rw [State.submitRest, if_neg (by omega), hf]

theorem State.submitRest_accepted {g : Option (Fin 8 × GroupEntry)} {i : Fin 64} (h : s.windowUse p < (s.session p).window)
    (hf : lowestFree s.records = some i) :
    s.submitRest p x b g = (s.acceptSubmit p b x g i, [statusByte .ok, s.tagOf i]) := by
  rw [State.submitRest, if_neg (by omega), hf]

theorem State.submitGroup_none (h : x.groupFlag = 0) : s.submitGroup p x = .ok none := by
  rw [State.submitGroup, if_neg (by rw [h]; decide)]

theorem State.submitGroup_found {k : Fin 8} {e : GroupEntry} (h : x.groupFlag = 1) (hk : s.findGroup x.groupId = some (k, e)) :
    s.submitGroup p x = if e.owner ≠ p then .error .wrongOwner else if e.state ≠ .collecting then .error .wrongState
      else .ok (some (k, e)) := by
  rw [State.submitGroup, if_pos h, hk]

theorem State.submitGroup_unknown (h : x.groupFlag = 1) (hk : s.findGroup x.groupId = none) :
    s.submitGroup p x = .error .unknownId := by
  rw [State.submitGroup, if_pos h, hk]

end checks

theorem exec_submit {s u : State} {p : PortIx} {q : Byte} {body : List Byte} {x : SubmitBody} {r : Reply}
    (ht : s.takes p 0x06 q body = true) (ho : (s.session p).state = .opened) (hp : parseSubmit body = some x)
    (h : (s.arrived p).submitFields p x = (u, r)) : exec (.submit p q body) s = .next (u.replied p 0x06 q r) := by
  refine exec_open rfl (by decide) (by decide) (by decide) ho ht ?_
  change (s.arrived p).submitRequest p body = _
  rw [State.submitRequest, hp]
  exact h

/-- The record of a SUBMIT without a group (R5, R12). -/
theorem newRecord_queued (p : PortIx) (b : BusIx) {x : SubmitBody} {c : Cls} (clock : Clock) (h : classOf x.cls = some c) :
    newRecord p b x clock false =
      { owner := p, bus := b, cls := c, origCls := c, noReplay := decide (x.noReplay = 1),
        retryNack := decide (x.retryNack = 1), budget := x.budget.toNat, group := none,
        deadline := if x.deadline = 0 then none else some x.deadline, segments := x.segments.map RawSegment.toSegment,
        state := .queued, entryTime := some clock, ageStopped := false,
        deadlineTime := if x.deadline = 0 then none else some (clock + x.deadline.setWidth 32),
        notBefore := none, spacingOver := false, attempts := 0, abortPending := false, lastRetry := none, result := none } := by
  have deadline : ((if x.deadline = 0 then none else some x.deadline).map (addTime clock) : Option Clock) =
      if x.deadline = 0 then none else some (clock + x.deadline.setWidth 32) := by split <;> rfl
  rw [newRecord, h, ← deadline]
  rfl

/-- The record of a SUBMIT into a group (R5, R13). -/
theorem newRecord_staged (p : PortIx) (b : BusIx) {x : SubmitBody} {c : Cls} (clock : Clock) (h : classOf x.cls = some c) :
    newRecord p b x clock true =
      { owner := p, bus := b, cls := c, origCls := c, noReplay := decide (x.noReplay = 1),
        retryNack := decide (x.retryNack = 1), budget := x.budget.toNat, group := some x.groupId,
        deadline := if x.deadline = 0 then none else some x.deadline, segments := x.segments.map RawSegment.toSegment,
        state := .staged, entryTime := none, ageStopped := false, deadlineTime := none, notBefore := none,
        spacingOver := false, attempts := 0, abortPending := false, lastRetry := none, result := none } := by
  rw [newRecord, h]
  rfl

end Sys2Proof.Machine

namespace Sys2Proof.Proofs

open Sys2Proof Sys2Proof.Machine

/-- Settles O31: the layout in both directions, the accepted record, and each check in its place. -/
theorem submitQueues : Obligations.SubmitQueues := by
  unfold Obligations.SubmitQueues
  refine ⟨parseSubmit_iff, fun s p q body x b c i ht ho hp hb he ha h1 h6 hc hsum hcls hbu hnr hrn hg hw hi => ?_,
    fun s p q body ht ho => ⟨fun hp => ?_, fun x hp => ⟨fun hb => ?_, fun b hb => ⟨fun hg he => ?_, fun he => ⟨fun ha => ?_,
      fun ha lengths hl => ⟨fun hn => ?_, fun hy fields hf => ⟨fun hn => ?_, fun hx hg hk => ?_, fun k e hx hg hk hne => ?_,
        fun k e hx hg hk hown hst => ?_, fun hx hg => ?_⟩⟩⟩⟩⟩⟩⟩
  · have passes : (s.arrived p).SubmitPasses x b := ⟨hb, .inr he, ha, ⟨h1, h6, hc, hsum⟩,
      (classOf_isSome_iff x.cls).mp (by rw [hcls]; rfl), hbu, hnr, hrn, by rw [hg]; decide⟩
    refine exec_submit ht ho hp ((State.submitFields_rest passes (State.submitGroup_none hg)).trans
      ((State.submitRest_accepted (s := s.arrived p) hw hi).trans ?_))
    rw [State.acceptSubmit, newRecord_queued p b (s.arrived p).clock hcls]
    rfl
  · refine exec_open rfl (by decide) (by decide) (by decide) ho ht ?_
    change (s.arrived p).submitRequest p body = _
    rw [State.submitRequest, hp]
    rfl
  · exact exec_submit ht ho hp (State.submitFields_badBus hb)
  · exact exec_submit ht ho hp (State.submitFields_busOff (s := s.arrived p) hb hg he)
  · refine exec_submit ht ho hp (State.submitFields_badAddress (s := s.arrived p) hb he fun hall => ?_)
    obtain ⟨g, hg, h⟩ := ha
    obtain ⟨low, high, own⟩ := hall g hg
    obtain h | h | h := h
    · omega
    · omega
    · exact own h
  · exact exec_submit ht ho hp (State.submitFields_badLength (s := s.arrived p) hb he ha (mt hl.mpr hn))
  · exact exec_submit ht ho hp (State.submitFields_badField (s := s.arrived p) hb he ha (hl.mp hy) (mt hf.mpr hn))
  · have passes : (s.arrived p).SubmitPasses x b := ⟨hb, he, ha, hl.mp hy, hf.mp hx⟩
    exact exec_submit ht ho hp (State.submitFields_refusedGroup passes (State.submitGroup_unknown (s := s.arrived p) hg hk))
  · have passes : (s.arrived p).SubmitPasses x b := ⟨hb, he, ha, hl.mp hy, hf.mp hx⟩
    exact exec_submit ht ho hp (State.submitFields_refusedGroup passes
      ((State.submitGroup_found (s := s.arrived p) hg hk).trans (if_pos hne)))
  · have passes : (s.arrived p).SubmitPasses x b := ⟨hb, he, ha, hl.mp hy, hf.mp hx⟩
    exact exec_submit ht ho hp (State.submitFields_refusedGroup passes ((State.submitGroup_found (s := s.arrived p) hg hk).trans
      ((if_neg (not_not.mpr hown)).trans (if_pos hst))))
  · have passes : (s.arrived p).SubmitPasses x b := ⟨hb, he, ha, hl.mp hy, hf.mp hx⟩
    have group : ∃ g, (s.arrived p).submitGroup p x = .ok g := by
      by_cases h1 : x.groupFlag = 1
      · obtain h0 | ⟨k, e, hk, hown, hst⟩ := hg
        · exact ⟨none, State.submitGroup_none h0⟩
        · exact ⟨some (k, e), (State.submitGroup_found (s := s.arrived p) h1 hk).trans
            ((if_neg (not_not.mpr hown)).trans (if_neg (not_not.mpr hst)))⟩
      · exact ⟨none, by rw [State.submitGroup, if_neg h1]⟩
    obtain ⟨g, hg⟩ := group
    refine ⟨fun hw => ?_, fun hw hn => ?_⟩
    · exact exec_submit ht ho hp ((State.submitFields_rest passes hg).trans (State.submitRest_windowFull (s := s.arrived p) hw))
    · exact exec_submit ht ho hp ((State.submitFields_rest passes hg).trans (State.submitRest_noSlot (s := s.arrived p) hw hn))

/-- Settles O32: a SUBMIT that names a COLLECTING group passes the same checks and is staged. -/
theorem submitStages : Obligations.SubmitStages := by
  unfold Obligations.SubmitStages
  intro s p q body x b c k e i ht ho hp hb ha h1 h6 hc hsum hcls hbu hnr hrn hg hk hown hst hw hi
  have passes : (s.arrived p).SubmitPasses x b := ⟨hb, .inl (by rw [hg]; decide), ha, ⟨h1, h6, hc, hsum⟩,
    (classOf_isSome_iff x.cls).mp (by rw [hcls]; rfl), hbu, hnr, hrn, by rw [hg]; decide⟩
  have group : (s.arrived p).submitGroup p x = .ok (some (k, e)) := (State.submitGroup_found (s := s.arrived p) hg hk).trans
    ((if_neg (not_not.mpr hown)).trans (if_neg (not_not.mpr hst)))
  refine exec_submit ht ho hp ((State.submitFields_rest passes group).trans
    ((State.submitRest_accepted (s := s.arrived p) hw hi).trans ?_))
  rw [State.acceptSubmit, newRecord_staged p b (s.arrived p).clock hcls]
  rfl

end Sys2Proof.Proofs
end

section
/-! PROOF. CANCEL (chapter 1), and how a report leaves its source (chapter 9). -/

namespace Sys2Proof.Machine

theorem exec_cancel {s u : State} {p : PortIx} {q tag : Byte} {r : Reply} (ht : s.takes p 0x07 q [tag] = true)
    (ho : (s.session p).state = .opened) (h : (s.arrived p).cancelRequest p [tag] = (u, r)) :
    exec (.cancel p q [tag]) s = .next (u.replied p 0x07 q r) :=
  exec_open rfl (by decide) (by decide) (by decide) ho ht h

theorem State.cancelRequest_unknown {s : State} {p : PortIx} {tag : Byte} (h : s.findRecord tag = none) :
    s.cancelRequest p [tag] = (s, answer .unknownId) := by
  rw [State.cancelRequest, parseByte]
  dsimp only
  rw [h]

theorem State.cancelRequest_wrongOwner {s : State} {p : PortIx} {tag : Byte} {i : Fin 64} {r : Record}
    (h : s.findRecord tag = some (i, r)) (hn : r.owner ≠ p) : s.cancelRequest p [tag] = (s, answer .wrongOwner) := by
  rw [State.cancelRequest, parseByte]
  dsimp only
  rw [h]
  dsimp only
  rw [if_pos hn]

/-- What CANCEL does to a record of its own session (R18). -/
def State.cancelOwn (s : State) (i : Fin 64) (r : Record) : State × Reply :=
  match r.state with
  | .staged => ((s.unstage i).finishWithoutAttempt i .cancelled, answer .ok)
  | .queued => ((s.dequeueRecord r.bus i).finishWithoutAttempt i .cancelled, answer .ok)
  | .active => (s.abortRecord i, answer .pending)
  | .done => (s, answer .tooLate)

theorem State.cancelRequest_own {s : State} {p : PortIx} {tag : Byte} {i : Fin 64} {r : Record}
    (h : s.findRecord tag = some (i, r)) (ho : r.owner = p) : s.cancelRequest p [tag] = s.cancelOwn i r := by
  rw [State.cancelRequest, parseByte]
  dsimp only
  rw [h]
  dsimp only
  rw [if_neg (not_not.mpr ho)]
  rfl

theorem State.dequeueRecord_eq (s : State) (b : BusIx) (i : Fin 64) :
    s.dequeueRecord b i = s.setQueue b ((s.bus b).queue.filter fun y => decide (y ≠ .record i)) := by
  have same : (fun y : QItem => !y.isRecord i) = fun y => decide (y ≠ .record i) := by
    funext y
    cases y <;> simp [QItem.isRecord]
  rw [State.dequeueRecord, same]

/-! ### The offer and the admission of a report (R154, R155) -/

section admission

variable {s : State} {p : PortIx}

theorem State.offer_listed {src : Source} (h : src ∈ (s.session p).admission) : s.offer p src = s := if_pos h

theorem State.offer_admitted {src : Source} (h : src ∉ (s.session p).admission) (room : (s.session p).outbox.length < 16) :
    s.offer p src = s.admitOne p src := by
  have hasRoom : (s.session p).hasRoom = true := decide_eq_true room
  rw [State.offer, if_neg h, if_pos hasRoom]

theorem State.offer_waits {src : Source} (h : src ∉ (s.session p).admission) (full : 16 ≤ (s.session p).outbox.length) :
    s.offer p src = s.modSession p fun x => { x with admission := x.admission ++ [src] } := by
  have noRoom : ¬(s.session p).hasRoom = true := by
    rw [Session.hasRoom, decide_eq_true_eq]
    exact not_lt.mpr full
  rw [State.offer, if_neg h, if_neg noRoom]

theorem State.admitOne_some {src : Source} {r : Report} (h : s.reportOf p src = some r) :
    s.admitOne p src = (s.modSession p fun x => x.push r).releaseSource p src := by
  rw [State.admitOne, h]

/-- A value report goes before a suspension report that became pending after it (R128). -/
theorem watchReport_value {id : Byte} {w : Watch} {v : ValueReport} (hv : w.valueReport = some v)
    (hs : w.suspensionReport = none ∨ w.suspensionFirst = false) :
    watchReport id w = some (.watchValue id w.bus w.addr v w.skipped) ∧
      watchAdmitted w = { w with valueReport := none, lastReported := some v.value } := by
  unfold watchReport watchAdmitted
  rw [hv]
  cases hr : w.suspensionReport with
  | none => exact ⟨rfl, by simp⟩
  | some u =>
    have first : w.suspensionFirst = false := hs.resolve_left (by simp [hr])
    simp [first]

/-- A suspension report goes before a value report that became pending after it (R128). -/
theorem watchReport_suspension {id : Byte} {w : Watch} {u : SuspensionReport} (hu : w.suspensionReport = some u)
    (hs : w.valueReport = none ∨ w.suspensionFirst = true) :
    watchReport id w = some (.watchSuspended id w.bus w.addr u w.skipped) ∧
      watchAdmitted w = { w with suspensionReport := none, suspensionFirst := false } := by
  unfold watchReport watchAdmitted
  rw [hu]
  cases hr : w.valueReport with
  | none => exact ⟨rfl, by simp⟩
  | some v =>
    have first : w.suspensionFirst = true := hs.resolve_left (by simp [hr])
    simp [first]

theorem State.finishRecord_some {i : Fin 64} {r : Record} (h : s.record i = some r) (st : Status) (f : Option Nat) (n : Nat)
    (d : List Byte) : s.finishRecord i st f n d = (s.putRecord i { r with
      state := .done
      notBefore := none
      spacingOver := false
      result := some { status := st, failing := f, bytesCompleted := n, completionTime := s.clock, readData := d }
      }).offer r.owner (.record i) := by
  rw [State.finishRecord, h]

/-- A record with a result, offered where the outbox has room, is freed as its report is pushed. -/
theorem State.putRecord_offer_admitted {i : Fin 64} (hn : Source.record i ∉ (s.session p).admission)
    (room : (s.session p).outbox.length < 16) (r : Record) {x : Result} (hx : r.result = some x) :
    (s.putRecord i r).offer p (.record i) =
      ({ s with records := s.records.set i { gen := s.records[i].gen + 1, entry := none } }).modSession p fun y =>
        y.push (.result (s.tagOf i) x r.attempts r.lastRetry) := by
  have tag : (s.putRecord i r).tagOf i = s.tagOf i := by simp [State.tagOf, State.putRecord]
  have report : (s.putRecord i r).reportOf p (.record i) = some (.result (s.tagOf i) x r.attempts r.lastRetry) := by
    simp [State.reportOf, State.putRecord_record, hx, tag]
  rw [State.offer_admitted (s := s.putRecord i r) hn room, State.admitOne_some report]
  simp [State.releaseSource, State.freeRecord, State.putRecord, State.modSession, State.session]

end admission

end Sys2Proof.Machine

namespace Sys2Proof.Proofs

open Sys2Proof Sys2Proof.Machine

/-- Settles O33: the four states of a record of the session, and the refusals. -/
theorem cancelByTheRecordsState : Obligations.CancelByTheRecordsState := by
  unfold Obligations.CancelByTheRecordsState
  refine fun s p q tag ht ho => ⟨fun h => ?_, fun i r h => ⟨fun hn => ?_, fun hown hst => ?_, fun hown hst => ?_,
    fun hown hst a ha hi => ?_, fun hown hst => ?_⟩⟩
  · exact exec_cancel ht ho (State.cancelRequest_unknown (s := s.arrived p) h)
  · exact exec_cancel ht ho (State.cancelRequest_wrongOwner (s := s.arrived p) h hn)
  all_goals
    refine exec_cancel ht ho ((State.cancelRequest_own (s := s.arrived p) h hown).trans ?_)
    rw [State.cancelOwn, hst]
  · rfl
  · rw [State.dequeueRecord_eq]
    rfl
  · obtain ⟨hr, -⟩ := State.findRecord_some h
    obtain ⟨a', ha', -, hs⟩ | ⟨none_, -⟩ := State.abortRecord_cases (s := s.arrived p) hr
    · obtain rfl : a = a' := by simpa using ha.symm.trans ha'
      dsimp only
      rw [hs, hst]
      rfl
    · exact absurd hi (none_ a ha)
  · rfl

/-- Settles O34: the three cases of an offer, the admission of each source, and the end of a record. -/
theorem endedRecordsReport : Obligations.EndedRecordsReport := by
  unfold Obligations.EndedRecordsReport
  refine ⟨fun s p src => ⟨State.offer_listed, fun h => ⟨State.offer_admitted h, State.offer_waits h⟩⟩,
    fun s p push hpush => ?_, fun s i r st f n d hr hn => ⟨fun room => ?_, fun full => ?_⟩⟩
  · have pushed (y : Report) : (s.modSession p fun x => x.push y) = push y := (hpush y).symm
    have lease (y : Report) (i) : (push y).lease i = s.lease i := by rw [hpush]; rfl
    have group (y : Report) (i) : (push y).group i = s.group i := by rw [hpush]; rfl
    have watch (y : Report) (i) : (push y).watch i = s.watch i := by rw [hpush]; rfl
    refine ⟨fun i r x hr hx => ?_, fun i e g t he hrep hg ht => ?_, fun i e t he hrep ht => ?_,
      fun i g f hg hf => ?_, fun i w v hw hv hs => ?_, fun i w v hw hv hs => ?_, fun b k hk => ?_, fun b y hy => ?_,
      fun b e he => ?_⟩
    · rw [State.admitOne_some (r := .result (s.tagOf i) x r.attempts r.lastRetry) (by simp [State.reportOf, hr, hx]), pushed]
      rfl
    · rw [State.admitOne_some (r := .leaseGranted (s.leaseId i) e.bus e.low e.high g t)
        (by simp [State.reportOf, leaseReport, he, hrep, hg, ht]), pushed, State.releaseSource, lease, he]
      dsimp only
      rw [if_neg (by rw [hrep]; decide)]
    · rw [State.admitOne_some (r := .leaseEnded (s.leaseId i) e.bus e.low e.high e.endReason t e.grantTime)
        (by simp [State.reportOf, leaseReport, he, hrep, ht]), pushed, State.releaseSource, lease, he]
      dsimp only
      rw [if_pos hrep]
    · rw [State.admitOne_some (r := .groupFired (s.groupId i) f) (by simp [State.reportOf, hg, hf]), pushed,
        State.releaseSource, group, hg]
    · obtain ⟨report, admitted⟩ := watchReport_value (id := s.watchId i) hv hs
      rw [State.admitOne_some (r := .watchValue (s.watchId i) w.bus w.addr v w.skipped) (by simp [State.reportOf, hw, report]),
        pushed, State.releaseSource, State.modWatch, watch, hw, ← admitted]
    · obtain ⟨report, admitted⟩ := watchReport_suspension (id := s.watchId i) hv hs
      rw [State.admitOne_some (r := .watchSuspended (s.watchId i) w.bus w.addr v w.skipped)
        (by simp [State.reportOf, hw, report]), pushed, State.releaseSource, State.modWatch, watch, hw, ← admitted]
    · have report : s.reportOf p (.inbound b k) = some (.targetWrite b k (s.bus b).target.slots[k]) := if_pos hk
      rw [State.admitOne_some report, pushed]
      rfl
    · rw [State.admitOne_some (r := .targetRead b y) (by simp [State.reportOf, hy]), pushed]
      rfl
    · rw [State.admitOne_some (r := .busEvent b e) (by simp [State.reportOf, he]), pushed]
      rfl
  · rw [State.finishRecord_some hr, State.putRecord_offer_admitted hn room _ rfl]
    rfl
  · rw [State.finishRecord_some hr]
    exact State.offer_waits (s := s.putRecord i _) hn full

end Sys2Proof.Proofs
end

section
/-! PROOF. CLAIM, and the ends of a lease (chapter 5). -/

namespace Sys2Proof.Machine

/-! ### CLAIM (R89, R90) -/

theorem exec_claim {s u : State} {p : PortIx} {q x lo hi dh dl wait : Byte} {r : Reply}
    (ht : s.takes p 0x08 q [x, lo, hi, dh, dl, wait] = true) (ho : (s.session p).state = .opened)
    (h : (s.arrived p).claimFields p ⟨x, lo, hi, dh ++ dl, wait⟩ = (u, r)) :
    exec (.claim p q [x, lo, hi, dh, dl, wait]) s = .next (u.replied p 0x08 q r) :=
  exec_open rfl (by decide) (by decide) (by decide) ho ht h

theorem addrOf_some {x : Byte} (lo : 0x08 ≤ x.toNat) (hi : x.toNat ≤ 0x77) : addrOf x = some (x.setWidth 7) := if_pos ⟨lo, hi⟩

theorem addrOf_none {x : Byte} (h : x.toNat < 0x08 ∨ 0x77 < x.toNat) : addrOf x = none := if_neg (by omega)

theorem toNat_setWidth_addr {x : Byte} (h : x.toNat ≤ 0x77) : (x.setWidth 7).toNat = x.toNat := by
  rw [BitVec.toNat_setWidth]
  exact Nat.mod_eq_of_lt (by omega)

section claim

variable {s : State} {p : PortIx} {b : BusIx} {x : ClaimBody}

theorem State.claimConflicts_iff {lo hi : Byte} (hlo : lo.toNat ≤ 0x77) (hhi : hi.toNat ≤ 0x77) :
    s.claimConflicts p b (lo.setWidth 7) (hi.setWidth 7) = true ↔
      ∃ j e, s.lease j = some e ∧ e.owner ≠ p ∧ e.bus = b ∧ e.state ≠ .ended ∧
        e.low.toNat ≤ hi.toNat ∧ lo.toNat ≤ e.high.toNat := by
  have any := s.any_lease fun e => e.conflicts p b (lo.setWidth 7) (hi.setWidth 7)
  rw [State.claimConflicts, any]
  refine exists_congr fun j => ?_
  simp only [Option.mem_def, Lease.conflicts, rangesOverlap, Bool.and_eq_true, decide_eq_true_eq,
    toNat_setWidth_addr hlo, toNat_setWidth_addr hhi]
  refine exists_congr fun e => ⟨?_, ?_⟩
  · rintro ⟨hj, ⟨⟨ho, hb⟩, hs⟩, low, high⟩
    exact ⟨hj, ho, hb, hs, high, low⟩
  · rintro ⟨hj, ho, hb, hs, high, low⟩
    exact ⟨hj, ⟨⟨ho, hb⟩, hs⟩, low, high⟩

theorem State.claimFields_badBus (h : 3 < x.bus.toNat) : s.claimFields p x = (s, answer .badBus) := by
  rw [State.claimFields, busOf_none h]

variable (hb : x.bus.toNat = b.val)
include hb

theorem State.claimFields_busOff (off : (s.bus b).config.enabled = false) : s.claimFields p x = (s, answer .busOff) := by
  rw [State.claimFields, busOf_of_toNat hb]
  dsimp only
  rw [if_pos (by rw [State.enabled, off]; rfl)]

variable (on : (s.bus b).config.enabled = true)
include on

theorem State.claimFields_badAddress (h : addrOf x.low = none ∨ addrOf x.high = none) :
    s.claimFields p x = (s, answer .badAddress) := by
  have enabled : ¬(!s.enabled b) = true := by rw [State.enabled, on]; decide
  rw [State.claimFields, busOf_of_toNat hb]
  dsimp only
  rw [if_neg enabled]
  obtain low | high := h
  · rw [low]
  · rw [high]
    cases addrOf x.low <;> rfl

variable (low : 0x08 ≤ x.low.toNat ∧ x.low.toNat ≤ 0x77) (high : 0x08 ≤ x.high.toNat ∧ x.high.toNat ≤ 0x77)
include low high

theorem State.claimFields_badField (h : x.high.toNat < x.low.toNat ∨ x.duration = 0 ∨ 1 < x.wait.toNat) :
    s.claimFields p x = (s, answer .badField) := by
  have enabled : ¬(!s.enabled b) = true := by rw [State.enabled, on]; decide
  rw [State.claimFields, busOf_of_toNat hb]
  dsimp only
  rw [if_neg enabled, addrOf_some low.1 low.2, addrOf_some high.1 high.2]
  dsimp only
  rw [toNat_setWidth_addr low.2, toNat_setWidth_addr high.2, if_pos h]

/-- CLAIM with every value valid: by the conflict, the wait flag and the FREE slots (R90). -/
def State.claimValid (s : State) (p : PortIx) (b : BusIx) (x : ClaimBody) (conflict : Bool) : State × Reply :=
  if conflict && decide (x.wait = 0) then (s, answer .conflict)
  else
    match lowestFree s.leases with
    | none => (s, answer .noRoom)
    | some i => (s.acceptClaim p b (x.low.setWidth 7) (x.high.setWidth 7) x.duration conflict i,
        [statusByte (if conflict then .queued else .ok), s.leaseId i])

omit hb on low high in
theorem State.claimValid_free {conflict : Bool} {i : Fin 16} (h : conflict = false ∨ x.wait ≠ 0)
    (free : lowestFree s.leases = some i) : s.claimValid p b x conflict =
      (s.acceptClaim p b (x.low.setWidth 7) (x.high.setWidth 7) x.duration conflict i,
        [statusByte (if conflict then .queued else .ok), s.leaseId i]) := by
  rw [State.claimValid, if_neg (by cases h <;> simp_all), free]

omit hb on low high in
theorem State.claimValid_full {conflict : Bool} (h : conflict = false ∨ x.wait ≠ 0) (full : lowestFree s.leases = none) :
    s.claimValid p b x conflict = (s, answer .noRoom) := by
  rw [State.claimValid, if_neg (by cases h <;> simp_all), full]

theorem State.claimFields_valid (h : ¬(x.high.toNat < x.low.toNat ∨ x.duration = 0 ∨ 1 < x.wait.toNat)) :
    s.claimFields p x = s.claimValid p b x (s.claimConflicts p b (x.low.setWidth 7) (x.high.setWidth 7)) := by
  have enabled : ¬(!s.enabled b) = true := by rw [State.enabled, on]; decide
  rw [State.claimFields, busOf_of_toNat hb]
  dsimp only
  rw [if_neg enabled, addrOf_some low.1 low.2, addrOf_some high.1 high.2]
  dsimp only
  rw [toNat_setWidth_addr low.2, toNat_setWidth_addr high.2, if_neg h]
  rfl

end claim

/-! ### RELEASE, REVOKE and expiry (R94 to R96) -/

section ends

variable {s u : State} {p : PortIx} {q id : Byte} {i : Fin 16} {e : Lease} {r : Reply}

theorem exec_release (ht : s.takes p 0x0A q [id] = true) (ho : (s.session p).state = .opened)
    (h : (s.arrived p).releaseRequest p [id] = (u, r)) : exec (.release p q [id]) s = .next (u.replied p 0x0A q r) :=
  exec_open rfl (by decide) (by decide) (by decide) ho ht h

theorem exec_revoke (ht : s.takes 0 0x0B q [id] = true) (ho : (s.session 0).state = .opened)
    (h : (s.arrived 0).revokeRequest 0 [id] = (u, r)) : exec (.revoke 0 q [id]) s = .next (u.replied 0 0x0B q r) :=
  exec_open rfl (by decide) (by decide) (by decide) ho ht h

theorem State.releaseRequest_unknown (h : s.findLease id = none) : s.releaseRequest p [id] = (s, answer .unknownId) := by
  simp only [State.releaseRequest, parseByte, h]

theorem State.releaseRequest_found (h : s.findLease id = some (i, e)) : s.releaseRequest p [id] =
    if e.owner ≠ p then (s, answer .wrongOwner)
    else if e.state = .ended then (s, answer .tooLate)
    else ((((s.freeLease i).leaveWaiting e.bus i).dropSource p (.lease i)).afterLeaseLeft e.bus
      (decide (e.state = .granted)), answer .ok) := by
  simp only [State.releaseRequest, parseByte, h]

theorem State.isPrimary_of_opened (ho : (s.session 0).state = .opened) : s.isPrimary 0 = true := by
  simp [State.isPrimary, State.isOpen, ho]

theorem State.revokeRequest_unknown (hp : s.isPrimary 0 = true) (h : s.findLease id = none) : s.revokeRequest 0 [id] = (s, answer .unknownId) := by
  simp only [State.revokeRequest, parseByte, h]
  exact if_neg (by rw [hp]; decide)

theorem State.revokeRequest_found (hp : s.isPrimary 0 = true) (h : s.findLease id = some (i, e)) : s.revokeRequest 0 [id] =
    if e.state = .ended then (s, answer .tooLate) else (s.endLease i e .revoked, answer .ok) := by
  simp only [State.revokeRequest, parseByte, h]
  exact if_neg (by rw [hp]; decide)

theorem State.afterLeaseLeft_eq (s : State) (b : BusIx) (c : Prop) [Decidable c] :
    s.afterLeaseLeft b (decide c) = if c then (s.reexamine b).wake b else s.reexamine b := by
  rw [State.afterLeaseLeft]
  by_cases h : c <;> simp [h]

theorem exec_leaseExpiry (s : State) (i : Fin 16) : exec (.leaseExpiry i) s = .next (s.leaseExpired i).settle := rfl

theorem State.leaseExpired_due {t : Clock} (he : s.lease i = some e) (granted : e.state = .granted)
    (ht : e.expiryTime = some t) (due : (s.clock - t).toNat < 2 ^ 31) : s.leaseExpired i = s.endLease i e .expired := by
  simp only [State.leaseExpired, he]
  rw [if_pos ⟨granted, by rw [ht]; exact decide_eq_true due⟩]

end ends

end Sys2Proof.Machine

namespace Sys2Proof.Proofs

open Sys2Proof Sys2Proof.Machine

/-- Settles O35: the checks of CLAIM in order, and with valid values the four rows of R90. -/
theorem claimGrantsQueuesOrRefuses : Obligations.ClaimGrantsQueuesOrRefuses := by
  unfold Obligations.ClaimGrantsQueuesOrRefuses
  refine ⟨fun s p q x lo hi dh dl wait b ht ho hb on low le high hd hw conflict hc => ?_,
    fun s p q x lo hi dh dl wait ht ho => ⟨fun hx => ?_, fun b hb => ⟨fun off => ?_, fun on => ⟨fun bad => ?_, fun l1 l2 h1 h2 bad => ?_⟩⟩⟩⟩
  · have valid : ¬(hi.toNat < lo.toNat ∨ dh ++ dl = 0#16 ∨ 1 < wait.toNat) := by
      rintro (h | h | h)
      · omega
      · exact hd h
      · omega
    have conflicts : s.claimConflicts p b (lo.setWidth 7) (hi.setWidth 7) = true ↔ conflict :=
      (State.claimConflicts_iff (le.trans high) high).trans hc.symm
    have run {c : Bool} {u : State} {r : Reply} (h : s.claimConflicts p b (lo.setWidth 7) (hi.setWidth 7) = c)
        (hv : (s.arrived p).claimValid p b ⟨x, lo, hi, dh ++ dl, wait⟩ c = (u, r)) :=
      exec_claim ht ho ((State.claimFields_valid (s := s.arrived p) (x := ⟨x, lo, hi, dh ++ dl, wait⟩) hb on
        ⟨low, le.trans high⟩ ⟨low.trans le, high⟩ valid).trans
          ((congrArg ((s.arrived p).claimValid p b ⟨x, lo, hi, dh ++ dl, wait⟩) h).trans hv))
    refine ⟨fun i none_ free => ?_, fun i some_ wait1 free => ?_, fun some_ wait0 => ?_, fun waits full => ?_⟩
    · have clear := Bool.eq_false_iff.mpr fun h => none_ (conflicts.mp h)
      exact run clear (State.claimValid_free (.inl rfl) free)
    · exact run (conflicts.mpr some_) (State.claimValid_free (.inr (by simp [wait1])) free)
    · exact run (conflicts.mpr some_) (if_pos (by simp [wait0]))
    · refine run rfl (State.claimValid_full ?_ full)
      obtain none_ | wait1 := waits
      · exact .inl (Bool.eq_false_iff.mpr fun h => none_ (conflicts.mp h))
      · exact .inr (by simp [wait1])
  · exact exec_claim ht ho (State.claimFields_badBus hx)
  · exact exec_claim ht ho (State.claimFields_busOff (b := b) hb off)
  · refine exec_claim ht ho (State.claimFields_badAddress (b := b) hb on ?_)
    by_cases h : lo.toNat < 0x08 ∨ 0x77 < lo.toNat
    · exact .inl (addrOf_none h)
    · exact .inr (addrOf_none (x := hi) (by omega))
  · exact exec_claim ht ho (State.claimFields_badField (b := b) hb on ⟨l1, l2⟩ ⟨h1, h2⟩ bad)

/-- Settles O37: the checks of RELEASE and REVOKE, and the one end that each of them and an expiry has. -/
theorem leasesEnd : Obligations.LeasesEnd := by
  unfold Obligations.LeasesEnd
  refine ⟨fun s p q id ht ho => ⟨fun h => ?_, fun i e h hn => ?_⟩, fun s q id ht ho h => ?_,
    fun s p q id i e ht ho h own => ⟨fun ended => ?_, fun live => ⟨_, rfl, ?_⟩⟩,
    fun s q id i e ht ho h => ⟨fun ended => ?_, fun live => ⟨_, rfl, ?_⟩⟩, fun s i e t he granted ht due => ?_⟩
  · exact exec_release ht ho (State.releaseRequest_unknown (s := s.arrived p) h)
  · exact exec_release ht ho ((State.releaseRequest_found (s := s.arrived p) h).trans (if_pos hn))
  · exact exec_revoke ht ho (State.revokeRequest_unknown (s := s.arrived 0) (State.isPrimary_of_opened ho) h)
  · exact exec_release ht ho ((State.releaseRequest_found (s := s.arrived p) h).trans
      ((if_neg (not_not.mpr own)).trans (if_pos ended)))
  · rw [exec_release ht ho ((State.releaseRequest_found (s := s.arrived p) h).trans
      ((if_neg (not_not.mpr own)).trans (if_neg live))), State.afterLeaseLeft_eq]
    rfl
  · exact exec_revoke ht ho ((State.revokeRequest_found (s := s.arrived 0) (State.isPrimary_of_opened ho) h).trans (if_pos ended))
  · rw [exec_revoke ht ho ((State.revokeRequest_found (s := s.arrived 0) (State.isPrimary_of_opened ho) h).trans (if_neg live)), State.endLease,
      State.afterLeaseLeft_eq]
    rfl
  · rw [exec_leaseExpiry, State.leaseExpired_due he granted ht due, State.endLease, State.afterLeaseLeft_eq, if_pos granted]
    rfl

end Sys2Proof.Proofs
end

section
/-! PROOF. Staged groups and trigger lines (chapter 6). -/

namespace Sys2Proof.Machine

section requests

variable {s u : State} {p : PortIx} {q id line edge : Byte} {i : Fin 8} {g : GroupEntry} {r : Reply}

theorem exec_groupCreate (ht : s.takes p 0x0C q [] = true) (ho : (s.session p).state = .opened)
    (h : (s.arrived p).groupCreateRequest p [] = (u, r)) : exec (.groupCreate p q []) s = .next (u.replied p 0x0C q r) :=
  exec_open rfl (by decide) (by decide) (by decide) ho ht h

theorem exec_groupArm (ht : s.takes p 0x0D q [id] = true) (ho : (s.session p).state = .opened)
    (h : (s.arrived p).groupArmRequest p [id] = (u, r)) : exec (.groupArm p q [id]) s = .next (u.replied p 0x0D q r) :=
  exec_open rfl (by decide) (by decide) (by decide) ho ht h

theorem exec_groupFire (ht : s.takes p 0x0E q [id] = true) (ho : (s.session p).state = .opened)
    (h : (s.arrived p).groupFireRequest p [id] = (u, r)) : exec (.groupFire p q [id]) s = .next (u.replied p 0x0E q r) :=
  exec_open rfl (by decide) (by decide) (by decide) ho ht h

theorem exec_groupBind (ht : s.takes p 0x0F q [id, line, edge] = true) (ho : (s.session p).state = .opened)
    (h : (s.arrived p).groupBindRequest p [id, line, edge] = (u, r)) :
    exec (.groupBind p q [id, line, edge]) s = .next (u.replied p 0x0F q r) :=
  exec_open rfl (by decide) (by decide) (by decide) ho ht h

theorem exec_groupDelete (ht : s.takes p 0x10 q [id] = true) (ho : (s.session p).state = .opened)
    (h : (s.arrived p).groupDeleteRequest p [id] = (u, r)) : exec (.groupDelete p q [id]) s = .next (u.replied p 0x10 q r) :=
  exec_open rfl (by decide) (by decide) (by decide) ho ht h

/-! ### The checks that the group requests share (R105) -/

theorem State.ownedGroup_unknown (h : s.findGroup id = none) : s.ownedGroup p id = .error .unknownId := by
  rw [State.ownedGroup, h]

theorem State.ownedGroup_other (h : s.findGroup id = some (i, g)) (hn : g.owner ≠ p) :
    s.ownedGroup p id = .error .wrongOwner := by
  simp only [State.ownedGroup, h]
  exact if_pos hn

theorem State.ownedGroup_own (h : s.findGroup id = some (i, g)) (ho : g.owner = p) : s.ownedGroup p id = .ok (i, g) := by
  simp only [State.ownedGroup, h]
  exact if_neg (not_not.mpr ho)

section refused

variable {e : ReplyStatus} (h : s.ownedGroup p id = .error e)
include h

theorem State.groupArmRequest_refused : s.groupArmRequest p [id] = (s, answer e) := by
  simp only [State.groupArmRequest, parseByte, h]

theorem State.groupFireRequest_refused : s.groupFireRequest p [id] = (s, answer e) := by
  simp only [State.groupFireRequest, parseByte, h]

theorem State.groupBindRequest_refused : s.groupBindRequest p [id, line, edge] = (s, answer e) := by
  simp only [State.groupBindRequest, parseBind, h]

theorem State.groupDeleteRequest_refused : s.groupDeleteRequest p [id] = (s, answer e) := by
  simp only [State.groupDeleteRequest, parseByte, h]

end refused

/-! ### The rows of the owner -/

section own

variable (h : s.ownedGroup p id = .ok (i, g))
include h

theorem State.groupArmRequest_armed (armed : g.state = .armed) : s.groupArmRequest p [id] = (s, answer .wrongState) := by
  simp only [State.groupArmRequest, parseByte, h, armed]

theorem State.groupArmRequest_collecting (collecting : g.state = .collecting) :
    s.groupArmRequest p [id] = (s.putGroup i { g with state := .armed }, answer .ok) := by
  simp only [State.groupArmRequest, parseByte, h, collecting]

theorem State.groupFireRequest_own : s.groupFireRequest p [id] = (s.fire i g .request,
    [statusByte .ok, byteOf (s.firedCount g.staged), byteOf (g.staged.length - s.firedCount g.staged)]) := by
  simp only [State.groupFireRequest, parseByte, h]

theorem State.groupDeleteRequest_own : s.groupDeleteRequest p [id] = (s.deleteGroup i g,
    statusByte .ok :: byteOf g.staged.length :: be16 (g.report.elim 0 FireReport.fires)) := by
  simp only [State.groupDeleteRequest, parseByte, h]

theorem State.groupBindRequest_unbind :
    s.groupBindRequest p [id, 0, edge] = (s.putGroup i { g with binding := none }, answer .ok) := by
  simp only [State.groupBindRequest, parseBind, h, if_true]

/-- The number by which a request names a trigger line (section 12.2). -/
def lineNumber : TriggerLine → Byte
  | .t0 => 1
  | .t1 => 2

theorem State.groupBindRequest_line (l : TriggerLine) :
    s.groupBindRequest p [id, lineNumber l, edge] = s.bindLine i g l edge := by
  simp only [State.groupBindRequest, parseBind, h]
  cases l
  · rfl
  · rfl

theorem State.groupBindRequest_noLine (h2 : 2 < line.toNat) :
    s.groupBindRequest p [id, line, edge] = (s, answer .badField) := by
  have ne {n : Byte} (hn : n.toNat ≤ 2) : line ≠ n := by
    rintro rfl
    omega
  simp only [State.groupBindRequest, parseBind, h]
  rw [if_neg (ne (by decide)), if_neg (ne (by decide)), if_neg (ne (by decide))]

end own

/-! ### The binding of a line (R103, R108) -/

theorem exists_lineNumber (h0 : line ≠ 0) (h2 : line.toNat ≤ 2) : ∃ l, line = lineNumber l := by
  have h : line.toNat ≠ 0 := fun h => h0 (BitVec.eq_of_toNat_eq h)
  obtain h1 | h1 : line.toNat = 1 ∨ line.toNat = 2 := by omega
  · exact ⟨.t0, BitVec.eq_of_toNat_eq h1⟩
  · exact ⟨.t1, BitVec.eq_of_toNat_eq h1⟩

/-- The number by which a request names an edge (section 12.2). -/
def edgeNumber : Edge → Byte
  | .rising => 0
  | .falling => 1
  | .both => 2

theorem edgeOf_edgeNumber (e : Edge) : edgeOf (edgeNumber e) = some e := by cases e <;> rfl

theorem edgeOf_none (h2 : 2 < edge.toNat) : edgeOf edge = none := by
  have ne {n : Byte} (hn : n.toNat ≤ 2) : edge ≠ n := by
    rintro rfl
    omega
  rw [edgeOf, if_neg (ne (by decide)), if_neg (ne (by decide)), if_neg (ne (by decide))]

/-- An entry that the search finds is bound to the line. -/
theorem State.boundGroup_some {l : TriggerLine} (h : s.boundGroup l = some i) :
    ∃ x, s.group i = some x ∧ ∃ y, x.binding = some y ∧ y.line = l := by
  obtain ⟨bound, -⟩ := find?_finRange_eq_some.mp h
  obtain ⟨x, hx, hb⟩ := Option.any_eq_true _ _ |>.mp bound
  obtain ⟨y, hy, hl⟩ := Option.any_eq_true _ _ |>.mp hb
  exact ⟨x, hx, y, hy, of_decide_eq_true hl⟩

theorem State.bindLine_badField (l : TriggerLine) (h2 : 2 < edge.toNat) : s.bindLine i g l edge = (s, answer .badField) := by
  rw [State.bindLine, edgeOf_none h2]

theorem State.bindLine_bound {l : TriggerLine} {e : Edge} (free : ∀ j, s.boundGroup l = some j → j = i) :
    s.bindLine i g l (edgeNumber e) = (s.putGroup i { g with binding := some { line := l, edge := e } }, answer .ok) := by
  rw [State.bindLine, edgeOf_edgeNumber]
  refine if_neg fun h => ?_
  obtain ⟨j, hj, hne⟩ := Option.any_eq_true _ _ |>.mp h
  exact of_decide_eq_true hne (free j hj)

theorem State.bindLine_inUse {l : TriggerLine} {e : Edge} {j : Fin 8} (hj : s.boundGroup l = some j) (hne : j ≠ i) :
    s.bindLine i g l (edgeNumber e) = (s, answer .inUse) := by
  rw [State.bindLine, edgeOf_edgeNumber]
  exact if_pos (by rw [hj]; exact decide_eq_true hne)

end requests

/-! ### A fire (R110 to R112) -/

theorem toNat_satOf (n : Nat) : (satOf n).toNat = min n 65535 := by
  rw [satOf, BitVec.toNat_ofNat]
  omega

theorem toNat_satInc (c : Half) : (satInc c).toNat = min (c.toNat + 1) 65535 := by
  unfold satInc
  split
  case isTrue h =>
    subst h
    rfl
  case isFalse h =>
    have := c.isLt
    have : c.toNat ≠ 65535 := fun h' => h (BitVec.eq_of_toNat_eq h')
    rw [BitVec.toNat_add]
    change (c.toNat + 1) % 2 ^ 16 = _
    omega

section fire

variable {s : State} {i : Fin 64} {r : Record}

theorem State.fireRecord_enabled (hr : s.record i = some r) (on : (s.bus r.bus).config.enabled = true) :
    s.fireRecord i = (s.putRecord i { r with
      state := .queued
      entryTime := some s.clock
      deadlineTime := r.deadline.map (addTime s.clock) }).join r.bus (.record i) := by
  rw [State.fireRecord, hr]
  exact if_pos on

theorem State.fireRecord_disabled (hr : s.record i = some r) (off : (s.bus r.bus).config.enabled = false) :
    s.fireRecord i = s.finishWithoutAttempt i .busOff := by
  rw [State.fireRecord, hr]
  exact if_neg (by rw [State.enabled, off]; decide)

end fire

/-! ### TRIGGER_EDGE (R109) -/

section edge

variable {s : State} {l : TriggerLine} {up : Bool} {i : Fin 8} {g : GroupEntry} {x : Binding}

theorem exec_triggerEdge (h : s.level l ≠ up) : exec (.triggerEdge l up) s = .next ((s.setLevel l up).edge l up).settle := by
  change Host.Outcome.next (s.sampleLine l up).settle = _
  rw [State.sampleLine, if_neg h]

theorem State.setLevel_boundGroup (s : State) (l k : TriggerLine) (up : Bool) :
    (s.setLevel l up).boundGroup k = s.boundGroup k := by cases l <;> rfl

theorem State.setLevel_firedCount (s : State) (l : TriggerLine) (up : Bool) (staged : List (Fin 64)) :
    (s.setLevel l up).firedCount staged = s.firedCount staged := by cases l <;> rfl

theorem Edge.selects_iff {e : Edge} {up : Bool} :
    e.selects up = true ↔ e = .both ∨ e = (if up = true then .rising else .falling) := by
  cases e <;> cases up <;> decide

theorem Edge.not_selects {up : Bool} : (if up = true then Edge.falling else Edge.rising).selects up = false := by
  cases up <;> rfl

theorem State.edge_unbound (h : s.boundGroup l = none) : s.edge l up = s := by rw [State.edge, h]

variable (h : s.boundGroup l = some i) (hg : s.group i = some g) (hx : g.binding = some x)
include h hg hx

theorem State.edge_unselected (hs : x.edge.selects up = false) : s.edge l up = s := by
  simp only [State.edge, h, hg]
  exact if_neg (by rw [hx, Option.any_some, hs]; decide)

theorem State.edge_armed (hs : x.edge.selects up = true) (armed : g.state = .armed) : s.edge l up = s.fire i g (.line l) := by
  simp only [State.edge, h, hg, hx, Option.any_some, hs, armed, if_true]

theorem State.edge_collecting (hs : x.edge.selects up = true) (collecting : g.state = .collecting) :
    s.edge l up = s.putGroup i { g with ignored := satInc g.ignored } := by
  simp only [State.edge, h, hg, hx, Option.any_some, hs, collecting, if_true]

end edge

end Sys2Proof.Machine

namespace Sys2Proof.Proofs

open Sys2Proof Sys2Proof.Machine

/-- Settles O39: GROUP_CREATE by the slots that are FREE, GROUP_ARM by the entry's owner and state. -/
theorem groupCreateAndArm : Obligations.GroupCreateAndArm := by
  unfold Obligations.GroupCreateAndArm
  refine ⟨fun s p q ht ho => ⟨fun i free => exec_groupCreate ht ho ?_, fun full => exec_groupCreate ht ho ?_⟩,
    fun s p q id ht ho => ⟨fun h => ?_, fun i g h => ⟨fun hn => ?_, fun own armed => ?_, fun own collecting => ?_⟩⟩⟩
  · rw [State.groupCreateRequest, if_neg (by decide), show lowestFree (s.arrived p).groups = some i from free]
    rfl
  · rw [State.groupCreateRequest, if_neg (by decide), show lowestFree (s.arrived p).groups = none from full]
    rfl
  · exact exec_groupArm ht ho (State.groupArmRequest_refused (State.ownedGroup_unknown (s := s.arrived p) h))
  · exact exec_groupArm ht ho (State.groupArmRequest_refused (State.ownedGroup_other (s := s.arrived p) h hn))
  · exact exec_groupArm ht ho (State.groupArmRequest_armed (State.ownedGroup_own (s := s.arrived p) h own) armed)
  · exact exec_groupArm ht ho (State.groupArmRequest_collecting (State.ownedGroup_own (s := s.arrived p) h own) collecting)

/-- Settles O40: GROUP_BIND by the line it names and the entry that the line is bound to. -/
theorem groupBind : Obligations.GroupBind := by
  unfold Obligations.GroupBind
  refine ⟨fun s p q id line edge ht ho => ⟨fun h => ?_, fun i g h hn => ?_⟩,
    fun s p q id line edge i g ht ho h own => ⟨?_, fun h2 => ?_, fun h0 h2 he => ?_, fun l e hl he => ⟨fun free => ?_, fun hb hne => ?_⟩⟩⟩
  · exact exec_groupBind ht ho (State.groupBindRequest_refused (State.ownedGroup_unknown (s := s.arrived p) h))
  · exact exec_groupBind ht ho (State.groupBindRequest_refused (State.ownedGroup_other (s := s.arrived p) h hn))
  all_goals have found := State.ownedGroup_own (s := s.arrived p) h own
  · rintro rfl
    exact exec_groupBind ht ho (State.groupBindRequest_unbind found)
  · exact exec_groupBind ht ho (State.groupBindRequest_noLine found h2)
  · obtain ⟨l, rfl⟩ := exists_lineNumber h0 h2
    exact exec_groupBind ht ho ((State.groupBindRequest_line found l).trans (State.bindLine_badField l he))
  all_goals
    obtain rfl : line = lineNumber l := by rw [hl]; cases l <;> rfl
    obtain rfl : edge = edgeNumber e := by rw [he]; cases e <;> rfl
  · refine exec_groupBind ht ho ((State.groupBindRequest_line found l).trans (State.bindLine_bound fun j hj => ?_))
    by_contra hji
    obtain ⟨x, hx, y, hy, line⟩ := State.boundGroup_some hj
    exact free j x hji hx y hy line
  · obtain ⟨j, hj⟩ := Option.ne_none_iff_exists'.mp hb
    have hji : j ≠ i := fun heq => hne (heq ▸ hj)
    exact exec_groupBind ht ho ((State.groupBindRequest_line found l).trans (State.bindLine_inUse (s := s.arrived p) hj hji))

/-- Settles O41: one fire, by request or by a selected edge, its records and its report. -/
theorem fireReleasesTheStagedList : Obligations.FireReleasesTheStagedList := by
  unfold Obligations.FireReleasesTheStagedList
  refine ⟨fun s p q id ht ho => ⟨fun h => ?_, fun i g h hn => ?_⟩,
    fun queued ended source time count old new hnew => ?_,
    fun s i r hr => ⟨State.fireRecord_enabled hr, State.fireRecord_disabled hr⟩,
    fun s p q id i g queued ht ho h own hq => ?_,
    fun s l up i g x queued hl hb hg hx he armed hq => ?_, fun s l up i g x hl hb hg hx he collecting => ?_,
    fun s l up i g x hl hb hg hx he => ?_, fun s l up hl hb => ?_⟩
  · exact exec_groupFire ht ho (State.groupFireRequest_refused (State.ownedGroup_unknown (s := s.arrived p) h))
  · exact exec_groupFire ht ho (State.groupFireRequest_refused (State.ownedGroup_other (s := s.arrived p) h hn))
  · subst hnew
    cases old with
    | none => exact ⟨rfl, rfl, rfl, fun _ => ⟨toNat_satOf _, toNat_satOf _, rfl⟩, nofun⟩
    | some f =>
      refine ⟨rfl, rfl, rfl, nofun, fun f' hf => ?_⟩
      cases hf
      simp only [mergeFire, satAdd, toNat_satOf, toNat_satInc]
      exact ⟨by omega, by omega, trivial⟩
  · subst hq
    exact exec_groupFire ht ho (State.groupFireRequest_own (State.ownedGroup_own (s := s.arrived p) h own))
  · subst hq
    rw [exec_triggerEdge hl, State.edge_armed ((State.setLevel_boundGroup ..).trans hb) ((State.setLevel_group ..).trans hg) hx
      (Edge.selects_iff.mpr he) armed, State.fire, State.setLevel_firedCount, State.setLevel_clock]
    rfl
  · rw [exec_triggerEdge hl, State.edge_collecting ((State.setLevel_boundGroup ..).trans hb) ((State.setLevel_group ..).trans hg)
      hx (Edge.selects_iff.mpr he) collecting]
  · rw [exec_triggerEdge hl, State.edge_unselected ((State.setLevel_boundGroup ..).trans hb) ((State.setLevel_group ..).trans hg)
      hx (he ▸ Edge.not_selects)]
  · rw [exec_triggerEdge hl, State.edge_unbound ((State.setLevel_boundGroup ..).trans hb)]

/-- Settles O42: the refusals, and the deletion by the owner. -/
theorem groupDelete : Obligations.GroupDelete := by
  unfold Obligations.GroupDelete
  refine ⟨fun s p q id ht ho => ⟨fun h => ?_, fun i g h hn => ?_⟩, fun s p q id i g ht ho h own => ?_⟩
  · exact exec_groupDelete ht ho (State.groupDeleteRequest_refused (State.ownedGroup_unknown (s := s.arrived p) h))
  · exact exec_groupDelete ht ho (State.groupDeleteRequest_refused (State.ownedGroup_other (s := s.arrived p) h hn))
  · rw [exec_groupDelete ht ho (State.groupDeleteRequest_own (State.ownedGroup_own (s := s.arrived p) h own)),
      State.deleteGroup, own]
    cases g.report <;> rfl

end Sys2Proof.Proofs
end

section
/-! PROOF. The requests of watches (chapter 7): WATCH_ADD, WATCH_RESUME and WATCH_REMOVE. -/

namespace Sys2Proof.Machine

theorem State.takes_length {s : State} {p : PortIx} {kind q : Byte} {body : List Byte} (h : s.takes p kind q body = true) :
    body.length ≤ 96 := by
  simp only [State.takes, Bool.and_eq_true] at h
  exact of_decide_eq_true h.1.1.1

/-! ### The layout of a WATCH_ADD body (section 12.3) -/

theorem parseWatchAdd_none {body : List Byte} (h : body.length < 6 ∨ ∃ x a pc len ph pl rest,
    body = x :: a :: pc :: len :: ph :: pl :: rest ∧ rest.length ≠ pc.toNat + len.toNat) : parseWatchAdd body = none := by
  unfold parseWatchAdd
  split
  · rw [if_neg]
    rintro ok
    obtain short | ⟨x, a, pc, len, ph, pl, rest, heq, bad⟩ := h
    · simp only [List.length_cons] at short
      omega
    · cases heq
      exact bad ok
  · rfl

/-- The body of a WATCH_ADD that asks for these pointer bytes and this mask. -/
def watchAddBody (x a ph pl : Byte) (pointer mask : List Byte) : List Byte :=
  [x, a, BitVec.ofNat 8 pointer.length, BitVec.ofNat 8 mask.length, ph, pl] ++ pointer ++ mask

theorem parseWatchAdd_body {x a ph pl : Byte} {pointer mask : List Byte} (h : (watchAddBody x a ph pl pointer mask).length ≤ 96) :
    parseWatchAdd (watchAddBody x a ph pl pointer mask) =
      some { bus := x, addr := a, pointer := pointer, mask := mask, period := ph ++ pl } := by
  simp only [watchAddBody, List.length_append, List.length_cons, List.length_nil] at h
  have hp : (BitVec.ofNat 8 pointer.length : Byte).toNat = pointer.length := toNat_ofNat_byte (by omega)
  have hm : (BitVec.ofNat 8 mask.length : Byte).toNat = mask.length := toNat_ofNat_byte (by omega)
  simp only [watchAddBody, List.cons_append, List.nil_append, parseWatchAdd, hp, hm, List.length_append, if_true,
    List.take_left', List.drop_left', half]

/-! ### WATCH_ADD (R118) -/

theorem exec_watchAdd_malformed {c : Instr} {s : State} {p : PortIx} {q : Byte} {body : List Byte}
    (hf : frameOf c = some (p, 0x11, q, body)) (ht : s.takes p 0x11 q body = true) (ho : (s.session p).state = .opened)
    (h : parseWatchAdd body = none) : exec c s = .next ((s.arrived p).replied p 0x11 q (answer .malformed)) := by
  refine exec_open hf (by decide) (by decide) (by decide) ho ht ?_
  change (s.arrived p).watchAddRequest p body = _
  rw [State.watchAddRequest, h]

theorem exec_watchAdd {s u : State} {p : PortIx} {q x a ph pl : Byte} {pointer mask : List Byte} {r : Reply}
    (ht : s.takes p 0x11 q (watchAddBody x a ph pl pointer mask) = true) (ho : (s.session p).state = .opened)
    (h : (s.arrived p).watchAddFields p { bus := x, addr := a, pointer := pointer, mask := mask, period := ph ++ pl } = (u, r)) :
    exec (.watchAdd p q (watchAddBody x a ph pl pointer mask)) s = .next (u.replied p 0x11 q r) := by
  refine exec_open rfl (by decide) (by decide) (by decide) ho ht ?_
  change (s.arrived p).watchAddRequest p _ = _
  rw [State.watchAddRequest, parseWatchAdd_body (State.takes_length ht)]
  exact h

section watchAdd

variable {s : State} {p : PortIx} {b : BusIx} {x : WatchBody}

theorem State.watchAddFields_badBus (h : 3 < x.bus.toNat) : s.watchAddFields p x = (s, answer .badBus) := by
  rw [State.watchAddFields, busOf_none h]

theorem State.watchAddFields_busOff (hb : x.bus.toNat = b.val) (off : (s.bus b).config.enabled = false) :
    s.watchAddFields p x = (s, answer .busOff) := by
  rw [State.watchAddFields, busOf_of_toNat hb]
  exact if_pos (by rw [State.enabled, off]; rfl)

section enabled

variable (hb : x.bus.toNat = b.val) (on : (s.bus b).config.enabled = true)
include hb on

theorem State.watchAddFields_badAddress (h : addressAllowed (s.bus b).config.own x.addr = false) :
    s.watchAddFields p x = (s, answer .badAddress) := by
  rw [State.watchAddFields, busOf_of_toNat hb]
  exact (if_neg (by rw [State.enabled, on]; decide)).trans (if_pos (by rw [h]; rfl))

variable (allowed : addressAllowed (s.bus b).config.own x.addr = true)
include allowed

theorem State.watchAddFields_allowed : s.watchAddFields p x =
    if 2 < x.pointer.length ∨ x.mask.length = 0 ∨ 4 < x.mask.length then (s, answer .badLength)
    else if x.period.toNat < 10 ∨ 60000 < x.period.toNat then (s, answer .badField)
    else
      match lowestFree s.watches with
      | none => (s, answer .noRoom)
      | some i => (s.putWatch i (newWatch p b (x.addr.setWidth 7) x s.clock), [statusByte .ok, s.watchId i]) := by
  rw [State.watchAddFields, busOf_of_toNat hb]
  exact (if_neg (by rw [State.enabled, on]; decide)).trans (if_neg (by rw [allowed]; decide))

theorem State.watchAddFields_badLength (h : 2 < x.pointer.length ∨ x.mask.length = 0 ∨ 4 < x.mask.length) :
    s.watchAddFields p x = (s, answer .badLength) :=
  (State.watchAddFields_allowed hb on allowed).trans (if_pos h)

variable (lengths : ¬(2 < x.pointer.length ∨ x.mask.length = 0 ∨ 4 < x.mask.length))
include lengths

theorem State.watchAddFields_badField (h : x.period.toNat < 10 ∨ 60000 < x.period.toNat) :
    s.watchAddFields p x = (s, answer .badField) :=
  (State.watchAddFields_allowed hb on allowed).trans ((if_neg lengths).trans (if_pos h))

variable (period : ¬(x.period.toNat < 10 ∨ 60000 < x.period.toNat))
include period

theorem State.watchAddFields_noRoom (full : lowestFree s.watches = none) : s.watchAddFields p x = (s, answer .noRoom) := by
  rw [State.watchAddFields_allowed hb on allowed, if_neg lengths, if_neg period, full]

theorem State.watchAddFields_added {i : Fin 12} (free : lowestFree s.watches = some i) : s.watchAddFields p x =
    (s.putWatch i (newWatch p b (x.addr.setWidth 7) x s.clock), [statusByte .ok, s.watchId i]) := by
  rw [State.watchAddFields_allowed hb on allowed, if_neg lengths, if_neg period, free]

end enabled

end watchAdd

/-! ### WATCH_RESUME and WATCH_REMOVE (R119, R125, R126) -/

section owned

variable {s u : State} {p : PortIx} {q id : Byte} {i : Fin 12} {w : Watch} {r : Reply}

theorem exec_watchResume (ht : s.takes p 0x13 q [id] = true) (ho : (s.session p).state = .opened)
    (h : (s.arrived p).watchResumeRequest p [id] = (u, r)) : exec (.watchResume p q [id]) s = .next (u.replied p 0x13 q r) :=
  exec_open rfl (by decide) (by decide) (by decide) ho ht h

theorem exec_watchRemove (ht : s.takes p 0x12 q [id] = true) (ho : (s.session p).state = .opened)
    (h : (s.arrived p).watchRemoveRequest p [id] = (u, r)) : exec (.watchRemove p q [id]) s = .next (u.replied p 0x12 q r) :=
  exec_open rfl (by decide) (by decide) (by decide) ho ht h

theorem State.ownedWatch_unknown (h : s.findWatch id = none) : s.ownedWatch p id = .error .unknownId := by
  rw [State.ownedWatch, h]

theorem State.ownedWatch_other (h : s.findWatch id = some (i, w)) (hn : w.owner ≠ some p) :
    s.ownedWatch p id = .error .wrongOwner := by
  simp only [State.ownedWatch, h]
  exact if_pos hn

theorem State.ownedWatch_own (h : s.findWatch id = some (i, w)) (ho : w.owner = some p) : s.ownedWatch p id = .ok (i, w) := by
  simp only [State.ownedWatch, h]
  exact if_neg (not_not.mpr ho)

theorem State.watchResumeRequest_refused {e : ReplyStatus} (h : s.ownedWatch p id = .error e) :
    s.watchResumeRequest p [id] = (s, answer e) := by
  simp only [State.watchResumeRequest, parseByte, h]

theorem State.watchRemoveRequest_refused {e : ReplyStatus} (h : s.ownedWatch p id = .error e) :
    s.watchRemoveRequest p [id] = (s, answer e) := by
  simp only [State.watchRemoveRequest, parseByte, h]

theorem State.watchResumeRequest_own (h : s.ownedWatch p id = .ok (i, w)) : s.watchResumeRequest p [id] =
    if w.state ≠ .suspended then (s, answer .wrongState)
    else (s.putWatch i { w with state := .running, failures := 0, nextPeriod := some (addTime s.clock w.period) },
      answer .ok) := by
  simp only [State.watchResumeRequest, parseByte, h]

theorem State.watchRemoveRequest_own (h : s.ownedWatch p id = .ok (i, w)) : s.watchRemoveRequest p [id] =
    if w.state = .removing then (s, answer .wrongState)
    else (s.removeWatch i w w.owner, [statusByte .ok, flagByte (decide (w.read = .active))]) := by
  simp only [State.watchRemoveRequest, parseByte, h]

theorem State.putWatch_putWatch (s : State) (i : Fin 12) (v w : Watch) : (s.putWatch i v).putWatch i w = s.putWatch i w := by
  simp [State.putWatch]

theorem State.putWatch_freeWatch (s : State) (i : Fin 12) (w : Watch) : (s.putWatch i w).freeWatch i = s.freeWatch i := by
  simp [State.putWatch, State.freeWatch]

theorem State.discardWatchReports_own (ho : w.owner = some p) : s.discardWatchReports i w =
    (s.putWatch i { w with valueReport := none, suspensionReport := none, suspensionFirst := false }).dropSource p (.watch i) := by
  rw [State.discardWatchReports, ho]

/-- A watch whose read is on the bus is kept, REMOVING, until the read ends (R126). -/
theorem State.removeWatch_active (ho : w.owner = some p) (active : w.read = .active) :
    s.removeWatch i w w.owner = (s.putWatch i { w with
      state := .removing
      nextPeriod := none
      valueReport := none
      suspensionReport := none
      suspensionFirst := false }).dropSource p (.watch i) := by
  have held (v : Watch) : ((s.putWatch i v).dropSource p (.watch i)).watch i = some v :=
    (State.putWatch_watch s i i v).trans (if_pos rfl)
  rw [State.removeWatch]
  split
  next =>
    rw [State.discardWatchReports_own ho, State.modWatch, held]
    exact congrArg (fun u : State => u.dropSource p (.watch i)) (State.putWatch_putWatch s i _ _)
  next idle => exact absurd active idle

/-- Any other watch is freed at once, and its queued read leaves the queue (R126). -/
theorem State.removeWatch_idle (ho : w.owner = some p) (idle : w.read ≠ .active) :
    s.removeWatch i w w.owner = ((s.dropSource p (.watch i)).dequeueWatch w.bus i).freeWatch i := by
  have freed (v : Watch) : (((s.putWatch i v).dropSource p (.watch i)).dequeueWatch w.bus i).freeWatch i =
      ((s.dropSource p (.watch i)).dequeueWatch w.bus i).freeWatch i :=
    State.putWatch_freeWatch ((s.dropSource p (.watch i)).dequeueWatch w.bus i) i v
  rw [State.removeWatch]
  split
  next active => exact absurd active idle
  next => rw [State.discardWatchReports_own ho, freed]

end owned

end Sys2Proof.Machine

namespace Sys2Proof.Proofs

open Sys2Proof Sys2Proof.Machine

/-- Settles O43: the checks of WATCH_ADD in order, and WATCH_RESUME by the entry's owner and state. -/
theorem watchAddAndResume : Obligations.WatchAddAndResume := by
  unfold Obligations.WatchAddAndResume
  refine ⟨fun c s p q body hf ht ho h => exec_watchAdd_malformed hf ht ho (parseWatchAdd_none h),
    fun s p q id ht ho => ⟨fun h => ?_, fun i w h hn => ?_⟩,
    ⟨fun s p q x a ph pl pointer mask b body hbody ht ho hb on a1 a2 own hp m1 m2 t1 t2 => ?_,
      fun s p q id i w ht ho h own => ⟨fun hst => ?_, fun hst => ?_⟩⟩,
    fun s p q x a ph pl pointer mask body hbody ht ho => ?_⟩
  · exact exec_watchResume ht ho (State.watchResumeRequest_refused (State.ownedWatch_unknown (s := s.arrived p) h))
  · exact exec_watchResume ht ho (State.watchResumeRequest_refused (State.ownedWatch_other (s := s.arrived p) h hn))
  · subst hbody
    have allowed : addressAllowed (s.bus b).config.own a = true := (addressAllowed_iff _ a).mpr ⟨a1, a2, own⟩
    have lengths : ¬(2 < pointer.length ∨ mask.length = 0 ∨ 4 < mask.length) := by omega
    have period : ¬((ph ++ pl).toNat < 10 ∨ 60000 < (ph ++ pl).toNat) := by omega
    refine ⟨fun i free => exec_watchAdd ht ho ?_, fun full => exec_watchAdd ht ho ?_⟩
    · exact State.watchAddFields_added (s := s.arrived p)
        (x := { bus := x, addr := a, pointer := pointer, mask := mask, period := ph ++ pl }) hb on allowed lengths period free
    · exact State.watchAddFields_noRoom (s := s.arrived p)
        (x := { bus := x, addr := a, pointer := pointer, mask := mask, period := ph ++ pl }) hb on allowed lengths period full
  · exact exec_watchResume ht ho ((State.watchResumeRequest_own (State.ownedWatch_own (s := s.arrived p) h own)).trans
      (if_pos hst))
  · exact exec_watchResume ht ho ((State.watchResumeRequest_own (State.ownedWatch_own (s := s.arrived p) h own)).trans
      (if_neg (not_not.mpr hst)))
  · subst hbody
    refine ⟨fun hx => ?_, fun b hb => ⟨fun off => ?_, fun on => ⟨fun bad => ?_, fun a1 a2 own => ?_⟩⟩⟩
    · exact exec_watchAdd ht ho (State.watchAddFields_badBus hx)
    · exact exec_watchAdd ht ho (State.watchAddFields_busOff (b := b) hb off)
    · have refused : addressAllowed (s.bus b).config.own a = false := by
        refine Bool.eq_false_iff.mpr fun h => ?_
        obtain ⟨a1, a2, own⟩ := (addressAllowed_iff _ a).mp h
        obtain bad | bad | bad := bad
        · omega
        · omega
        · exact own bad
      exact exec_watchAdd ht ho (State.watchAddFields_badAddress (b := b) hb on refused)
    · have allowed : addressAllowed (s.bus b).config.own a = true := (addressAllowed_iff _ a).mpr ⟨a1, a2, own⟩
      refine ⟨fun bad => ?_, fun hp m1 m2 bad => ?_⟩
      · rw [← List.length_eq_zero_iff] at bad
        exact exec_watchAdd ht ho (State.watchAddFields_badLength (b := b) hb on allowed bad)
      · exact exec_watchAdd ht ho (State.watchAddFields_badField (b := b) hb on allowed (by dsimp only; omega) bad)

/-- Settles O44: WATCH_REMOVE by the entry's owner, its state and its read. -/
theorem watchRemove : Obligations.WatchRemove := by
  unfold Obligations.WatchRemove
  refine ⟨fun s p q id ht ho => ⟨fun h => ?_, fun i w h hn => ?_⟩,
    fun s p q id i w ht ho h own => ⟨fun hst => ?_, fun hst active => ?_, fun hst idle => ?_⟩⟩
  · exact exec_watchRemove ht ho (State.watchRemoveRequest_refused (State.ownedWatch_unknown (s := s.arrived p) h))
  · exact exec_watchRemove ht ho (State.watchRemoveRequest_refused (State.ownedWatch_other (s := s.arrived p) h hn))
  all_goals have found := State.watchRemoveRequest_own (State.ownedWatch_own (s := s.arrived p) h own)
  · exact exec_watchRemove ht ho (found.trans (if_pos hst))
  · rw [exec_watchRemove ht ho (found.trans (if_neg hst)), State.removeWatch_active own active, decide_eq_true active]
    rfl
  · rw [exec_watchRemove ht ho (found.trans (if_neg hst)), State.removeWatch_idle own idle, decide_eq_false idle]
    rfl

end Sys2Proof.Proofs
end

section
/-! PROOF. The requests of the target unit (chapter 8): TARGET_OWN and TARGET_LOAD; and BUS_RECOVER (chapter 4). -/

namespace Sys2Proof.Machine

/-! ### TARGET_OWN (R132, R141) -/

section own

variable {c : Instr} {s u : State} {p : PortIx} {q x on : Byte} {b : BusIx} {r : Reply}

theorem exec_targetOwn (hf : frameOf c = some (p, 0x14, q, [x, on])) (ht : s.takes p 0x14 q [x, on] = true)
    (ho : (s.session p).state = .opened) (h : (s.arrived p).targetOwnRequest p [x, on] = (u, r)) :
    exec c s = .next (u.replied p 0x14 q r) :=
  exec_open hf (by decide) (by decide) (by decide) ho ht h

theorem State.targetOwnRequest_badBus (h : 3 < x.toNat) : s.targetOwnRequest p [x, on] = (s, answer .badBus) := by
  simp only [State.targetOwnRequest, parseOwn, busOf_none h]

theorem State.targetOwnRequest_badField (hb : busOf x = some b) (h : 1 < on.toNat) :
    s.targetOwnRequest p [x, on] = (s, answer .badField) := by
  have ne {n : Byte} (hn : n.toNat ≤ 1) : on ≠ n := by
    rintro rfl
    omega
  simp only [State.targetOwnRequest, parseOwn, hb]
  rw [if_neg (ne (by decide)), if_neg (ne (by decide))]

theorem State.targetOwnRequest_taken (hb : busOf x = some b) (free : (s.bus b).target.owner = none) :
    s.targetOwnRequest p [x, 1] = (s.modTarget b fun t => { t with owner := some p }, answer .ok) := by
  simp only [State.targetOwnRequest, parseOwn, hb, free]
  rfl

theorem State.targetOwnRequest_owned {o : PortIx} (hb : busOf x = some b) (owned : (s.bus b).target.owner = some o) :
    s.targetOwnRequest p [x, 1] = if o = p then (s, answer .ok) else (s, answer .inUse) := by
  simp only [State.targetOwnRequest, parseOwn, hb, owned]
  rfl

theorem State.targetOwnRequest_off (hb : busOf x = some b) : s.targetOwnRequest p [x, 0] =
    if (s.bus b).target.owner = some p then (s.loseOwnership p b, answer .ok) else (s, answer .wrongOwner) := by
  simp only [State.targetOwnRequest, parseOwn, hb]
  rfl

theorem Target.markDiscard_eq (t : Target) : t.markDiscard = { t with discard := t.discard || t.inTransfer } := by
  unfold Target.markDiscard
  split
  next h => rw [h, Bool.or_true]
  next h => rw [Bool.eq_false_iff.mpr h, Bool.or_false]

theorem Target.filling_isSome (t : Target) : t.filling.isSome = decide (∃ k : Fin 4, t.slots[k].state = .filling) := by
  rw [Bool.eq_iff_iff, decide_eq_true_iff, ← not_iff_not, Bool.not_eq_true, Option.isSome_eq_false_iff,
    Option.isNone_iff_eq_none, Target.filling_none, not_exists]

theorem Target.loseOwner_discard (t : Target) : t.loseOwner.discard =
    (t.discard || (t.reading.isSome || decide (∃ k : Fin 4, t.slots[k].state = .filling))) := by
  have slots (k : Fin 4) : (t.slots.map fun (c : InSlot) => if c.state = InState.complete then InSlot.empty else c)[k].state
      = .filling ↔ t.slots[k].state = .filling := by
    simp only [Fin.getElem_fin, Vector.getElem_map]
    split
    next h => rw [h]; decide
    next => rfl
  rw [Target.loseOwner, Target.markDiscard_eq, Target.inTransfer, Target.filling_isSome, Bool.or_comm (decide _)]
  simp only [slots]

end own

/-! ### TARGET_LOAD (R139) -/

section load

variable {c : Instr} {s u : State} {p : PortIx} {q x mode : Byte} {b : BusIx} {bytes body : List Byte} {r : Reply}

theorem parseLoad_none (h : body.length < 3 ∨ ∃ x mode count bytes, body = x :: mode :: count :: bytes ∧
    bytes.length ≠ count.toNat) : parseLoad body = none := by
  unfold parseLoad
  split
  · refine if_neg fun ok => ?_
    obtain short | ⟨x, mode, count, bytes, heq, bad⟩ := h
    · simp only [List.length_cons] at short
      omega
    · cases heq
      exact bad ok
  · rfl

theorem exec_targetLoad_malformed (hf : frameOf c = some (p, 0x15, q, body)) (ht : s.takes p 0x15 q body = true)
    (ho : (s.session p).state = .opened) (h : parseLoad body = none) :
    exec c s = .next ((s.arrived p).replied p 0x15 q (answer .malformed)) := by
  refine exec_open hf (by decide) (by decide) (by decide) ho ht ?_
  change (s.arrived p).targetLoadRequest p body = _
  rw [State.targetLoadRequest, h]

/-- What a TARGET_LOAD answers, once its body is read (R139). -/
def State.load (s : State) (p : PortIx) (b : BusIx) (mode : Byte) (bytes : List Byte) : State × Reply :=
  if (s.bus b).target.owner ≠ some p then (s, answer .wrongOwner)
  else if 1 < mode.toNat then (s, answer .badField)
  else if Config.targetBytes < bytes.length then (s, answer .badLength)
  else if mode = 0 then s.loadReplace b bytes
  else s.loadAppend b bytes

section taken

variable (hf : frameOf c = some (p, 0x15, q, x :: mode :: BitVec.ofNat 8 bytes.length :: bytes))
  (ht : s.takes p 0x15 q (x :: mode :: BitVec.ofNat 8 bytes.length :: bytes) = true) (ho : (s.session p).state = .opened)
include hf ht ho

theorem exec_targetLoad (h : (s.arrived p).targetLoadRequest p (x :: mode :: BitVec.ofNat 8 bytes.length :: bytes) = (u, r)) :
    exec c s = .next (u.replied p 0x15 q r) :=
  exec_open hf (by decide) (by decide) (by decide) ho ht h

omit hf ho in
theorem parseLoad_taken : parseLoad (x :: mode :: BitVec.ofNat 8 bytes.length :: bytes) = some (x, mode, bytes) := by
  have fits := State.takes_length ht
  simp only [List.length_cons] at fits
  exact if_pos (toNat_ofNat_byte (by omega)).symm

theorem exec_targetLoad_badBus (h : 3 < x.toNat) : exec c s = .next ((s.arrived p).replied p 0x15 q (answer .badBus)) := by
  refine exec_targetLoad hf ht ho ?_
  simp only [State.targetLoadRequest, parseLoad_taken ht, busOf_none h]

theorem exec_load (hb : busOf x = some b) (h : (s.arrived p).load p b mode bytes = (u, r)) :
    exec c s = .next (u.replied p 0x15 q r) := by
  refine exec_targetLoad hf ht ho ?_
  simp only [State.targetLoadRequest, parseLoad_taken ht, hb]
  exact h

end taken

section load

variable (own : (s.bus b).target.owner = some p)
include own

theorem State.load_badField (h : 1 < mode.toNat) : s.load p b mode bytes = (s, answer .badField) :=
  (if_neg (not_not.mpr own)).trans (if_pos h)

theorem State.load_badLength (h : mode.toNat ≤ 1) (long : 32 < bytes.length) : s.load p b mode bytes = (s, answer .badLength) :=
  (if_neg (not_not.mpr own)).trans ((if_neg (not_lt.mpr h)).trans (if_pos long))

theorem State.load_replace (fits : bytes.length ≤ 32) : s.load p b 0 bytes = s.loadReplace b bytes :=
  (if_neg (not_not.mpr own)).trans ((if_neg (by decide)).trans ((if_neg (not_lt.mpr fits)).trans (if_pos rfl)))

theorem State.load_append (fits : bytes.length ≤ 32) : s.load p b 1 bytes = s.loadAppend b bytes :=
  (if_neg (not_not.mpr own)).trans ((if_neg (by decide)).trans ((if_neg (not_lt.mpr fits)).trans (if_neg (by decide))))

end load

theorem State.loadReplace_live (h : (s.bus b).target.reading = none) : s.loadReplace b bytes =
    (s.modTarget b fun t => { t with outbound := bytes }, [statusByte .ok, byteOf bytes.length]) :=
  if_neg (by rw [h]; decide)

theorem State.loadReplace_deferred (h : (s.bus b).target.reading ≠ none) : s.loadReplace b bytes =
    (s.modTarget b fun t => { t with deferred := some bytes }, [statusByte .deferred, byteOf bytes.length]) :=
  if_pos (Option.isSome_iff_ne_none.mpr h)

theorem State.loadAppend_live (h : (s.bus b).target.deferred = none) : s.loadAppend b bytes =
    if Config.targetBytes < (s.bus b).target.outbound.length + bytes.length then (s, answer .noRoom)
    else (s.modTarget b fun t => { t with outbound := t.outbound ++ bytes },
      [statusByte .ok, byteOf ((s.bus b).target.outbound.length + bytes.length)]) := by
  rw [State.loadAppend, h]
  rfl

theorem State.loadAppend_deferred {d : List Byte} (h : (s.bus b).target.deferred = some d) : s.loadAppend b bytes =
    if Config.targetBytes < d.length + bytes.length then (s, answer .noRoom)
    else (s.modTarget b fun t => { t with deferred := some (d ++ bytes) },
      [statusByte .deferred, byteOf (d.length + bytes.length)]) := by
  rw [State.loadAppend, h]

end load

/-! ### BUS_RECOVER (R80, R86) -/

section recover

variable {s u : State} {p : PortIx} {q x : Byte} {b : BusIx} {lines : Option Bool} {r : Reply}

theorem exec_busRecover (ht : s.takes p 0x17 q [x] = true) (ho : (s.session p).state = .opened)
    (h : (s.arrived p).busRecoverRequest [x] = (u, r)) :
    exec (.busRecover p q { bytes := [x], atEntry := lines }) s =
      .next ((u.respond p 0x17 q (replyTo 0x17 q r)).clockAtEntry s { bytes := [x], atEntry := lines }).settle := by
  have served : (s.arrived p).serve p 0x17 [x] = (u, r) :=
    (State.serve_open (s := s.arrived p) ho (by decide)).trans h
  have frame := State.requestFrame_takes ht
  rw [if_pos (by decide), served] at frame
  exact congrArg (fun t : State => Host.Outcome.next (t.clockAtEntry s _).settle) frame

/-- A refusal: no engine has moved, so the levels say nothing. -/
theorem exec_busRecover_refused (ht : s.takes p 0x17 q [x] = true) (ho : (s.session p).state = .opened)
    (h : (s.arrived p).busRecoverRequest [x] = (s.arrived p, r)) :
    exec (.busRecover p q { bytes := [x], atEntry := lines }) s = .next ((s.arrived p).replied p 0x17 q r) :=
  exec_open_refused rfl (by decide) (by decide) ho ht h

theorem State.busRecoverRequest_badBus (h : 3 < x.toNat) : s.busRecoverRequest [x] = (s, answer .badBus) := by
  simp only [State.busRecoverRequest, parseByte, busOf_none h]

variable (hb : busOf x = some b)
include hb

theorem State.busRecoverRequest_busOff (off : (s.bus b).config.enabled = false) :
    s.busRecoverRequest [x] = (s, answer .busOff) := by
  simp only [State.busRecoverRequest, parseByte, hb]
  exact if_pos (by rw [State.enabled, off]; rfl)

variable (on : (s.bus b).config.enabled = true)
include on

theorem State.busRecoverRequest_wrongState (h : (∃ a, (s.bus b).engine = .active a) ∨ (s.bus b).engine = .target ∨
    ∃ r, (s.bus b).engine = .recovery r) : s.busRecoverRequest [x] = (s, answer .wrongState) := by
  simp only [State.busRecoverRequest, parseByte, hb]
  rw [if_neg (by rw [State.enabled, on]; decide)]
  obtain ⟨a, h⟩ | h | ⟨r, h⟩ := h
  · rw [h]
  · rw [h]
  · rw [h]

theorem State.busRecoverRequest_enters (h : (s.bus b).engine = .idle ∨ (∃ w, (s.bus b).engine = .reserved w) ∨
    (s.bus b).engine = .fault) : s.busRecoverRequest [x] =
      ((s.enterRecovery b (decide ((s.bus b).engine = .fault)) none).endIfQuiet b, answer .ok) := by
  simp only [State.busRecoverRequest, parseByte, hb]
  rw [if_neg (by rw [State.enabled, on]; decide)]
  obtain h | ⟨w, h⟩ | h := h
  · simp [h]
  · simp [h]
  · simp [h]

end recover

section entry

variable {s : State} {b : BusIx}

theorem State.enterRecovery_modBus (fromFault : Bool) (lines : Option Bool) : s.enterRecovery b fromFault lines =
    s.modBus b fun x => { x with
      engine := .recovery { step := stepAtEntry lines, pulses := 0, fromFault := fromFault }
      following := false
      counters := { x.counters with recoveries := satInc x.counters.recoveries } } :=
  State.modBus_modBus ..

theorem State.enterRecovery_bus (fromFault : Bool) (lines : Option Bool) : (s.enterRecovery b fromFault lines).bus b =
    { s.bus b with
      engine := .recovery { step := stepAtEntry lines, pulses := 0, fromFault := fromFault }
      following := false
      counters := { (s.bus b).counters with recoveries := satInc (s.bus b).counters.recoveries } } := by
  rw [State.enterRecovery_modBus, State.modBus_bus, if_pos rfl]

theorem State.enterRecovery_setEngine (fromFault : Bool) (lines lines' : Option Bool) :
    (s.enterRecovery b fromFault lines).setEngine b
      (.recovery { step := stepAtEntry lines', pulses := 0, fromFault := fromFault }) = s.enterRecovery b fromFault lines' := by
  rw [State.setEngine, State.enterRecovery_modBus, State.enterRecovery_modBus, State.modBus_modBus]

/-- CLK high at the entry ends the wait for the clock at once (R80). -/
theorem State.recoveryRise_entered {fromFault : Bool} (busy : (s.bus b).line ≠ .free) (dat : Bool) :
    (s.enterRecovery b fromFault none).recoveryRise b dat = s.enterRecovery b fromFault (some dat) := by
  have engine : ((s.enterRecovery b fromFault none).bus b).engine =
      .recovery { step := .waitClock, pulses := 0, fromFault := fromFault } :=
    congrArg Bus.engine (State.enterRecovery_bus ..)
  have line : ((s.enterRecovery b fromFault none).bus b).line = (s.bus b).line := by rw [State.enterRecovery_bus]
  rw [State.recoveryRise, engine]
  dsimp only
  rw [if_neg (by decide), line]
  cases dat with
  | false => exact (if_pos rfl).trans (State.enterRecovery_setEngine fromFault none (some false))
  | true => exact (if_neg (by decide)).trans ((if_neg busy).trans (State.enterRecovery_setEngine fromFault none (some true)))

/-- On a FREE bus recovery ends in the event in which it begins (R80, R82). -/
theorem State.endIfQuiet_free {fromFault : Bool} (free : (s.bus b).line = .free) :
    (s.enterRecovery b fromFault none).endIfQuiet b =
      (if fromFault = true then (s.modBus b fun x => { x with
          engine := .idle
          following := false
          faultReason := none
          counters := { x.counters with recoveries := satInc x.counters.recoveries } }).offerBusEvent b (.recovered .released)
        else s.modBus b fun x => { x with
          engine := .idle
          following := false
          faultReason := none
          counters := { x.counters with recoveries := satInc x.counters.recoveries } }).wake b := by
  have engine : ((s.enterRecovery b fromFault none).bus b).engine =
      .recovery { step := .waitClock, pulses := 0, fromFault := fromFault } :=
    congrArg Bus.engine (State.enterRecovery_bus ..)
  have line : ((s.enterRecovery b fromFault none).bus b).line = .free := by rw [State.enterRecovery_bus, free]
  rw [State.endIfQuiet, if_pos line, State.recoveryRise, engine]
  dsimp only
  rw [if_neg (by decide), if_neg (by decide), if_pos line, State.recoveryEnds, State.setEngine, State.enterRecovery_modBus,
    State.modBus_modBus, State.modBus_modBus]
  rfl

/-- Recovery that is not going on hears nothing of the clock. -/
theorem State.recoveryRise_other (h : ∀ r, (s.bus b).engine ≠ .recovery r) (dat : Bool) : s.recoveryRise b dat = s := by
  unfold State.recoveryRise
  split
  next r hr => exact absurd hr (h r)
  next => rfl

theorem State.wake_not_recovering (h : ∀ r, (s.bus b).engine ≠ .recovery r) (r : Recovery) :
    ((s.wake b).bus b).engine ≠ .recovery r := by
  obtain hb | ⟨-, -, hb⟩ := s.wake_bus b b
  · rw [hb]
    exact h r
  · rw [hb]
    exact nofun

end entry

section atEntry

variable {s t : State} {p : PortIx} {q : Byte} {b : BusIx} {lines : Option Bool} {m : Message}

theorem State.enterRecovery_respond {fromFault : Bool} {lines : Option Bool} :
    (t.enterRecovery b fromFault lines).respond p 0x17 q m = (t.respond p 0x17 q m).enterRecovery b fromFault lines := by
  rw [State.enterRecovery_modBus, State.enterRecovery_modBus]
  rfl

/-- The levels at the entry into RECOVERY, read after the reply is queued. -/
theorem State.clockAtEntry_entered {fromFault : Bool} (before : (s.bus b).engine.recovering = false)
    (busy : (t.bus b).line ≠ .free) :
    ((t.enterRecovery b fromFault none).respond p 0x17 q m).clockAtEntry s
      { bytes := [BitVec.ofNat 8 b.val], atEntry := lines } = (t.respond p 0x17 q m).enterRecovery b fromFault lines := by
  have bus : (parseByte [BitVec.ofNat 8 b.val]).bind busOf = some b := busOf_bus b
  rw [State.enterRecovery_respond, State.clockAtEntry]
  cases lines with
  | none => rfl
  | some dat =>
    simp only [bus, before]
    exact (if_neg Bool.false_ne_true).trans (State.recoveryRise_entered (s := t.respond p 0x17 q m) busy dat)

theorem State.clockAtEntry_ended (h : ∀ r, (t.bus b).engine ≠ .recovery r) :
    t.clockAtEntry s { bytes := [BitVec.ofNat 8 b.val], atEntry := lines } = t := by
  have bus : (parseByte [BitVec.ofNat 8 b.val]).bind busOf = some b := busOf_bus b
  cases lines with
  | none => rfl
  | some dat =>
    rw [State.clockAtEntry]
    simp only [bus]
    split
    · rfl
    · exact State.recoveryRise_other h dat

end atEntry

end Sys2Proof.Machine

namespace Sys2Proof.Proofs

open Sys2Proof Sys2Proof.Machine

/-- Settles O46: TARGET_OWN by the unit's owner, and what a release drops. -/
theorem targetOwn : Obligations.TargetOwn := by
  unfold Obligations.TargetOwn
  refine ⟨fun c s p q x on hf ht ho => ⟨fun hx => ?_, fun hx hon => ?_⟩,
    fun s p q b ho => ⟨fun ht => ⟨fun free => ?_, fun own => ?_, fun o other hne => ?_⟩, fun ht => ⟨fun other => ?_, fun own => ?_⟩⟩⟩
  · exact exec_targetOwn hf ht ho (State.targetOwnRequest_badBus hx)
  · exact exec_targetOwn hf ht ho (State.targetOwnRequest_badField (b := ⟨x.toNat, by omega⟩) (busOf_of_toNat rfl) hon)
  · exact exec_targetOwn rfl ht ho (State.targetOwnRequest_taken (s := s.arrived p) (busOf_bus b) free)
  · exact exec_targetOwn rfl ht ho ((State.targetOwnRequest_owned (s := s.arrived p) (busOf_bus b) own).trans (if_pos rfl))
  · exact exec_targetOwn rfl ht ho ((State.targetOwnRequest_owned (s := s.arrived p) (busOf_bus b) other).trans (if_neg hne))
  · exact exec_targetOwn rfl ht ho ((State.targetOwnRequest_off (busOf_bus b)).trans (if_neg other))
  · refine ⟨(s.arrived p).loseOwnership p b,
      exec_targetOwn rfl ht ho ((State.targetOwnRequest_off (busOf_bus b)).trans (if_pos own)), ?_⟩
    have target : (((s.arrived p).loseOwnership p b).bus b).target = (s.bus b).target.loseOwner := by
      change (((s.arrived p).modTarget b Target.loseOwner).bus b).target = _
      rw [State.modTarget, State.modBus_bus, if_pos rfl]
      rfl
    have sources : (fun y : Source => !targetSource b y) = fun y => match y with
        | .inbound c _ => decide (c ≠ b)
        | .tally c => decide (c ≠ b)
        | _ => true := by
      funext y
      cases y <;> simp [targetSource]
    rw [target]
    refine ⟨?_, ?_, ?_, ?_, ?_, ?_, Target.loseOwner_slot _, Target.loseOwner_discard _⟩
    · rw [State.loseOwnership, sources]
      rfl
    all_goals rw [Target.loseOwner, Target.markDiscard_eq]

/-- Settles O47: the checks of TARGET_LOAD in order, and its two modes on the live buffer and on the deferred one. -/
theorem targetLoad : Obligations.TargetLoad := by
  unfold Obligations.TargetLoad
  refine ⟨fun c s p q body hf ht ho h => exec_targetLoad_malformed hf ht ho (parseLoad_none h),
    fun c s p q x mode bytes body hbody hf ht ho => ?_, fun s p q b bytes ho =>
      ⟨fun ht => ⟨fun other => ?_, fun own long => ?_, fun own fits live => ?_, fun own fits read => ?_⟩,
        fun ht own fits => ⟨fun live room => ?_, fun live full => ?_, fun d def_ => ⟨fun room => ?_, fun full => ?_⟩⟩⟩⟩
  · subst hbody
    refine ⟨exec_targetLoad_badBus hf ht ho, fun b hb => ⟨fun other => ?_, fun own hm => ?_, fun own hm long => ?_⟩⟩
    all_goals refine exec_load hf ht ho (busOf_of_toNat hb) ?_
    · exact if_pos other
    · exact State.load_badField (s := s.arrived p) own hm
    · exact State.load_badLength (s := s.arrived p) own hm long
  all_goals refine exec_load rfl ht ho (busOf_bus b) ?_
  · exact if_pos other
  · exact State.load_badLength (s := s.arrived p) own (by decide) long
  · exact (State.load_replace (s := s.arrived p) own fits).trans (State.loadReplace_live live)
  · exact (State.load_replace (s := s.arrived p) own fits).trans (State.loadReplace_deferred read)
  all_goals refine (State.load_append (s := s.arrived p) own fits).trans ?_
  · exact (State.loadAppend_live (s := s.arrived p) live).trans (if_neg (not_lt.mpr room))
  · exact (State.loadAppend_live (s := s.arrived p) live).trans (if_pos full)
  · exact (State.loadAppend_deferred (s := s.arrived p) def_).trans (if_neg (not_lt.mpr room))
  · exact (State.loadAppend_deferred (s := s.arrived p) def_).trans (if_pos full)

/-- Settles O49: BUS_RECOVER by the engine's state, the line's and the levels at the entry. -/
theorem busRecover : Obligations.BusRecover := by
  unfold Obligations.BusRecover
  refine ⟨fun s p q x lines ht ho hx => exec_busRecover_refused ht ho (State.busRecoverRequest_badBus hx),
    fun s p q b lines ht ho => ⟨fun off => ?_, fun on busy he => ?_, fun on free he ended hended => ?_, fun on he => ?_⟩⟩
  · exact exec_busRecover_refused ht ho (State.busRecoverRequest_busOff (s := s.arrived p) (busOf_bus b) off)
  · have before : (s.bus b).engine.recovering = false := by
      obtain h | ⟨w, h⟩ | h := he <;> rw [h] <;> rfl
    have stays : ((s.arrived p).enterRecovery b (decide (((s.arrived p).bus b).engine = .fault)) none).endIfQuiet b =
        (s.arrived p).enterRecovery b (decide ((s.bus b).engine = .fault)) none := by
      refine if_neg ?_
      rw [State.enterRecovery_bus]
      exact busy
    rw [exec_busRecover ht ho (State.busRecoverRequest_enters (s := s.arrived p) (busOf_bus b) on he),
      stays, State.clockAtEntry_entered (t := s.arrived p) before busy, State.enterRecovery_modBus]
    cases lines with
    | none => rfl
    | some dat => cases dat <;> rfl
  · subst hended
    rw [exec_busRecover ht ho (State.busRecoverRequest_enters (s := s.arrived p) (busOf_bus b) on he),
      State.endIfQuiet_free (s := s.arrived p) free, State.clockAtEntry_ended]
    · simp only [decide_eq_true_eq]
      rfl
    · intro r
      rw [State.respond_bus]
      refine State.wake_not_recovering (fun r => ?_) r
      split
      · rw [State.offerBusEvent_bus, State.modBus_bus, if_pos rfl]
        exact nofun
      · rw [State.modBus_bus, if_pos rfl]
        exact nofun
  · exact exec_busRecover_refused ht ho (State.busRecoverRequest_wrongState (s := s.arrived p) (busOf_bus b) on he)

end Sys2Proof.Proofs
end

section
/-! PROOF. Times reached and promotion (chapter 2), and the end of a bus-free wait. -/

namespace Sys2Proof.Machine

section times

variable {s : State} {i : Fin 64} {r : Record} {t : Clock}

theorem exec_deadlineExpiry (s : State) (i : Fin 64) : exec (.deadlineExpiry i) s = .next (s.deadlineReached i).settle := rfl

theorem exec_notBeforeReached (s : State) (i : Fin 64) : exec (.notBeforeReached i) s = .next (s.spacingReached i).settle := rfl

theorem exec_agingPromotion (s : State) (b : BusIx) : exec (.agingPromotion b) s = .next (s.promoteDue b).settle := rfl

theorem exec_watchPeriodExpiry (s : State) (i : Fin 12) : exec (.watchPeriodExpiry i) s = .next (s.periodExpired i).settle := rfl

theorem State.deadlineReached_due (hr : s.record i = some r) (queued : r.state = .queued) (ht : r.deadlineTime = some t)
    (due : reached s.clock t = true) : s.deadlineReached i = (s.dequeueRecord r.bus i).finishWithoutAttempt i .expired := by
  rw [State.deadlineReached, hr]
  exact if_pos ⟨queued, by rw [ht]; exact due⟩

theorem State.spacingReached_over (hr : s.record i = some r) (queued : r.state = .queued) (ht : r.notBefore = some t)
    (passed : reached s.clock t = true ∨ r.spacingOver = true) : s.spacingReached i = s.wake r.bus := by
  rw [State.spacingReached, hr]
  refine if_pos ⟨queued, ?_⟩
  rw [ht, Option.any_some, Bool.or_eq_true]
  exact passed.symm

/-- A period of a RUNNING watch that has no read under way adds one (R120). -/
theorem State.periodExpired_adds {i : Fin 12} {w : Watch} (hw : s.watch i = some w) (running : w.state = .running)
    (ht : w.nextPeriod = some t) (due : reached s.clock t = true) (on : (s.bus w.bus).config.enabled = true)
    (idle : w.read = .none) : s.periodExpired i =
      (s.putWatch i { w with nextPeriod := some (addTime t w.period), read := .queued }).join w.bus
        (.watchRead i .bulk t false) := by
  have runs : ¬(w.state ≠ .running ∨ (!reached s.clock t) = true) := by simp [running, due]
  have enabled : ¬(!s.enabled w.bus) = true := by rw [State.enabled, on]; decide
  simp only [State.periodExpired, hw, ht]
  rw [if_neg runs, if_neg enabled, idle]

/-- An IDLE engine reserves on the wake event of an eligible item (R36, R37). -/
theorem State.wake_idle {b : BusIx} {it : QItem} (idle : (s.bus b).engine = .idle) (mem : it ∈ (s.bus b).queue)
    (he : s.isEligible b it = true) :
    s.wake b = s.modBus b fun x => { x with engine := .reserved (decide (x.line = .free)) } := by
  rw [State.wake, if_pos (by rw [idle, List.any_eq_true.mpr ⟨it, mem, he⟩]; rfl)]
  rfl

end times

/-! ### Promotion (R32, R33) -/

section promotion

variable {s : State} {b : BusIx}

/-- The item is BULK and its age reaches the bus's aging limit (R32). -/
def State.dueIn (s : State) (b : BusIx) (it : QItem) : Bool :=
  decide (s.itemClass it = .bulk) && agedOut (s.bus b).config.aging (s.itemAge it)

theorem State.dueForPromotion_eq (s : State) (b : BusIx) : s.dueForPromotion b = (s.bus b).queue.filter (s.dueIn b) := rfl

theorem State.dueIn_iff (s : State) (b : BusIx) (it : QItem) : s.dueIn b it = true ↔
    s.itemClass it = .bulk ∧ (s.bus b).config.aging ≠ 0 ∧ (s.bus b).config.aging.toNat ≤ s.itemAge it := by
  rw [State.dueIn, agedOut, Bool.and_eq_true, decide_eq_true_iff, decide_eq_true_iff]

theorem State.promoteDue_none (h : ∀ y ∈ (s.bus b).queue, s.dueIn b y = false) : s.promoteDue b = s := by
  have none_ : s.dueForPromotion b = [] := List.filter_eq_nil_iff.mpr fun y hy => Bool.eq_false_iff.mp (h y hy)
  rw [State.promoteDue, none_]
  rfl

/-- Joining a queue leaves the items of it that are of some kind in their order, when the item is not of that kind. -/
theorem State.filter_insertItem {f : QItem → Bool} {it : QItem} (hf : f it = false) (l : List QItem) :
    (s.insertItem it l).filter f = l.filter f := by
  induction l with
  | nil => simp [State.insertItem, hf]
  | cons y l ih =>
    rw [State.insertItem]
    split
    · rw [List.filter_cons, List.filter_cons, ih]
    · rw [List.filter_cons_of_neg (by simp [hf])]

theorem List.filter_ne_split {before after : List QItem} {it : QItem} (h : it ∉ before ++ after) :
    (before ++ it :: after).filter (fun x => decide (x ≠ it)) = before ++ after := by
  have keep {l : List QItem} (hl : it ∉ l) : l.filter (fun x => decide (x ≠ it)) = l :=
    List.filter_eq_self.mpr fun y hy => decide_eq_true fun heq => hl (heq ▸ hy)
  rw [List.mem_append, not_or] at h
  rw [List.filter_append, List.filter_cons_of_neg (by simp), keep h.1, keep h.2]

section first

variable {before after : List QItem} {it : QItem} (hq : (s.bus b).queue = before ++ it :: after)
  (single : it ∉ before ++ after)
include hq single

theorem State.promote_record {i : Fin 64} {r : Record} (hit : it = .record i) (hr : s.record i = some r) : s.promote b it =
    ((s.setQueue b (before ++ after)).putRecord i { r with cls := .normal }).enqueue b (.record i) := by
  subst hit
  have put (t : State) (ht : t.record i = some r) :
      t.modRecord i (fun r => { r with cls := .normal }) = t.putRecord i { r with cls := .normal } := by
    rw [State.modRecord, ht]
  rw [State.promote, hq, List.filter_ne_split single, put (s.setQueue b _) hr]

theorem State.promote_watchRead {w : Fin 12} {c : Cls} {t : Clock} {z : Bool} (hit : it = .watchRead w c t z) :
    s.promote b it = (s.setQueue b (before ++ after)).enqueue b (.watchRead w .normal t z) := by
  subst hit
  rw [State.promote, hq, List.filter_ne_split single]

omit single in
/-- The first item that is due is promoted, and the rest are promoted from there. -/
theorem State.promoteDue_first {new : QItem} (due : s.dueIn b it = true) (first : ∀ y ∈ before, s.dueIn b y = false)
    (joined : ∃ t : State, ((s.promote b it).bus b).queue = t.insertItem new (before ++ after))
    (others : ∀ y ∈ before ++ after, (s.promote b it).dueIn b y = s.dueIn b y) (spent : (s.promote b it).dueIn b new = false) :
    s.promoteDue b = (s.promote b it).promoteDue b := by
  obtain ⟨t, queue⟩ := joined
  have rest : (s.promote b it).dueForPromotion b = after.filter (s.dueIn b) := by
    rw [State.dueForPromotion_eq, queue, State.filter_insertItem spent, List.filter_congr others, List.filter_append,
      List.filter_eq_nil_iff.mpr (fun y hy => Bool.eq_false_iff.mp (first y hy)), List.nil_append]
  have all : s.dueForPromotion b = it :: after.filter (s.dueIn b) := by
    rw [State.dueForPromotion_eq, hq, List.filter_append, List.filter_eq_nil_iff.mpr (fun y hy => Bool.eq_false_iff.mp (first y hy)),
      List.nil_append, List.filter_cons_of_pos due]
  rw [State.promoteDue, State.promoteDue, rest, all, List.foldl_cons]

end first

theorem State.setQueue_config (l : List QItem) : ((s.setQueue b l).bus b).config = (s.bus b).config := by
  rw [State.setQueue, State.modBus_bus_self]

theorem State.setQueue_queue (l : List QItem) : ((s.setQueue b l).bus b).queue = l := by
  rw [State.setQueue, State.modBus_bus_self]

theorem State.enqueue_bus (it : QItem) : (s.enqueue b it).bus b = { s.bus b with queue := s.insertItem it (s.bus b).queue } := by
  rw [State.enqueue, State.setQueue, State.modBus_bus_self]

/-- No item's class or age depends on the queue. -/
theorem State.dueIn_requeued {it : QItem} {l : List QItem} (y : QItem) :
    ((s.setQueue b l).enqueue b it).dueIn b y = s.dueIn b y := by
  have config : (((s.setQueue b l).enqueue b it).bus b).config = (s.bus b).config := by
    rw [State.enqueue_bus]
    exact State.setQueue_config l
  rw [State.dueIn, State.dueIn, config]
  cases y <;> rfl

/-- The record of an item that is promoted is due no more, and no other item's class or age has changed. -/
theorem State.dueIn_promoted {i : Fin 64} {r : Record} {l : List QItem} (y : QItem) :
    ((((s.setQueue b l).putRecord i { r with cls := .normal }).enqueue b (.record i)).dueIn b y) =
      if y = .record i then false else s.dueIn b y := by
  have config : ((((s.setQueue b l).putRecord i { r with cls := .normal }).enqueue b (.record i)).bus b).config =
      (s.bus b).config := by
    rw [State.enqueue_bus]
    exact State.setQueue_config l
  have record (k : Fin 64) : (((s.setQueue b l).putRecord i { r with cls := .normal }).enqueue b (.record i)).record k =
      if k = i then some { r with cls := .normal } else s.record k := State.putRecord_record (s.setQueue b l) i k _
  rw [State.dueIn, State.dueIn, config]
  cases y with
  | record k =>
    simp only [State.itemClass, State.itemAge, record, QItem.record.injEq]
    by_cases hk : k = i
    · simp [hk]
    · simp only [hk, if_false]
      rfl
  | watchRead w c t z => rfl

end promotion

/-! ### The end of a bus-free wait (R40, R41) -/

section waitEnd

variable {s : State} {b : BusIx} (hb : (s.bus b).engine = .reserved true)
include hb

theorem State.waitEnd_none (h : ∀ y ∈ (s.bus b).queue, s.isEligible b y = false) :
    s.waitEnd b = s.modBus b fun x => { x with engine := .idle } := by
  rw [State.waitEnd, hb]
  dsimp only
  rw [List.find?_eq_none.mpr fun y hy => by simp [h y hy]]
  rfl

theorem State.waitEnd_first {before after : List QItem} {it : QItem} (hq : (s.bus b).queue = before ++ it :: after)
    (skipped : ∀ y ∈ before, s.isEligible b y = false) (he : s.isEligible b it = true) : s.waitEnd b = s.select b it := by
  rw [State.waitEnd, hb]
  dsimp only
  rw [hq, List.find?_append, List.find?_eq_none.mpr (fun y hy => by simp [skipped y hy]), Option.none_or,
    List.find?_cons_of_pos he]

omit hb

/-- The first thing an attempt does to its bus, in one update. -/
theorem State.startAttempt_setQueue (l : List QItem → List QItem) (item : Item) (segments : List Segment) :
    (s.setQueue b (l (s.bus b).queue)).startAttempt b item segments = s.modBus b fun x => { x with
      queue := l x.queue
      engine := .active (some (freshAttempt item segments x.config.rate))
      line := .busy
      following := false } := by
  rw [State.startAttempt, State.setQueue, State.modBus_modBus]
  exact State.modBus_congr s b _ _ rfl

theorem State.select_record {i : Fin 64} {r : Record} (hr : s.record i = some r) : s.select b (.record i) =
    (s.putRecord i { r with state := .active, notBefore := none, spacingOver := false, attempts := r.attempts + 1 }).modBus b
      fun x => { x with
        queue := x.queue.filter fun y => decide (y ≠ .record i)
        engine := .active (some (freshAttempt (.record i) r.segments x.config.rate))
        line := .busy
        following := false } := by
  rw [State.select, hr]
  dsimp only
  rw [State.dequeueRecord_eq]
  exact State.startAttempt_setQueue (s := s.putRecord i _) (fun l => l.filter fun y => decide (y ≠ .record i)) _ _

theorem State.select_watchRead {w : Fin 12} {x : Watch} (hx : s.watch w = some x) (c : Cls) (t : Clock) (z : Bool) :
    s.select b (.watchRead w c t z) = (s.putWatch w { x with read := .active }).modBus b fun y => { y with
      queue := y.queue.filter fun y => !y.isWatch w
      engine := .active (some (freshAttempt (.watch w) x.segments y.config.rate))
      line := .busy
      following := false } := by
  rw [State.select, hx]
  exact State.startAttempt_setQueue (s := s.putWatch w _) (fun l => l.filter fun y => !y.isWatch w) _ _

end waitEnd

end Sys2Proof.Machine

namespace Sys2Proof.Proofs

open Sys2Proof Sys2Proof.Machine

/-- Settles O50: each time's own rule, and the promotions one by one from the front of the queue. -/
theorem timesReached : Obligations.TimesReached := by
  unfold Obligations.TimesReached
  refine ⟨fun s i r t hr queued ht due => ?_, fun s i r t hr queued ht passed => ?_,
    fun s i r t hr queued ht due idle mem leased => ?_, fun s b before after i r hq hr bulk limit aged others => ?_,
    fun s b limit => ?_, fun s b => rfl, fun s promoted b due before after it hdue hq single hit first hp => ?_,
    fun s b none_ => ?_, fun s i w t hw running ht due on idle => ?_⟩
  · rw [exec_deadlineExpiry, State.deadlineReached_due hr queued ht (decide_eq_true due), State.dequeueRecord_eq]
    rfl
  · rw [exec_notBeforeReached, State.spacingReached_over hr queued ht (passed.imp_left decide_eq_true)]
  · have eligible : s.isEligible r.bus (.record i) = true := by
      refine (State.isEligible_iff ..).mpr ⟨Bool.eq_false_iff.mpr fun h => ?_, leased⟩
      obtain ⟨n, hn, -, notYet⟩ := (State.spaced_iff ..).mp h
      obtain rfl : t = n := Option.some.inj (ht.symm.trans (by simpa [State.itemNotBefore, hr] using hn))
      exact Bool.eq_false_iff.mp notYet (decide_eq_true due)
    rw [exec_notBeforeReached, State.spacingReached_over hr queued ht (.inl (decide_eq_true due)),
      State.wake_idle idle mem eligible]
  · have single : QItem.record i ∉ before ++ after := fun h => (others _ h).1 rfl
    have notDue (y) (hy : y ∈ before ++ after) : s.dueIn b y = false :=
      Bool.eq_false_iff.mpr fun h => (others y hy).2 ⟨((State.dueIn_iff ..).mp h).1, ((State.dueIn_iff ..).mp h).2.2⟩
    have isDue : s.dueIn b (.record i) = true := (State.dueIn_iff ..).mpr ⟨by simpa [State.itemClass, hr] using bulk, limit, aged⟩
    have none_ {l : List QItem} (hl : ∀ y ∈ l, y ∈ before ++ after) : l.filter (s.dueIn b) = [] :=
      List.filter_eq_nil_iff.mpr fun y hy => Bool.eq_false_iff.mp (notDue y (hl y hy))
    rw [exec_agingPromotion, State.promoteDue, State.dueForPromotion_eq, hq, List.filter_append,
      none_ fun y hy => List.mem_append_left _ hy, List.nil_append, List.filter_cons_of_pos isDue,
      none_ fun y hy => List.mem_append_right _ hy, List.foldl_cons, State.promote_record hq single rfl hr]
    rfl
  · rw [exec_agingPromotion, State.promoteDue_none fun y _ => Bool.eq_false_iff.mpr fun h =>
      ((State.dueIn_iff ..).mp h).2.1 limit]
  · have dueIff (y) : s.dueIn b y = true ↔ due y := (State.dueIn_iff ..).trans (hdue y).symm
    have isDue := (dueIff it).mpr hit
    have skipped (y) (hy : y ∈ before) : s.dueIn b y = false := Bool.eq_false_iff.mpr fun h => first y hy ((dueIff y).mp h)
    obtain ⟨i, r, rfl, hr, rfl⟩ | ⟨w, t, z, rfl, rfl⟩ := hp
    · rw [← State.promote_record hq single rfl hr]
      refine State.promoteDue_first (new := .record i) hq isDue skipped ?_ (fun y hy => ?_) ?_
      · rw [State.promote_record hq single rfl hr, State.enqueue_bus, State.putRecord_bus, State.setQueue_queue]
        exact ⟨_, rfl⟩
      · rw [State.promote_record hq single rfl hr, State.dueIn_promoted, if_neg fun h : y = .record i => single (h ▸ hy)]
      · rw [State.promote_record hq single rfl hr, State.dueIn_promoted, if_pos rfl]
    · rw [← State.promote_watchRead hq single rfl]
      refine State.promoteDue_first (new := .watchRead w .normal t z) hq isDue skipped ?_ (fun y hy => ?_) ?_
      · rw [State.promote_watchRead hq single rfl, State.enqueue_bus, State.setQueue_queue]
        exact ⟨_, rfl⟩
      · rw [State.promote_watchRead hq single rfl, State.dueIn_requeued]
      · rw [State.promote_watchRead hq single rfl, State.dueIn_requeued]
        rfl
  · exact State.promoteDue_none fun y hy => Bool.eq_false_iff.mpr fun h => none_ y hy ((State.dueIn_iff ..).mp h)
  · rw [exec_watchPeriodExpiry, State.periodExpired_adds hw running ht (decide_eq_true due) on idle]
    rfl

/-- Settles O52: the first eligible item is selected, or the engine goes IDLE. -/
theorem busFreeWaitEnd : Obligations.BusFreeWaitEnd := by
  unfold Obligations.BusFreeWaitEnd
  refine fun s b hb => ⟨fun before after i r hq skipped he hr => ?_, fun before after i c t z w hq skipped he hw => ?_,
    fun none_ => ?_⟩
  · rw [exec_busFreeWaitEnd, State.waitEnd_first hb hq skipped he, State.select_record hr]
    rfl
  · rw [exec_busFreeWaitEnd, State.waitEnd_first hb hq skipped he, State.select_watchRead hw]
    rfl
  · rw [exec_busFreeWaitEnd, State.waitEnd_none hb none_]

end Sys2Proof.Proofs
end

section
/-! PROOF. The bytes of an attempt (chapter 3). -/

namespace Sys2Proof.Machine

theorem exec_addressByteAcknowledge (s : State) (b : BusIx) (ack : Bool) :
    exec (.addressByteAcknowledge b ack) s = .next (s.addressAck b ack).settle := rfl

theorem exec_writeByteAcknowledge (s : State) (b : BusIx) (ack : Bool) :
    exec (.writeByteAcknowledge b ack) s = .next (s.writeAck b ack).settle := rfl

theorem exec_readByteReceived (s : State) (b : BusIx) (y : Byte) :
    exec (.readByteReceived b y) s = .next (s.readByte b y).settle := rfl

section bytes

variable {s : State} {b : BusIx} {a : Attempt} {g : Segment}

/-! ### The attempt at an address byte (R62, R65) -/

theorem Attempt.atAddress_inByte (h : a.phase = .inByte) : a.atAddress = a := by
  cases a
  cases h
  rfl

/-- A start of the attempt's own that was not reported has begun the next segment (log 7). -/
theorem Attempt.atAddress_repeatedStart (h : a.phase = .repeatedStart ∨ ∃ nack, a.phase = .readAck nack .repeatedStart) :
    a.atAddress = a.advance := by
  refine if_pos ?_
  obtain h | ⟨nack, h⟩ := h
  · rw [h]
    rfl
  · rw [h]
    rfl

variable (hb : (s.bus b).engine = .active (some a))
include hb

section address

variable {a' : Attempt} (ha : a.atAddress = a') (hp : a'.phase = .inByte) (hg : a'.segment = some g) (h0 : a'.byteIndex = 0)
include ha hp hg h0

theorem State.addressAck_nack : s.addressAck b false = s.modBus b fun x => { x with
    counters := { x.counters with addressNacks := satInc x.counters.addressNacks }
    engine := .active (some { a' with byteIndex := 1, phase := .stop .addressNack }) } := by
  subst ha
  simp only [State.addressAck, hb, hp, hg]
  rw [if_neg (not_not.mpr h0), if_neg (by decide), State.setEngine, State.countBus, State.modBus_modBus]

theorem State.addressAck_ack : s.addressAck b true = s.modBus b fun x => { x with
    engine := .active (some { a' with
      byteIndex := 1
      phase := (if g.count = 0 then a'.segmentEnd else a'.midSegment).phase }) } := by
  subst ha
  simp only [State.addressAck, hb, hp, hg]
  rw [if_neg (not_not.mpr h0), if_pos trivial, State.setEngine, Attempt.addressAcked, h0]
  rfl

end address

/-! ### Written bytes (R63) -/

section written

variable (hp : a.phase = .inByte) (hg : a.segment = some g) (h0 : a.byteIndex ≠ 0) (hd : g.dir = .write)
include hp hg h0 hd

theorem State.writeAck_nack : s.writeAck b false = s.modBus b fun x => { x with
    counters := { x.counters with dataNacks := satInc x.counters.dataNacks }
    engine := .active (some { a with byteIndex := a.byteIndex + 1, phase := .stop .dataNack }) } := by
  cases g with
  | read addr n => cases hd
  | write addr data =>
    simp only [State.writeAck, hb, hp, hg]
    rw [if_neg h0, if_neg (by decide), State.setEngine, State.countBus, State.modBus_modBus]

theorem State.writeAck_ack : s.writeAck b true = s.modBus b fun x => { x with
    engine := .active (some { a with
      byteIndex := a.byteIndex + 1
      written := a.written + 1
      anyAcked := true
      phase := (if g.count ≤ a.byteIndex then a.segmentEnd else a.midSegment).phase }) } := by
  cases g with
  | read addr n => cases hd
  | write addr data =>
    simp only [State.writeAck, hb, hp, hg]
    exact (if_neg h0).trans (if_pos trivial)

end written

/-! ### Read bytes (R64) -/

theorem State.readByte_received {addr : Addr} {n : Nat} (hp : a.phase.settled = .inByte) (hg : a.segment = some (.read addr n))
    (h0 : a.byteIndex ≠ 0) (y : Byte) : s.readByte b y = s.modBus b fun x => { x with
      engine := .active (some { a with
        byteIndex := a.byteIndex + 1
        readBytes := a.readBytes ++ [y]
        phase := .readAck (decide (n ≤ a.byteIndex) || a.abortPending)
          (if n ≤ a.byteIndex then a.segmentEnd else a.midSegment) }) } := by
  simp only [State.readByte, hb, hp, hg]
  rw [if_neg h0, Attempt.byteReceived]
  simp only [decide_eq_true_eq]
  rfl

end bytes

theorem toNat_append_bit (x : Addr) (y : BitVec 1) : (x ++ y).toNat = 2 * x.toNat + y.toNat := by
  rw [BitVec.toNat_append, ← Nat.shiftLeft_add_eq_or_of_lt y.isLt, Nat.shiftLeft_eq, Nat.mul_comm]

theorem toNat_addressByte (g : Segment) : g.addressByte.toNat = 2 * g.addr.toNat + if g.dir = .read then 1 else 0 := by
  rw [Segment.addressByte]
  refine (toNat_append_bit ..).trans ?_
  cases g.dir <;> rfl

end Sys2Proof.Machine

namespace Sys2Proof.Proofs

open Sys2Proof Sys2Proof.Machine

/-- Settles O54: each acknowledge and each byte read, at the segment in force; and the byte that the engine sends. -/
theorem attemptBytes : Obligations.AttemptBytes := by
  unfold Obligations.AttemptBytes
  refine ⟨fun s b a g inside ended hb hp hg hin hend => ⟨fun h0 => ?_, fun h0 => ?_, fun h0 hd => ?_, fun h0 hd => ?_,
      fun y h0 hd => ?_⟩,
    fun s b a addr n nack inside ended y hb hp hg h0 hin hend => ?_,
    fun s b a g inside ended hb hp hg hin hend => ⟨?_, ?_⟩,
    fun x a g hx hp hg => ⟨fun h0 => ?_, fun addr data h0 hgw => ?_, fun addr n h0 hgr => ?_⟩⟩
  all_goals try subst hin hend
  · rw [exec_addressByteAcknowledge, State.addressAck_nack hb (Attempt.atAddress_inByte hp) hp hg h0]
  · rw [exec_addressByteAcknowledge, State.addressAck_ack hb (Attempt.atAddress_inByte hp) hp hg h0]
    rfl
  · rw [exec_writeByteAcknowledge, State.writeAck_nack hb hp hg h0 hd]
  · rw [exec_writeByteAcknowledge, State.writeAck_ack hb hp hg h0 hd]
    rfl
  · cases g with
    | write addr data => cases hd
    | read addr n =>
      rw [exec_readByteReceived, State.readByte_received hb (by rw [hp]; rfl) hg h0]
      rfl
  · rw [exec_readByteReceived, State.readByte_received hb (by rw [hp]; rfl) hg h0]
    rfl
  · rw [exec_addressByteAcknowledge, State.addressAck_nack hb (Attempt.atAddress_repeatedStart hp) rfl hg rfl]
    rfl
  · rw [exec_addressByteAcknowledge, State.addressAck_ack hb (Attempt.atAddress_repeatedStart hp) rfl hg rfl]
    rfl
  all_goals
    have sends : x.drive = .asMaster a.rate (if a.byteIndex = 0 then some g.addressByte else g.data[a.byteIndex - 1]?) := by
      simp only [Bus.drive, hx, Attempt.sending, hp, Attempt.segment, hg, Option.bind_some]
  · exact ⟨g.addressByte, sends.trans (by rw [if_pos h0]), toNat_addressByte g⟩
  · subst hgw
    exact sends.trans (by rw [if_neg h0]; rfl)
  · subst hgr
    exact sends.trans (by rw [if_neg h0]; rfl)

end Sys2Proof.Proofs
end

section
/-! PROOF. The steps of recovery, and the offer of a bus event (chapters 4 and 9). -/

namespace Sys2Proof.Machine

/-! ### The offer of a bus event (R153, R154) -/

/-- The bus event of a kind that happens now, in the slot of a session that may hold an older one (R153). -/
def Session.eventOf (x : Session) (b : BusIx) (kind : BusEventKind) (clock : Clock) : BusEvent :=
  { kind := kind, time := clock, missed := x.busEvents[b].elim 0 fun old => satInc old.missed }

/-- What the offer of a bus event makes of a session (R153, R154). -/
def Session.offered (x : Session) (b : BusIx) (kind : BusEventKind) (clock : Clock) : Session :=
  if x.state = .opened ∧ x.maskBusEvent = true then
    let e := x.eventOf b kind clock
    if .busEvent b ∈ x.admission then { x with busEvents := x.busEvents.set b (some e) }
    else if x.outbox.length < 16 then
      { x with
        busEvents := x.busEvents.set b none
        nextSeq := x.nextSeq + 1
        outbox := x.outbox ++ [{ seq := x.nextSeq, report := .busEvent b e, sent := false, everSent := false }] }
    else { x with busEvents := x.busEvents.set b (some e), admission := x.admission ++ [.busEvent b] }
  else x

section offered

variable {s : State} {b : BusIx} {kind : BusEventKind} {p : PortIx}

theorem State.modSession_self (s : State) (p : PortIx) {f : Session → Session} (h : f (s.session p) = s.session p) :
    s.modSession p f = s := by
  rw [State.modSession, h, State.session, Fin.getElem_fin, Vector.set_getElem_self]

theorem State.offerBusEventTo_wanted (h : (s.session p).state = .opened ∧ (s.session p).maskBusEvent = true) :
    s.offerBusEventTo b kind p = (s.modSession p fun x =>
      { x with busEvents := x.busEvents.set b (some ((s.session p).eventOf b kind s.clock)) }).offer p (.busEvent b) := by
  have wanted : (s.isOpen p && (s.session p).maskBusEvent) = true := by simp [State.isOpen, h]
  rw [State.offerBusEventTo, if_pos wanted]
  dsimp only
  rw [Session.eventOf]
  cases (s.session p).busEvents[b] <;> rfl

theorem State.offerBusEventTo_eq (s : State) (b : BusIx) (kind : BusEventKind) (p : PortIx) :
    s.offerBusEventTo b kind p = s.modSession p fun x => x.offered b kind s.clock := by
  by_cases wanted : (s.session p).state = .opened ∧ (s.session p).maskBusEvent = true
  · rw [State.offerBusEventTo_wanted wanted]
    generalize he : (s.session p).eventOf b kind s.clock = e
    have event : (s.modSession p fun x => { x with busEvents := x.busEvents.set b (some e) }).session p =
        { s.session p with busEvents := (s.session p).busEvents.set b (some e) } :=
      (State.modSession_session ..).trans (if_pos rfl)
    have offered : (s.session p).offered b kind s.clock = if Source.busEvent b ∈ (s.session p).admission then _
        else if (s.session p).outbox.length < 16 then _ else _ := if_pos wanted
    rw [he] at offered
    by_cases listed : Source.busEvent b ∈ (s.session p).admission
    · rw [State.offer_listed (by rw [event]; exact listed)]
      exact State.modSession_congr s p _ _ (offered.trans (if_pos listed)).symm
    · by_cases room : (s.session p).outbox.length < 16
      · have report : (s.modSession p fun x => { x with busEvents := x.busEvents.set b (some e) }).reportOf p (.busEvent b) =
            some (.busEvent b e) := by
          rw [State.reportOf, event]
          simp
        rw [State.offer_admitted (by rw [event]; exact listed) (by rw [event]; exact room), State.admitOne_some report,
          State.releaseSource, State.modSession_modSession, State.modSession_modSession]
        refine State.modSession_congr s p _ _ (Eq.symm ((offered.trans (if_neg listed)).trans ((if_pos room).trans ?_)))
        simp [Session.push]
      · rw [State.offer_waits (by rw [event]; exact listed) (by rw [event]; exact not_lt.mp room), State.modSession_modSession]
        exact State.modSession_congr s p _ _ (Eq.symm ((offered.trans (if_neg listed)).trans (if_neg room)))
  · have unwanted : ¬(s.isOpen p && (s.session p).maskBusEvent) = true := by
      simpa [State.isOpen] using wanted
    rw [State.offerBusEventTo, if_neg unwanted]
    exact (State.modSession_self s p (if_neg wanted)).symm

/-- A bus event is offered to each session alike, and touches nothing else. -/
theorem State.offerBusEvent_eq (s : State) (b : BusIx) (kind : BusEventKind) :
    s.offerBusEvent b kind = { s with sessions := (s.offerBusEvent b kind).sessions } ∧
      ∀ p, (s.offerBusEvent b kind).session p = (s.session p).offered b kind s.clock := by
  rw [State.offerBusEvent, State.offerBusEventTo_eq, State.offerBusEventTo_eq, State.offerBusEventTo_eq]
  refine ⟨rfl, fun p => ?_⟩
  simp only [State.modSession_session, State.modSession_clock]
  match p with
  | 0 => rfl
  | 1 => rfl
  | 2 => rfl

end offered

/-! ### The steps of recovery (R80 to R84) -/

theorem exec_recoveryClockRise (s : State) (b : BusIx) (dat : Bool) :
    exec (.recoveryClockRise b dat) s = .next (s.recoveryRise b dat).settle := rfl

theorem exec_recoveryPulseEnd (s : State) (b : BusIx) (dat : Bool) :
    exec (.recoveryPulseEnd b dat) s = .next (s.recoveryPulse b dat).settle := rfl

theorem exec_recoveryClockTimeout (s : State) (b : BusIx) :
    exec (.recoveryClockTimeout b) s = .next (s.recoveryTimeout b).settle := rfl

theorem exec_recoveryStopDataHeld (s : State) (b : BusIx) :
    exec (.recoveryStopDataHeld b) s = .next (s.recoveryStopHeld b).settle := rfl

theorem exec_stopSeen (s : State) (b : BusIx) (place : Place) : exec (.stopSeen b place) s = .next (s.stopSeen b place).settle := rfl

theorem exec_startSeen (s : State) (b : BusIx) (maker : Maker) (place : Place) :
    exec (.startSeen b maker place) s = .next (s.startSeen b maker place).settle := rfl

theorem exec_idleDetect (s : State) (b : BusIx) : exec (.idleDetect b) s = .next (s.idleSeen b).settle := rfl

section recovery

variable {s : State} {b : BusIx} {r : Recovery}

/-- The end of a recovery in IDLE, on a bus that has been updated by `before` (R82). -/
theorem State.recoveryEnds_modBus (s : State) (b : BusIx) (before : Bus → Bus) (r : Recovery) :
    (s.modBus b before).recoveryEnds b r =
      (if 0 < r.pulses then
          (s.modBus b fun x => { before x with engine := .idle, faultReason := none }).offerBusEvent b (.recovered .pulsed)
        else if r.fromFault = true then
          (s.modBus b fun x => { before x with engine := .idle, faultReason := none }).offerBusEvent b (.recovered .released)
        else s.modBus b fun x => { before x with engine := .idle, faultReason := none }).wake b := by
  rw [State.recoveryEnds, State.setEngine, State.modBus_modBus, State.modBus_modBus]

theorem State.modBus_id (s : State) (b : BusIx) : (s.modBus b fun x => x) = s := by
  rw [State.modBus, State.setBus, State.bus, Fin.getElem_fin, Vector.set_getElem_self]

theorem State.recoveryFault_eq (s : State) (b : BusIx) (why : FaultReason) : s.recoveryFault b why =
    (s.modBus b fun x => { x with
      counters := { x.counters with faults := satInc x.counters.faults }
      engine := .fault
      faultReason := some why }).offerBusEvent b (.fault why) := by
  rw [State.recoveryFault, State.countBus, State.modBus_modBus]

variable (hb : (s.bus b).engine = .recovery r)
include hb

theorem State.recoveryRise_low (h : r.step = .waitClock) :
    s.recoveryRise b false = s.modBus b fun x => { x with engine := .recovery { r with step := .pulsing } } := by
  rw [State.recoveryRise, hb]
  exact (if_neg (not_not.mpr h)).trans (if_pos rfl)

theorem State.recoveryRise_high (h : r.step = .waitClock) (busy : (s.bus b).line ≠ .free) :
    s.recoveryRise b true = s.modBus b fun x => { x with engine := .recovery { r with step := .stopping } } := by
  rw [State.recoveryRise, hb]
  exact (if_neg (not_not.mpr h)).trans ((if_neg (by decide)).trans (if_neg busy))

theorem State.recoveryRise_free (h : r.step = .waitClock) (free : (s.bus b).line = .free) :
    s.recoveryRise b true = s.recoveryEnds b r := by
  rw [State.recoveryRise, hb]
  exact (if_neg (not_not.mpr h)).trans ((if_neg (by decide)).trans (if_pos free))

theorem State.recoveryPulse_high (h : r.step = .pulsing) : s.recoveryPulse b true = s.modBus b fun x =>
    { x with engine := .recovery { r with step := .stopping, pulses := r.pulses + 1 } } := by
  rw [State.recoveryPulse, hb]
  exact (if_neg (not_not.mpr h)).trans (if_pos rfl)

theorem State.recoveryPulse_low (h : r.step = .pulsing) (more : r.pulses < 8) : s.recoveryPulse b false = s.modBus b fun x =>
    { x with engine := .recovery { r with pulses := r.pulses + 1 } } := by
  rw [State.recoveryPulse, hb]
  exact (if_neg (not_not.mpr h)).trans ((if_neg (by decide)).trans (if_neg (by omega)))

theorem State.recoveryPulse_ninth (h : r.step = .pulsing) (last : r.pulses = 8) :
    s.recoveryPulse b false = s.recoveryFault b .dataHeld := by
  rw [State.recoveryPulse, hb]
  exact (if_neg (not_not.mpr h)).trans ((if_neg (by decide)).trans (if_pos (by omega)))

theorem State.recoveryTimeout_fault : s.recoveryTimeout b = s.recoveryFault b .clockHeld := by
  rw [State.recoveryTimeout, hb]

theorem State.recoveryStopHeld_fault (h : r.step = .stopping) : s.recoveryStopHeld b = s.recoveryFault b .dataHeld := by
  rw [State.recoveryStopHeld, hb]
  exact if_pos h

theorem State.stopSeen_recovery (place : Place) : s.stopSeen b place = (s.setLine b .free).recoveryEnds b r := by
  rw [State.stopSeen, hb]

theorem State.startSeen_recovery (place : Place) :
    s.startSeen b .foreign place = ((s.setLine b .busy).setFollowing b true).recoveryEnds b r := by
  simp only [State.startSeen, hb]

theorem State.idleSeen_recovery (on : (s.bus b).line ≠ .off) : s.idleSeen b = (s.setLine b .free).recoveryEnds b r := by
  rw [State.idleSeen, if_neg on, hb]

end recovery

end Sys2Proof.Machine

namespace Sys2Proof.Proofs

open Sys2Proof Sys2Proof.Machine

/-- Settles O60: each step of recovery, its one end in IDLE, and the offer of an event to each session. -/
theorem recoverySteps : Obligations.RecoverySteps := by
  unfold Obligations.RecoverySteps
  refine ⟨fun s b r hb => ⟨fun h => ?_, fun h busy => ?_, fun h free none_ => ?_, fun h => ?_, fun h more => ?_, fun h last => ?_, ?_,
      fun h => ?_⟩,
    fun s b r ended hb hended => ⟨fun place => ?_, fun place => ?_, fun on => ?_⟩,
    fun s b kind => ⟨_, rfl, (s.offerBusEvent_eq b kind).1, fun p e hk ht hm => ?_⟩⟩
  · rw [exec_recoveryClockRise, State.recoveryRise_low hb h]
  · rw [exec_recoveryClockRise, State.recoveryRise_high hb h busy]
  · have ends := s.recoveryEnds_modBus b (fun x => x) r
    rw [State.modBus_id, if_neg (by omega)] at ends
    rw [exec_recoveryClockRise, State.recoveryRise_free hb h free, ends]
  · rw [exec_recoveryPulseEnd, State.recoveryPulse_high hb h]
  · rw [exec_recoveryPulseEnd, State.recoveryPulse_low hb h more]
  · rw [exec_recoveryPulseEnd, State.recoveryPulse_ninth hb h last, State.recoveryFault_eq]
  · rw [exec_recoveryClockTimeout, State.recoveryTimeout_fault hb, State.recoveryFault_eq]
  · rw [exec_recoveryStopDataHeld, State.recoveryStopHeld_fault hb h, State.recoveryFault_eq]
  · rw [exec_stopSeen, State.stopSeen_recovery hb, State.setLine, State.recoveryEnds_modBus, hended]
    rfl
  · rw [exec_startSeen, State.startSeen_recovery hb, State.setLine, State.setFollowing, State.modBus_modBus,
      State.recoveryEnds_modBus, hended]
  · rw [exec_idleDetect, State.idleSeen_recovery hb on, State.setLine, State.recoveryEnds_modBus, hended]
    rfl
  · obtain rfl : e = (s.session p).eventOf b kind s.clock := by
      cases e
      subst hk ht hm
      rw [Session.eventOf]
      cases (s.session p).busEvents[b] <;> rfl
    rw [(s.offerBusEvent_eq b kind).2 p]
    refine ⟨fun h => if_neg ?_, fun ho hmask hn => ⟨fun room => ?_, fun full => ?_⟩, fun ho hmask listed => ?_⟩
    · rintro ⟨ho, hmask⟩
      obtain h | h := h
      · exact h ho
      · rw [h] at hmask
        cases hmask
    · exact (if_pos ⟨ho, hmask⟩).trans ((if_neg hn).trans (if_pos room))
    · exact (if_pos ⟨ho, hmask⟩).trans ((if_neg hn).trans (if_neg (not_lt.mpr full)))
    · exact (if_pos ⟨ho, hmask⟩).trans (if_pos listed)

end Sys2Proof.Proofs
end

section
/-! PROOF. Foreign address bytes, and the acknowledge decision for the own address (chapter 8). -/

namespace Sys2Proof.Machine

theorem exec_addressTailDirectionBit (s : State) (b : BusIx) (addr : Addr) (dir : Direction) :
    exec (.addressTailDirectionBit b addr dir) s = .next (s.tailEnds b addr dir).settle := rfl

theorem exec_foreignOwnAddress (s : State) (b : BusIx) (dir : Direction) :
    exec (.foreignOwnAddress b dir) s = .next (s.foreignOwn b dir).settle := rfl

theorem exec_foreignAddressOther (s : State) (b : BusIx) (addr : Addr) (dir : Direction) :
    exec (.foreignAddressOther b addr dir) s = .next (s.foreignOther b addr dir).settle := rfl

/-! ### The lowest EMPTY slot (R134) -/

theorem Target.lowestEmpty_some {t : Target} {k : Fin 4} (h : t.slots[k].state = .empty)
    (first : ∀ j : Fin 4, j < k → t.slots[j].state ≠ .empty) : t.lowestEmpty = some k :=
  find?_finRange_eq_some.mpr ⟨decide_eq_true h, fun j hj => decide_eq_false (first j hj)⟩

theorem Target.lowestEmpty_none {t : Target} (h : ∀ j : Fin 4, t.slots[j].state ≠ .empty) : t.lowestEmpty = none := by
  simpa [Target.lowestEmpty] using h

/-! ### The acknowledge decision (R133) -/

/-- The bus with a refusal of the own address counted (R133). -/
def Bus.withRefusal (x : Bus) : Bus :=
  { x with counters := { x.counters with targetRefusals := satInc x.counters.targetRefusals } }

/-- The bus with a foreign read begun (R133). -/
def Bus.withRead (x : Bus) : Bus :=
  { x with target := { x.target with
      reading := some { fromBuffer := 0, fillBytes := 0, sending := none, released := false } } }

/-- The bus with slot `k` taken by a foreign write (R134). -/
def Bus.withWrite (k : Fin 4) (x : Bus) : Bus :=
  { x with target := { x.target with
      slots := x.target.slots.set k
        { state := .filling, data := [], overflow := false, followedByRead := false, completionTime := none } } }

section judge

variable {s : State} {b : BusIx} {dir : Direction} {o : PortIx} {k : Fin 4}

theorem State.judgeAddress_unowned (h : (s.bus b).target.owner = none) : s.judgeAddress b dir = s.modBus b Bus.withRefusal := by
  unfold State.judgeAddress
  dsimp only
  rw [h]
  rfl

theorem State.judgeAddress_full (ho : (s.bus b).target.owner = some o) (full : (s.bus b).target.lowestEmpty = none) :
    s.judgeAddress b .write = s.modBus b Bus.withRefusal := by
  unfold State.judgeAddress
  dsimp only
  rw [ho]
  dsimp only
  rw [full]
  rfl

theorem State.judgeAddress_write (ho : (s.bus b).target.owner = some o) (empty : (s.bus b).target.lowestEmpty = some k) :
    s.judgeAddress b .write = s.modBus b (Bus.withWrite k) := by
  unfold State.judgeAddress
  dsimp only
  rw [ho]
  dsimp only
  rw [empty]
  rfl

theorem State.judgeAddress_read (ho : (s.bus b).target.owner = some o) :
    s.judgeAddress b .read = s.modBus b Bus.withRead := by
  unfold State.judgeAddress
  dsimp only
  rw [ho]
  rfl

end judge

/-- What the acknowledge decision makes of a bus, by its unit (R133, R134). -/
inductive Bus.Judges (x : Bus) : Direction → (Bus → Bus) → Prop
  | unowned (dir : Direction) (ho : x.target.owner = none) : Judges x dir Bus.withRefusal
  | full (o : PortIx) (ho : x.target.owner = some o) (h : ∀ j : Fin 4, x.target.slots[j].state ≠ .empty) :
      Judges x .write Bus.withRefusal
  | write (o : PortIx) (k : Fin 4) (ho : x.target.owner = some o) (h : x.target.slots[k].state = .empty)
      (first : ∀ j : Fin 4, j < k → x.target.slots[j].state ≠ .empty) : Judges x .write (Bus.withWrite k)
  | read (o : PortIx) (ho : x.target.owner = some o) : Judges x .read Bus.withRead

section judges

variable {s : State} {b : BusIx} {dir : Direction} {addr : Addr} {f : Bus → Bus}

theorem State.judgeAddress_eq (h : (s.bus b).Judges dir f) : s.judgeAddress b dir = s.modBus b f := by
  generalize hx : s.bus b = x at h
  cases h with
  | unowned _ ho => exact State.judgeAddress_unowned (hx ▸ ho)
  | full o ho he => exact State.judgeAddress_full (hx ▸ ho) (hx ▸ Target.lowestEmpty_none he)
  | write o k ho he first => exact State.judgeAddress_write (hx ▸ ho) (hx ▸ Target.lowestEmpty_some he first)
  | read o ho => exact State.judgeAddress_read (hx ▸ ho)

/-- The decision looks at the unit alone. -/
theorem Bus.Judges.of_target {x y : Bus} (h : x.Judges dir f) (same : y.target = x.target) : y.Judges dir f := by
  cases h with
  | unowned _ ho => exact .unowned _ (same ▸ ho)
  | full o ho he => exact .full o (same ▸ ho) (same ▸ he)
  | write o k ho he first => exact .write o k (same ▸ ho) (same ▸ he) (same ▸ first)
  | read o ho => exact .read o (same ▸ ho)

/-- The engine enters TARGET and takes the decision. -/
theorem State.setEngine_judgeAddress (h : (s.bus b).Judges dir f) :
    (s.setEngine b .target).judgeAddress b dir = s.modBus b fun x => f { x with engine := .target } := by
  have same : ((s.setEngine b .target).bus b).Judges dir f := h.of_target (by rw [State.setEngine_bus_self])
  rw [State.judgeAddress_eq same, State.setEngine, State.modBus_modBus]

/-! ### The address tail (R74) -/

section tail

variable (hb : (s.bus b).engine = .active none)
include hb

theorem State.tailEnds_other (other : (s.bus b).config.own ≠ some addr) : s.tailEnds b addr dir = s.enterIdle b := by
  rw [State.tailEnds, hb]
  exact if_neg other

theorem State.tailEnds_own (own : (s.bus b).config.own = some addr) (h : (s.bus b).Judges dir f) :
    s.tailEnds b addr dir = s.modBus b fun x => f { x with engine := .target } := by
  rw [State.tailEnds, hb]
  exact (if_pos own).trans (State.setEngine_judgeAddress h)

end tail

/-! ### Address bytes that are followed (R133, R135) -/

theorem State.foreignAddress_unfollowed (h : (s.bus b).following = false) : s.foreignAddress b addr dir = s := by
  unfold State.foreignAddress
  dsimp only
  rw [if_pos (by rw [h]; rfl)]

theorem State.foreignOwn_unset (h : (s.bus b).config.own = none) : s.foreignOwn b dir = s := by rw [State.foreignOwn, h]

theorem State.foreignOwn_set (h : (s.bus b).config.own = some addr) : s.foreignOwn b dir = s.foreignAddress b addr dir := by
  rw [State.foreignOwn, h]

theorem State.foreignOther_own (h : (s.bus b).config.own = some addr) : s.foreignOther b addr dir = s := if_pos h

theorem State.foreignOther_other (h : (s.bus b).config.own ≠ some addr) :
    s.foreignOther b addr dir = s.foreignAddress b addr dir := if_neg h

theorem Engine.follows_of {e : Engine} (h : e = .idle ∨ (∃ w, e = .reserved w) ∨ e = .fault ∨ e = .target) : e.follows = true := by
  obtain rfl | ⟨w, rfl⟩ | rfl | rfl := h <;> rfl

section followed

variable (hf : (s.bus b).following = true) (he : (s.bus b).engine.follows = true)
include hf he

theorem State.foreignAddress_other (other : (s.bus b).config.own ≠ some addr) :
    s.foreignAddress b addr dir = (s.setFollowing b false).completeWrite b false := by
  unfold State.foreignAddress
  dsimp only
  rw [if_neg (by rw [hf, he]; decide), decide_eq_false other, if_neg Bool.false_ne_true, Bool.false_and]

theorem State.foreignAddress_own (own : (s.bus b).config.own = some addr) :
    s.foreignAddress b addr dir =
      (((s.setFollowing b false).completeWrite b (decide (dir = .read))).setEngine b .target).judgeAddress b dir := by
  unfold State.foreignAddress
  dsimp only
  rw [if_neg (by rw [hf, he]; decide), decide_eq_true own, if_pos rfl, Bool.true_and]

variable (none_ : ∀ j : Fin 4, (s.bus b).target.slots[j].state ≠ .filling)
include none_

omit hf he in
theorem State.completeWrite_idle (followed : Bool) :
    (s.setFollowing b false).completeWrite b followed = s.modBus b fun x => { x with following := false } :=
  State.completeWrite_none (by rw [State.setFollowing_bus_self]; exact Target.filling_none.mpr none_) followed

theorem State.foreignAddress_judged (own : (s.bus b).config.own = some addr) (h : (s.bus b).Judges dir f) :
    s.foreignAddress b addr dir = s.modBus b fun x => f { x with following := false, engine := .target } := by
  have same : ((s.modBus b fun x => { x with following := false }).bus b).Judges dir f :=
    h.of_target (by rw [State.modBus_bus_self])
  rw [State.foreignAddress_own hf he own, State.completeWrite_idle none_, State.setEngine_judgeAddress same,
    State.modBus_modBus]

end followed

/-! ### A write that a repeated start left open (R135) -/

theorem State.modBus_self {g : Bus → Bus} (h : g (s.bus b) = s.bus b) : s.modBus b g = s :=
  (State.modBus_congr s b g (fun x => x) h).trans (State.modBus_id s b)

/-- The report of a write leaves the engine, the unit's owner and the configuration as they are. -/
theorem State.offer_inbound_bus (s : State) (p : PortIx) (b : BusIx) (k : Fin 4) :
    ((s.offer p (.inbound b k)).bus b).engine = (s.bus b).engine ∧
      ((s.offer p (.inbound b k)).bus b).target.owner = (s.bus b).target.owner := by
  obtain h | ⟨f, h | h⟩ := s.offer_shape p (.inbound b k) <;> rw [h]
  · exact ⟨rfl, rfl⟩
  · exact ⟨rfl, rfl⟩
  · rw [State.releaseSource, State.modTarget, State.modBus_bus_self]
    exact ⟨rfl, rfl⟩

/-- The own address after a repeated start: the write is over, and the engine is in TARGET already. -/
theorem State.foreignAddress_after {u : State} (hf : (s.bus b).following = true) (he : (s.bus b).engine = .target)
    (own : (s.bus b).config.own = some addr)
    (written : (s.setFollowing b false).completeWrite b (decide (dir = .read)) = u) (stays : (u.bus b).engine = .target)
    (h : (u.bus b).Judges dir f) : s.foreignAddress b addr dir = u.modBus b f := by
  rw [State.foreignAddress_own hf (by rw [he]; rfl) own, written, State.setEngine, State.modBus_self]
  · exact State.judgeAddress_eq h
  · rw [← stays]

end judges

end Sys2Proof.Machine

namespace Sys2Proof.Proofs

open Sys2Proof Sys2Proof.Machine

/-- Settles O58: the end of an address tail, and the address bytes that are followed, each with the acknowledge decision. -/
theorem foreignAddresses : Obligations.ForeignAddresses := by
  unfold Obligations.ForeignAddresses
  refine ⟨fun s b addr dir hb => ⟨fun other => ?_, fun own ho => ?_, fun o own ho hd => ?_, fun o k own ho hd hk first => ?_,
      fun o own ho hd full => ?_⟩,
    fun s b addr o he hf own ho none_ => ?_, fun s b dir h => ?_, fun s b addr dir h => ?_,
    fun s u b addr dir o k he hf own ho hd hk first hu => ?_, fun s u b addr dir k he hf hd hk first hu => ?_,
    fun s b addr o k he hf own ho hk first none_ => ?_, fun s b addr dir he hf own h none_ => ?_,
    fun s b addr dir other hf he none_ => ?_, fun s b addr dir o k other hf he ho hd hk first => ?_⟩
  · rw [exec_addressTailDirectionBit, State.tailEnds_other hb other]
    rfl
  · rw [exec_addressTailDirectionBit, State.tailEnds_own hb own (.unowned _ ho)]
    rfl
  · subst hd
    rw [exec_addressTailDirectionBit, State.tailEnds_own hb own (.read o ho)]
    rfl
  · subst hd
    rw [exec_addressTailDirectionBit, State.tailEnds_own hb own (.write o k ho hk first)]
    rfl
  · subst hd
    rw [exec_addressTailDirectionBit, State.tailEnds_own hb own (.full o ho full)]
    rfl
  · rw [exec_foreignOwnAddress, State.foreignOwn_set own,
      State.foreignAddress_judged hf (Engine.follows_of he) none_ own (.read o ho)]
    rfl
  · rw [exec_foreignOwnAddress]
    obtain unset | unfollowed := h
    · rw [State.foreignOwn_unset unset]
    · cases own : (s.bus b).config.own with
      | none => rw [State.foreignOwn_unset own]
      | some addr => rw [State.foreignOwn_set own, State.foreignAddress_unfollowed unfollowed]
  · rw [exec_foreignAddressOther]
    by_cases own : (s.bus b).config.own = some addr
    · rw [State.foreignOther_own own]
    · rw [State.foreignOther_other own, State.foreignAddress_unfollowed (h.resolve_left own)]
  · have filling := Target.filling_some hk first
    have written : (s.setFollowing b false).completeWrite b (decide (dir = .read)) = u := by
      rw [State.completeWrite_kept (k := k) (p := o) (by rw [State.setFollowing_bus_self]; exact filling)
        (by rw [State.setFollowing_bus_self]; exact hd) (by rw [State.setFollowing_bus_self]; exact ho), hu,
        State.setFollowing, State.modBus_modBus]
      rfl
    obtain ⟨engine, owner⟩ : (u.bus b).engine = .target ∧ (u.bus b).target.owner = some o := by
      rw [hu, (State.offer_inbound_bus ..).1, (State.offer_inbound_bus ..).2, State.modBus_bus_self]
      exact ⟨he, ho⟩
    rw [exec_foreignOwnAddress, State.foreignOwn_set own]
    refine ⟨?_, fun m hd hm before => ?_, fun hd full => ?_⟩
    · rintro rfl
      rw [State.foreignAddress_after hf he own written engine (.read o owner)]
      rfl
    · subst hd
      rw [State.foreignAddress_after hf he own written engine (.write o m owner hm before)]
      rfl
    · subst hd
      rw [State.foreignAddress_after hf he own written engine (.full o owner full)]
      rfl
  · have written (followed : Bool) : (s.setFollowing b false).completeWrite b followed = u := by
      rw [State.completeWrite_dropped (k := k) (by rw [State.setFollowing_bus_self]; exact Target.filling_some hk first)
        (by rw [State.setFollowing_bus_self]; exact hd), hu, State.setFollowing, State.modBus_modBus]
    have engine : (u.bus b).engine = .target := by
      rw [hu, State.modBus_bus_self]
      exact he
    have owner : (u.bus b).target.owner = (s.bus b).target.owner := by rw [hu, State.modBus_bus_self]
    refine ⟨fun other => ?_, fun own ho => ?_, fun o own ho => ⟨?_, fun m hdir hm before => ?_⟩⟩
    · rw [exec_foreignAddressOther, State.foreignOther_other other, State.foreignAddress_other hf (by rw [he]; rfl) other,
        written]
    · rw [exec_foreignOwnAddress, State.foreignOwn_set own,
        State.foreignAddress_after hf he own (written _) engine (.unowned _ (owner.trans ho))]
      rfl
    · rintro rfl
      rw [exec_foreignOwnAddress, State.foreignOwn_set own,
        State.foreignAddress_after hf he own (written _) engine (.read o (owner.trans ho))]
      rfl
    · subst hdir
      rw [exec_foreignOwnAddress, State.foreignOwn_set own,
        State.foreignAddress_after hf he own (written _) engine (.write o m (owner.trans ho) hm before)]
      rfl
  · rw [exec_foreignOwnAddress, State.foreignOwn_set own, State.foreignAddress_judged hf (Engine.follows_of he) none_ own
      (.write o k ho hk fun j hj => by rw [first j hj]; decide)]
    rfl
  · rw [exec_foreignOwnAddress, State.foreignOwn_set own]
    obtain ho | ⟨rfl, full⟩ := h
    · rw [State.foreignAddress_judged hf (Engine.follows_of he) none_ own (.unowned _ ho)]
      rfl
    · cases ho : (s.bus b).target.owner with
      | none =>
        rw [State.foreignAddress_judged hf (Engine.follows_of he) none_ own (.unowned _ ho)]
        rfl
      | some o =>
        rw [State.foreignAddress_judged hf (Engine.follows_of he) none_ own (.full o ho fun j => by rw [full j]; decide)]
        rfl
  · rw [exec_foreignAddressOther, State.foreignOther_other other, State.foreignAddress_other hf (Engine.follows_of he) other,
      State.completeWrite_idle none_]
  · rw [exec_foreignAddressOther, State.foreignOther_other other, State.foreignAddress_other hf (by rw [he]; rfl) other,
      State.completeWrite_kept (k := k) (p := o) (by rw [State.setFollowing_bus_self]; exact Target.filling_some hk first)
        (by rw [State.setFollowing_bus_self]; exact hd) (by rw [State.setFollowing_bus_self]; exact ho),
      State.setFollowing, State.modBus_modBus]
    rfl

end Sys2Proof.Proofs
end

section
/-! PROOF. The bytes of a transfer to the own address, and its end (chapter 8). -/

namespace Sys2Proof.Machine

theorem exec_targetWriteByte (s : State) (b : BusIx) (y : Byte) : exec (.targetWriteByte b y) s = .next (s.targetByte b y).settle := rfl

theorem exec_targetReadByteTaken (s : State) (b : BusIx) (ack : Bool) :
    exec (.targetReadByteTaken { bus := b, ack := ack }) s = .next (s.targetTake b ack).settle := rfl

/-! ### Bytes (R135, R137) -/

section bytes

variable {s : State} {b : BusIx} {k : Fin 4} {r : ReadProgress} (hb : (s.bus b).engine = .target)
include hb

theorem State.targetByte_stored (hf : (s.bus b).following = false) (hk : (s.bus b).target.filling = some k) (y : Byte) :
    s.targetByte b y = s.modBus b fun x => { x with
      target := { x.target with
        slots := x.target.slots.set k (if x.target.slots[k].data.length < 32 then
            ({ x.target.slots[k] with data := x.target.slots[k].data ++ [y] } : InSlot)
          else { x.target.slots[k] with overflow := true }) } } := by
  rw [State.targetByte, if_pos (by rw [hb, hf]; rfl), State.storeByte, hk]
  rfl

variable (hr : (s.bus b).target.reading = some r)
include hr

theorem State.targetTake_eq (ack : Bool) : s.targetTake b ack =
    if r.released then s
    else if ack then s.takeByte b r
    else if r.sending.isNone then s
    else s.modTarget b fun y => { y with reading := some { r with sending := none, released := true } } := by
  rw [State.targetTake, if_pos hb, State.readAcknowledged, hr]

theorem State.targetTake_released (h : r.released = true) (ack : Bool) : s.targetTake b ack = s :=
  (State.targetTake_eq hb hr ack).trans (if_pos h)

variable (h : r.released = false)
include h

theorem State.targetTake_ack : s.targetTake b true = s.takeByte b r :=
  (State.targetTake_eq hb hr true).trans ((if_neg (by rw [h]; decide)).trans (if_pos rfl))

theorem State.targetTake_nack {y : Byte} (hy : r.sending = some y) : s.targetTake b false =
    s.modTarget b fun y => { y with reading := some { r with sending := none, released := true } } :=
  (State.targetTake_eq hb hr false).trans ((if_neg (by rw [h]; decide)).trans ((if_neg (by decide)).trans
    (if_neg (by rw [hy]; exact Bool.false_ne_true))))

omit hb hr h in
theorem State.takeByte_next {y : Byte} {rest : List Byte} (ho : (s.bus b).target.outbound = y :: rest) :
    s.takeByte b r = s.modBus b fun x => { x with
      target := { x.target with
        outbound := rest
        reading := some { r with fromBuffer := r.fromBuffer + 1, sending := some y } } } := by
  rw [State.takeByte, ho]
  rfl

omit hb hr h in
theorem State.takeByte_fill (ho : (s.bus b).target.outbound = []) :
    s.takeByte b r = s.modBus b fun x => { x with
      counters := { x.counters with underruns := satInc x.counters.underruns }
      target := { x.target with
        reading := some { r with fillBytes := r.fillBytes + 1, sending := some x.config.fill } } } := by
  rw [State.takeByte, ho]
  dsimp only
  rw [State.countBus, State.modTarget, State.modBus_modBus]
  exact State.modBus_congr s b _ _ rfl

end bytes

/-! ### Bits that the 3400 holds low (R135, R137, R142) -/

section holdsLow

variable {t : Target} {bit : Fin 9}

theorem Target.holdsLow_write {k : Fin 4} (hk : t.filling = some k) :
    t.holdsLow bit = (decide (bit.val = 8) && !t.slots[k].overflow) := by
  rw [Target.holdsLow, hk]

theorem Target.holdsLow_none (hw : t.filling = none) (hr : t.reading = none) : t.holdsLow bit = false := by
  rw [Target.holdsLow, hw, hr]

theorem Target.holdsLow_sending {r : ReadProgress} {y : Byte} (hw : t.filling = none) (hr : t.reading = some r)
    (hy : r.sending = some y) : t.holdsLow bit = true ↔ bit.val < 8 ∧ y.getMsbD bit.val = false := by
  simp only [Target.holdsLow, hw, hr, hy]
  split
  next h => simp [sentBit, h]
  next h => simp [h]

theorem Target.holdsLow_acknowledge {r : ReadProgress} (hw : t.filling = none) (hr : t.reading = some r)
    (hy : r.sending = none) : t.holdsLow bit = !r.released := by
  simp only [Target.holdsLow, hw, hr, hy]

theorem Target.inTransfer_write {k : Fin 4} (h : t.filling = some k) : t.inTransfer = true := by
  rw [Target.inTransfer, h]
  rfl

theorem Target.inTransfer_read {r : ReadProgress} (h : t.reading = some r) : t.inTransfer = true := by
  rw [Target.inTransfer, h, Option.isSome_some, Bool.or_true]

theorem Target.inTransfer_eq_false : t.inTransfer = false ↔ t.filling = none ∧ t.reading = none := by
  rw [Target.inTransfer, Bool.or_eq_false_iff, Option.isSome_eq_false_iff, Option.isNone_iff_eq_none,
    Option.isSome_eq_false_iff, Option.isNone_iff_eq_none]

end holdsLow

/-! ### The end of a transfer (R136 to R138, R140 to R142) -/

section ends

variable {s u : State} {b : BusIx}

/-- The report of a write, or a tally, leaves whether an address byte is followed as it is. -/
theorem State.offer_following (s : State) (p : PortIx) {src : Source} (hs : src.ofBus = true) (b : BusIx) :
    ((s.offer p src).bus b).following = (s.bus b).following := by
  have target (t : State) (c : BusIx) (f : Target → Target) : ((t.modTarget c f).bus b).following = (t.bus b).following := by
    rw [State.modTarget, State.modBus_bus]
    split
    next h => rw [h]
    next => rfl
  obtain h | ⟨f, h | h⟩ := s.offer_shape p src <;> rw [h]
  · rfl
  · cases src with
    | lease | group | watch => cases hs
    | record | busEvent => rfl
    | inbound c k => exact target (s.modSession p f) c _
    | tally c => exact target (s.modSession p f) c _

theorem State.offer_tally_setFollowing (s : State) (p : PortIx) (b : BusIx) (x : Bool) :
    (s.offer p (.tally b)).setFollowing b x = (s.setFollowing b x).offer p (.tally b) := by
  have report : (s.setFollowing b x).reportOf p (.tally b) = s.reportOf p (.tally b) := by
    simp only [State.reportOf, State.setFollowing_bus_self]
  have released (f : Session → Session) : ((s.modSession p f).modTarget b fun t => { t with tally := none }).setFollowing b x =
      ((s.setFollowing b x).modSession p f).modTarget b fun t => { t with tally := none } := by
    rw [State.modTarget, State.setFollowing, State.modBus_modBus]
    exact (State.modBus_modBus (s.modSession p f) b (fun y => { y with following := x }) fun y =>
      { y with target := { y.target with tally := none } }).symm
  by_cases listed : Source.tally b ∈ (s.session p).admission
  · rw [State.offer_listed listed, State.offer_listed (s := s.setFollowing b x) listed]
  · by_cases room : (s.session p).outbox.length < 16
    · rw [State.offer_admitted listed room, State.offer_admitted (s := s.setFollowing b x) listed room, State.admitOne,
        State.admitOne, report]
      cases s.reportOf p (.tally b) with
      | none => rfl
      | some r => exact released _
    · rw [State.offer_waits listed (not_lt.mp room), State.offer_waits (s := s.setFollowing b x) listed (not_lt.mp room)]
      rfl

theorem Target.bufferAfter_eq (t : Target) : t.bufferAfter = t.deferred.getD t.outbound := by
  rw [Target.bufferAfter]
  cases t.deferred <;> rfl

theorem State.readEnded_eq (s : State) (b : BusIx) : s.readEnded b = s.modBus b Bus.afterRead :=
  State.modBus_congr s b _ _ (by rw [Bus.afterRead, Target.bufferAfter_eq])

theorem Target.tallied_eq (t : Target) (r : ReadProgress) (clock : Clock) :
    t.tallied r clock = mergeTally t.tally r clock (t.deferred.getD t.outbound).length := by
  rw [Target.tallied, Target.bufferAfter_eq]
  cases t.tally <;> rfl

theorem Target.fills.filling {t : Target} {k : Fin 4} (h : t.fills k) : t.filling = some k := Target.filling_some h.1 h.2

/-- A transfer that is cut off ends as the statement of its ends has it. -/
theorem TransferEnds.cutOff (h : TransferEnds s b u) : s.cutOff b = u := by
  unfold State.cutOff
  cases h with
  | none hw hr => rw [State.completeWrite_none (Target.filling_none.mpr hw), State.endRead_none hr]
  | write k p hw hr ho hd =>
    rw [State.completeWrite_kept hw.filling hd ho, State.endRead_none]
    rw [State.offer_inbound_reading, State.modBus_bus_self]
    exact hr
  | markedWrite k hw hr hd =>
    rw [State.completeWrite_dropped hw.filling hd, State.endRead_none]
    rw [State.modBus_bus_self]
    exact hr
  | read r hw hr h =>
    rw [State.completeWrite_none (Target.filling_none.mpr hw), State.endRead_untallied hr, State.readEnded_eq]
    obtain hd | ho | ⟨p, ho, hm⟩ := h
    · exact .inl hd
    · exact .inr fun p hp => by rw [ho] at hp; cases hp
    · refine .inr fun q hq => ?_
      obtain rfl : p = q := by simpa [ho] using hq
      exact hm
  | talliedRead r p hw hr ho hd hm =>
    rw [State.completeWrite_none (Target.filling_none.mpr hw), State.endRead_tallied hr hd ho hm, State.readEnded_eq,
      State.modBus_modBus, ← Target.tallied_eq]
    exact congrArg (fun t : State => t.offer p (.tally b)) (State.modBus_congr s b _ _ rfl)

/-- A read that ends at a repeated start ends as one that is cut off. -/
theorem TransferEnds.endRead (h : TransferEnds s b u) (hr : (s.bus b).target.reading ≠ .none) : s.endRead b = u := by
  rw [← h.cutOff, State.cutOff]
  cases h with
  | none _ h => exact absurd h hr
  | write _ _ _ h => exact absurd h hr
  | markedWrite _ _ h => exact absurd h hr
  | read _ hw => rw [State.completeWrite_none (Target.filling_none.mpr hw)]
  | talliedRead _ _ hw => rw [State.completeWrite_none (Target.filling_none.mpr hw)]

theorem TransferEnds.faultReason (h : TransferEnds s b u) : (u.bus b).faultReason = (s.bus b).faultReason := by
  rw [← h.cutOff, (State.cutOff_calm _ b).reasons]

theorem TransferEnds.congr {v : State} (h : TransferEnds s b u) (same : u = v) : TransferEnds s b v := same ▸ h

section before

variable {before : Bus → Bus} (same : (before (s.bus b)).target = (s.bus b).target)
include same

/-- A write that ends, on a bus that has been updated by `before`. -/
theorem transferEnds_write {k : Fin 4} {p : PortIx} (hw : (s.bus b).target.fills k) (hr : (s.bus b).target.reading = none)
    (ho : (s.bus b).target.owner = some p) (hd : (s.bus b).target.discard = false) :
    TransferEnds (s.modBus b before) b ((s.modBus b fun x => { before x with
      counters := { (before x).counters with targetWrites := satInc (before x).counters.targetWrites }
      target := { (before x).target with
        slots := (before x).target.slots.set k
          ({ (before x).target.slots[k] with
             state := .complete
             followedByRead := false
             completionTime := some s.clock } : InSlot) } }).offer p (.inbound b k)) := by
  have h := TransferEnds.write (s := s.modBus b before) (b := b) k p
  rw [State.modBus_bus_self, same, State.modBus_modBus] at h
  exact h hw hr ho hd

/-- A write under a discard mark that ends, on a bus that has been updated by `before`. -/
theorem transferEnds_markedWrite {k : Fin 4} (hw : (s.bus b).target.fills k) (hr : (s.bus b).target.reading = none)
    (hd : (s.bus b).target.discard = true) :
    TransferEnds (s.modBus b before) b (s.modBus b fun x => { before x with
      counters := { (before x).counters with targetWrites := satInc (before x).counters.targetWrites }
      target := { (before x).target with slots := (before x).target.slots.set k InSlot.empty, discard := false } }) := by
  have h := TransferEnds.markedWrite (s := s.modBus b before) (b := b) k
  rw [State.modBus_bus_self, same, State.modBus_modBus] at h
  exact h hw hr hd

section read

variable {r : ReadProgress} {buffer : List Byte} (hw : ∀ k : Fin 4, (s.bus b).target.slots[k].state ≠ .filling)
  (hr : (s.bus b).target.reading = some r) (hbuffer : (s.bus b).target.bufferAfter = buffer)
include hw hr hbuffer

/-- A read that ends without a tally, on a bus that has been updated by `before`. -/
theorem transferEnds_read (h : (s.bus b).target.discard = true ∨ (s.bus b).target.owner = none ∨
      ∃ p, (s.bus b).target.owner = some p ∧ (s.session p).maskTargetRead = false) :
    TransferEnds (s.modBus b before) b (s.modBus b fun x => { before x with
      counters := { (before x).counters with targetReads := satInc (before x).counters.targetReads }
      target := { (before x).target with reading := none, deferred := none, outbound := buffer, discard := false } }) := by
  have ends := TransferEnds.read (s := s.modBus b before) (b := b) r
  rw [State.modBus_bus_self, same, State.modBus_modBus] at ends
  refine (ends hw hr h).congr (State.modBus_congr s b _ _ ?_)
  rw [← hbuffer, ← same]
  rfl

/-- A read that ends with a tally, on a bus that has been updated by `before`. -/
theorem transferEnds_talliedRead {p : PortIx} (ho : (s.bus b).target.owner = some p)
    (hd : (s.bus b).target.discard = false) (hm : (s.session p).maskTargetRead = true) :
    TransferEnds (s.modBus b before) b ((s.modBus b fun x => { before x with
      counters := { (before x).counters with targetReads := satInc (before x).counters.targetReads }
      target := { (before x).target with
        reading := none, deferred := none, outbound := buffer, discard := false
        tally := some ((s.bus b).target.tallied r s.clock) } }).offer p (.tally b)) := by
  have ends := TransferEnds.talliedRead (s := s.modBus b before) (b := b) r p
  rw [State.modBus_bus_self, same, State.modBus_modBus] at ends
  refine (ends hw hr ho hd hm).congr (congrArg (fun t : State => t.offer p (.tally b)) (State.modBus_congr s b _ _ ?_))
  rw [← hbuffer, ← same]
  rfl

end read

end before

/-! ### Starts and stops in TARGET (R133, R135, R137, R142) -/

/-- A start or stop at a place that the 3400 does not hold low, and the bus errors counted with it: one more in the middle
of a byte of a transfer (R142). -/
def Bus.MeetsEnd (x : Bus) (place : Place) (errors : Half) : Prop :=
  ((place = .boundary ∨ place = .inRepeatedStart ∨ x.following = true ∨ x.target.inTransfer = false) ∧
      errors = x.counters.busErrors) ∨
    (x.following = false ∧ x.target.inTransfer = true ∧ errors = satInc x.counters.busErrors ∧
      ∃ bit, place = .inByte bit ∧ x.target.holdsLow bit = false)

variable {place : Place} {errors : Half}

theorem State.heldLow_false (h : (s.bus b).MeetsEnd place errors) : s.heldLow b place = false := by
  cases place with
  | boundary => rfl
  | inRepeatedStart => rfl
  | inByte bit =>
    rw [State.heldLow]
    obtain ⟨h | h | h | h, -⟩ | ⟨-, -, -, bit', h, low⟩ := h
    · cases h
    · cases h
    · rw [h, Bool.not_true, Bool.false_and]
    · obtain ⟨hw, hr⟩ := Target.inTransfer_eq_false.mp h
      rw [Target.holdsLow_none hw hr, Bool.and_false]
    · cases h
      rw [low, Bool.and_false]

theorem State.heldLow_true {bit : Fin 9} (hf : (s.bus b).following = false) (low : (s.bus b).target.holdsLow bit = true) :
    s.heldLow b (.inByte bit) = true := by rw [State.heldLow, hf, low]; rfl

theorem State.countCutOff_eq (h : (s.bus b).MeetsEnd place errors) :
    s.countCutOff b place = s.modBus b fun x => { x with counters := { x.counters with busErrors := errors } } := by
  rw [State.countCutOff]
  obtain ⟨none_, rfl⟩ | ⟨hf, ht, rfl, bit, rfl, -⟩ := h
  · rw [if_neg, State.modBus_self rfl]
    rw [Bool.and_eq_true, Bool.and_eq_true]
    rintro ⟨⟨mid, ht⟩, hf⟩
    obtain rfl | rfl | h | h := none_
    · cases mid
    · cases mid
    · rw [h] at hf
      cases hf
    · rw [h] at ht
      cases ht
  · rw [if_pos (by rw [ht, hf]; rfl)]
    exact State.modBus_congr s b _ _ rfl

variable {ended : State} (hb : (s.bus b).engine = .target) (meets : (s.bus b).MeetsEnd place errors)
include hb meets

/-- A stop in TARGET ends the transfer, and the engine leaves TARGET. -/
theorem State.stopSeen_target (h : TransferEnds (s.modBus b fun x => { x with
      line := .free
      counters := { x.counters with busErrors := errors } }) b ended) :
    s.stopSeen b place = leaveTarget b ended := by
  have freed : ((s.setLine b .free).bus b).MeetsEnd place errors := by
    rw [State.setLine_bus_self]
    exact meets
  have cut : ((s.setLine b .free).countCutOff b place).cutOff b = ended := by
    rw [State.countCutOff_eq freed, State.setLine, State.modBus_modBus, h.cutOff]
  have reason : (ended.bus b).faultReason = ((s.setLine b .free).bus b).faultReason := by
    rw [← h.cutOff, (State.cutOff_calm _ b).reasons, State.modBus_bus_self, State.setLine_bus_self]
  rw [State.stopSeen, hb]
  dsimp only
  rw [State.heldLow_false meets, if_neg (by decide), State.stopInTarget, cut, leaveTarget, ← reason]
  cases (ended.bus b).faultReason with
  | none => rfl
  | some why =>
    dsimp only
    rw [if_pos Option.isSome_some, State.leaveFault, State.setEngine, State.modBus_modBus]

/-- A start in TARGET that ends a transfer: a repeated start after a read, or one in the middle of a byte. -/
theorem State.startSeen_target (he : (s.bus b).target.reading ≠ none ∨ ((s.bus b).following = false ∧ ∃ bit, place = .inByte bit))
    (h : TransferEnds (s.modBus b fun x => { x with
      line := .busy
      counters := { x.counters with busErrors := errors } }) b ended) :
    s.startSeen b .foreign place = ended.setFollowing b true := by
  have busy : ((s.setLine b .busy).bus b).MeetsEnd place errors := by
    rw [State.setLine_bus_self]
    exact meets
  have counted : (s.setLine b .busy).countCutOff b place = s.modBus b fun x => { x with
      line := .busy
      counters := { x.counters with busErrors := errors } } := by
    rw [State.countCutOff_eq busy, State.setLine, State.modBus_modBus]
  simp only [State.startSeen, hb]
  rw [State.heldLow_false meets, if_neg (by decide), State.startInTarget, counted, State.setLine_bus_self]
  dsimp only
  split
  next => rw [h.cutOff]
  next notMid =>
    rw [h.endRead]
    rw [State.modBus_bus_self]
    refine he.resolve_right ?_
    rintro ⟨hf, bit, rfl⟩
    exact notMid (by rw [hf]; rfl)

omit meets in
/-- A repeated start leaves a write to the next address byte. -/
theorem State.startSeen_write (hr : (s.bus b).target.reading = none) (h : place = .boundary ∨ (s.bus b).following = true) :
    s.startSeen b .foreign place = s.modBus b fun x => { x with line := .busy, following := true } := by
  have quiet : (s.bus b).MeetsEnd place (s.bus b).counters.busErrors :=
    .inl ⟨h.imp_right fun h => .inr (.inl h), rfl⟩
  have busy : ((s.setLine b .busy).bus b).MeetsEnd place (s.bus b).counters.busErrors := by
    rw [State.setLine_bus_self]
    exact quiet
  have counted : (s.setLine b .busy).countCutOff b place = s.setLine b .busy := by
    rw [State.countCutOff_eq busy, State.modBus_self]
    rw [State.setLine_bus_self]
  have notMid : ¬(isMid place && !(s.bus b).following) = true := by
    obtain rfl | h := h
    · exact Bool.false_ne_true
    · rw [h, Bool.not_true, Bool.and_false]
      decide
  simp only [State.startSeen, hb]
  rw [State.heldLow_false quiet, if_neg (by decide), State.startInTarget, counted, State.setLine_bus_self]
  dsimp only
  rw [if_neg notMid, State.endRead_none (by rw [State.setLine_bus_self]; exact hr), State.setLine, State.setFollowing,
    State.modBus_modBus]

end ends

/-- Leaving TARGET without a fault behind it. -/
theorem leaveTarget_idle {u : State} {b : BusIx} (h : (u.bus b).faultReason = none) :
    leaveTarget b u = (toIdle b u).setFollowing b false := by
  rw [leaveTarget, h]
  rfl

theorem State.wake_following (s : State) (b : BusIx) : ((s.wake b).bus b).following = (s.bus b).following := by
  obtain h | ⟨-, -, h⟩ := s.wake_bus b b <;> rw [h]

/-- A transfer that ended with no address byte followed. -/
theorem leaveTarget_unfollowed {u : State} {b : BusIx} (h : (u.bus b).faultReason = none) (hf : (u.bus b).following = false) :
    leaveTarget b u = toIdle b u := by
  rw [leaveTarget_idle h]
  refine State.modBus_self ?_
  have unfollowed : ((toIdle b u).bus b).following = false := by
    rw [toIdle, State.wake_following, State.setEngine_bus_self]
    exact hf
  rw [← unfollowed]

end Sys2Proof.Machine

namespace Sys2Proof.Proofs

open Sys2Proof Sys2Proof.Machine

/-- Settles O59: the bytes of a transfer, and its one end by a stop, a repeated start or a cut-off. -/
theorem targetBytes : Obligations.TargetBytes := by
  unfold Obligations.TargetBytes
  refine ⟨fun s b y k hb hf hk first => ?_, fun s b r y rest hb hr rel ho => ?_, fun s b r hb hr rel ho => ?_,
    fun s b r hb hr => ⟨fun y rel hy => ?_, fun ack rel => ?_⟩, fun s b bit hb hf low => ⟨?_, ?_⟩,
    fun t bit => ⟨fun k hk first => ?_, fun none_ => ⟨fun hr => ?_, fun r hr => ⟨fun y hy => ?_, fun hy => ?_⟩⟩⟩,
    fun s u b place errors p k hb hplace hk first hr ho reason kept dropped => ?_,
    fun s u b p r buffer place errors hb none_ hr ho reason hf hplace hbuffer => ?_,
    fun s b place hb hr h => ?_, fun s u b bit p k hb hf hk first hr ho low kept dropped => ?_,
    fun s ended b place errors hb meets => ⟨fun h => ?_, fun he h => ?_⟩,
    fun s b place hb hr none_ => ?_⟩
  · rw [exec_targetWriteByte, State.targetByte_stored hb hf (Target.filling_some hk first)]
  · rw [exec_targetReadByteTaken, State.targetTake_ack hb hr rel, State.takeByte_next ho]
  · rw [exec_targetReadByteTaken, State.targetTake_ack hb hr rel, State.takeByte_fill ho]
  · rw [exec_targetReadByteTaken, State.targetTake_nack hb hr rel hy]
    rfl
  · rw [exec_targetReadByteTaken, State.targetTake_released hb hr rel]
  · simp only [exec_startSeen, State.startSeen, hb]
    rw [State.heldLow_true hf low, if_pos rfl]
  · rw [exec_stopSeen, State.stopSeen, hb]
    dsimp only
    rw [State.heldLow_true hf low, if_pos rfl]
  · rw [Target.holdsLow_write (Target.filling_some hk first)]
    simp
  · exact Target.holdsLow_none (Target.filling_none.mpr none_) hr
  · exact Target.holdsLow_sending (Target.filling_none.mpr none_) hr hy
  · exact Target.holdsLow_acknowledge (Target.filling_none.mpr none_) hr hy
  · have meets : (s.bus b).MeetsEnd place errors := by
      obtain ⟨quiet, he⟩ | ⟨hf, he, mid⟩ := hplace
      · exact .inl ⟨quiet.imp_right fun h => .inr (.inl h), he⟩
      · exact .inr ⟨hf, Target.inTransfer_write (Target.filling_some hk first), he, mid⟩
    have ends : TransferEnds (s.modBus b fun x => { x with
        line := .free
        counters := { x.counters with busErrors := errors } }) b u := by
      cases hd : (s.bus b).target.discard with
      | false =>
        rw [kept hd]
        exact transferEnds_write rfl ⟨hk, first⟩ hr ho hd
      | true =>
        rw [dropped hd]
        exact transferEnds_markedWrite rfl ⟨hk, first⟩ hr hd
    rw [exec_stopSeen, State.stopSeen_target hb meets ends, leaveTarget_idle (ends.faultReason.trans _)]
    · rfl
    · rw [State.modBus_bus_self]
      exact reason
  · have meets : (s.bus b).MeetsEnd place errors := by
      obtain ⟨quiet, he⟩ | ⟨he, mid⟩ := hplace
      · exact .inl ⟨.inl quiet, he⟩
      · exact .inr ⟨hf, Target.inTransfer_read hr, he, mid⟩
    have reads : (s.bus b).target.reading ≠ none := by simp [hr]
    have after : (s.bus b).target.bufferAfter = buffer := hbuffer.symm
    have free : (s.modBus b fun x => { x with
        line := .free
        counters := { x.counters with busErrors := errors } }) = s.modBus b fun x => { x with
          line := .free
          following := false
          counters := { x.counters with busErrors := errors } } := State.modBus_congr s b _ _ (by rw [hf])
    have reason' : ((s.modBus b fun x => { x with
        line := .free
        counters := { x.counters with busErrors := errors } }).bus b).faultReason = none := by
      rw [State.modBus_bus_self]
      exact reason
    refine ⟨fun line following h hu => ⟨fun hl hfl => ?_, fun hl hfl => ?_⟩,
      fun line following tally hd hm ht hu => ?_⟩
    on_goal 3 =>
      have total : tally = (s.bus b).target.tallied r s.clock := by
        subst after
        exact ht
      refine ⟨fun hl hfl => ?_, fun hl hfl => ?_⟩
    all_goals subst hl hfl
    · have ends : TransferEnds (s.modBus b fun x => { x with
          line := .free
          counters := { x.counters with busErrors := errors } }) b u := by
        rw [hu, free]
        exact transferEnds_read rfl none_ hr after (h.imp_right fun hm => .inr ⟨p, ho, hm⟩)
      rw [exec_stopSeen, State.stopSeen_target hb meets ends, leaveTarget_unfollowed (ends.faultReason.trans reason')]
      · rfl
      · rw [hu, State.modBus_bus_self]
    · have ends := transferEnds_read (s := s) (b := b) (before := fun x => { x with
        line := .busy
        counters := { x.counters with busErrors := errors } }) rfl none_ hr after (h.imp_right fun hm => .inr ⟨p, ho, hm⟩)
      rw [exec_startSeen, State.startSeen_target hb meets (.inl reads) ends, hu, State.setFollowing, State.modBus_modBus]
    · have ends : TransferEnds (s.modBus b fun x => { x with
          line := .free
          counters := { x.counters with busErrors := errors } }) b u := by
        rw [hu, free, total]
        exact transferEnds_talliedRead rfl none_ hr after ho hd hm
      rw [exec_stopSeen, State.stopSeen_target hb meets ends, leaveTarget_unfollowed (ends.faultReason.trans reason')]
      · rfl
      · rw [hu, State.offer_following _ _ rfl, State.modBus_bus_self]
    · have ends := transferEnds_talliedRead (s := s) (b := b) (before := fun x => { x with
        line := .busy
        counters := { x.counters with busErrors := errors } }) rfl none_ hr after ho hd hm
      rw [exec_startSeen, State.startSeen_target hb meets (.inl reads) ends, hu, State.offer_tally_setFollowing, total,
        State.setFollowing, State.modBus_modBus]
  · rw [exec_startSeen, State.startSeen_write hb hr h]
  · have meets : (s.bus b).MeetsEnd (.inByte bit) (satInc (s.bus b).counters.busErrors) :=
      .inr ⟨hf, Target.inTransfer_write (Target.filling_some hk first), rfl, bit, rfl, low⟩
    have ends : TransferEnds (s.modBus b fun x => { x with
        line := .busy
        counters := { x.counters with busErrors := satInc (s.bus b).counters.busErrors } }) b u := by
      cases hd : (s.bus b).target.discard with
      | false =>
        rw [kept hd]
        exact transferEnds_write rfl ⟨hk, first⟩ hr ho hd
      | true =>
        rw [dropped hd]
        exact transferEnds_markedWrite rfl ⟨hk, first⟩ hr hd
    rw [exec_startSeen, State.startSeen_target hb meets (.inr ⟨hf, bit, rfl⟩) ends]
    rfl
  · rw [exec_stopSeen, State.stopSeen_target hb meets h]
  · rw [exec_startSeen, State.startSeen_target hb meets he h]
  · have quiet : (s.bus b).target.inTransfer = false := Target.inTransfer_eq_false.mpr ⟨Target.filling_none.mpr none_, hr⟩
    have meets : (s.bus b).MeetsEnd place (s.bus b).counters.busErrors := .inl ⟨.inr (.inr (.inr quiet)), rfl⟩
    have ends : TransferEnds (s.modBus b fun x => { x with
        line := .free
        counters := { x.counters with busErrors := (s.bus b).counters.busErrors } }) b (s.modBus b fun x =>
          { x with line := .free }) := by
      rw [State.modBus_congr s b (fun x => { x with line := .free })
        (fun x => { x with line := .free, counters := { x.counters with busErrors := (s.bus b).counters.busErrors } }) rfl]
      exact .none (by rw [State.modBus_bus_self]; exact none_) (by rw [State.modBus_bus_self]; exact hr)
    rw [exec_stopSeen, State.stopSeen_target hb meets ends]
    refine ⟨fun reason => ?_, fun reason => ?_⟩
    · rw [leaveTarget_idle (by rw [State.modBus_bus_self]; exact reason), toIdle, State.setEngine, State.modBus_modBus]
      rfl
    · obtain ⟨why, hw⟩ := Option.ne_none_iff_exists'.mp reason
      rw [leaveTarget, State.modBus_bus_self]
      dsimp only
      rw [hw]
      dsimp only
      rw [State.modBus_modBus]
      rfl

end Sys2Proof.Proofs
end

section
/-! PROOF. The ends of an attempt (chapters 3 and 4): every command that ends one hands its outcome over and takes the engine
on in one way. -/

namespace Sys2Proof.Machine

/-! ### The hand-over of an outcome (R70) -/

/-- The outcome does not depend on the phase in which the attempt ends. -/
theorem State.handOver_phase (s : State) (a : Attempt) (ph : Phase) (e : AttemptEnd) :
    s.handOver { a with phase := ph } e = s.handOver a e := by
  rw [State.handOver, State.handOver]
  cases a.item <;> rfl

/-- The end of attempt `a` on bus `b`: what the event does to the bus first, the outcome, and where the engine goes. -/
def State.attemptEnds (s : State) (b : BusIx) (before : Bus → Bus) (a : Attempt) (e : AttemptEnd) (next : State → State) : State :=
  ((s.modBus b before).handOver a e).leaveAttempt b next

/-- The engine goes on as on an enabled bus, or enters DISABLED (R58). -/
theorem State.attemptEnds_eq (s : State) {b : BusIx} {before : Bus → Bus} (same : (before (s.bus b)).config = (s.bus b).config)
    (a : Attempt) (e : AttemptEnd) (next : State → State) : s.attemptEnds b before a e next =
      if (s.bus b).config.enabled = true then next ((s.modBus b before).handOver a e)
      else toDisabled b ((s.modBus b before).handOver a e) := by
  have config : (((s.modBus b before).handOver a e).bus b).config = (s.bus b).config := by
    rw [(State.handOver_calm _ a e).configs, State.modBus_bus_self, same]
  rw [State.attemptEnds, State.leaveAttempt, State.enabled, config]
  rfl

section ends

variable {s : State} {b : BusIx} {a : Attempt} {why : StopCause} {place : Place} {bit : Fin 9} {k : Fin 8} {inAddress : Bool}

theorem State.lose_idle (s : State) (b : BusIx) (before : Bus → Bus) (a : Attempt) (ph : Phase) (e : AttemptEnd) :
    (s.modBus b before).lose b { a with phase := ph } e false =
      s.attemptEnds b (fun x => (before x).withLoss) a e (toIdle b) := by
  rw [State.lose, State.countBus, State.modBus_modBus, State.handOver_phase]
  rfl

theorem State.lose_here (s : State) (b : BusIx) (a : Attempt) (ph : Phase) (e : AttemptEnd) :
    s.lose b { a with phase := ph } e false = s.attemptEnds b Bus.withLoss a e (toIdle b) := by
  have here := s.lose_idle b (fun x => x) a ph e
  rwa [State.modBus_id] at here

theorem State.started_eq (s : State) (b : BusIx) : (s.setLine b .busy).setFollowing b true = s.modBus b Bus.afterStart := by
  rw [State.setLine, State.setFollowing, State.modBus_modBus]
  rfl

theorem State.lose_tail (s : State) (b : BusIx) (before : Bus → Bus) (a : Attempt) (e : AttemptEnd) :
    (s.modBus b before).lose b a e true = s.attemptEnds b (fun x => (before x).withLoss) a e (toAddressTail b) := by
  have tail (t : State) : (t.setEngine b (.active none)).setFollowing b false = toAddressTail b t := by
    rw [State.setEngine, State.setFollowing, State.modBus_modBus]
    rfl
  rw [State.lose, State.countBus, State.modBus_modBus]
  simp only [if_true, tail]
  rfl

theorem State.busError_idle (s : State) (b : BusIx) (before : Bus → Bus) (a : Attempt) (ph : Phase) :
    (s.modBus b before).busError b { a with phase := ph } =
      s.attemptEnds b (fun x => (before x).withError) a .busError (toIdle b) := by
  rw [State.busError, State.countBus, State.modBus_modBus, State.handOver_phase]
  rfl

theorem State.enterRecovery_eq (s : State) (b : BusIx) (atEntry : Option Bool) :
    s.enterRecovery b false atEntry = toRecovery b atEntry s := by
  rw [State.enterRecovery_modBus]
  cases atEntry with
  | none => rfl
  | some dat => cases dat <;> rfl

theorem State.stretchEnd_recovery (s : State) (b : BusIx) (before : Bus → Bus) (a : Attempt) (atEntry : Option Bool) :
    (s.modBus b before).stretchEnd b a atEntry =
      s.attemptEnds b (fun x => (before x).withStretch) a .stretchTimeout (toRecovery b atEntry) := by
  have recovery : (fun t : State => t.enterRecovery b false atEntry) = toRecovery b atEntry :=
    funext fun t => t.enterRecovery_eq b atEntry
  rw [State.stretchEnd, recovery, State.countBus, State.modBus_modBus]
  rfl

/-! ### The attempt as an event meets it (R68; log 36) -/

theorem Attempt.eq_of_phase {ph : Phase} (h : a.phase = ph) : { a with phase := ph } = a := by rw [← h]

theorem Attempt.metAt_bit (h : bit.val ≠ 8) : a.metAt (.inByte bit) = { a with phase := a.phase.settled } := if_neg h

theorem Attempt.metAt_acknowledge : a.metAt (.inByte 8) = a := by
  rw [Attempt.metAt]
  exact if_pos rfl

theorem Attempt.metAt_of_stop (h : a.phase = .stop why) (place : Place) : a.metAt place = { a with phase := .stop why } := by
  have settled : { a with phase := a.phase.settled } = { a with phase := Phase.stop why } := by rw [h]; rfl
  cases place with
  | inByte bit =>
    by_cases hb : bit.val = 8
    · exact (if_pos hb).trans (Attempt.eq_of_phase h).symm
    · exact (Attempt.metAt_bit hb).trans settled
  | boundary =>
    rw [Attempt.metAt, Attempt.atBoundary, h, Attempt.eq_of_phase h]
  | inRepeatedStart => exact settled

theorem Attempt.metAt_of_repeatedStart (h : a.phase = .repeatedStart) (place : Place) :
    a.metAt place = { a with phase := .repeatedStart } := by
  have settled : { a with phase := a.phase.settled } = { a with phase := Phase.repeatedStart } := by rw [h]; rfl
  cases place with
  | inByte bit =>
    by_cases hb : bit.val = 8
    · exact (if_pos hb).trans (Attempt.eq_of_phase h).symm
    · exact (Attempt.metAt_bit hb).trans settled
  | boundary =>
    rw [Attempt.metAt, Attempt.atBoundary, h, Attempt.eq_of_phase h]
  | inRepeatedStart => exact settled

/-- Past the acknowledge bit after a read byte, and without an abort at the boundary, what follows that bit is what the event
meets. -/
theorem Attempt.metAt_of_readAck {nack : Bool} {follow : Boundary} (h : a.phase = .readAck nack follow)
    (past : place ≠ .inByte 8) (kept : place = .boundary → a.abortPending = false ∨ ∃ why, follow = .stop why) :
    a.metAt place = { a with phase := follow.phase } := by
  have settled : { a with phase := a.phase.settled } = { a with phase := follow.phase } := by
    rw [h]
    cases follow <;> rfl
  cases place with
  | inByte bit => exact (Attempt.metAt_bit fun hb => past (congrArg Place.inByte (Fin.ext hb))).trans settled
  | inRepeatedStart => exact settled
  | boundary =>
    rw [Attempt.metAt, Attempt.atBoundary, h]
    cases follow with
    | stop why => rfl
    | nextByte | repeatedStart =>
      have quiet : a.abortPending = false := (kept rfl).resolve_right nofun
      simp [quiet]

/-- An abort taken in the acknowledge bit after a read byte stops the attempt at the boundary. -/
theorem Attempt.metAt_boundary_aborted {nack : Bool} {follow : Boundary} (h : a.phase = .readAck nack follow)
    (open_ : follow = .nextByte ∨ follow = .repeatedStart) (abort : a.abortPending = true) :
    a.metAt .boundary = { a with phase := .stop .aborted } := by
  rw [Attempt.metAt, Attempt.atBoundary, h]
  obtain rfl | rfl := open_ <;> simp [abort]

theorem Attempt.metAt_stop (h : a.phase = .stop why ∨ (place ≠ .inByte 8 ∧ a.makesStop why (place = .boundary))) :
    a.metAt place = { a with phase := .stop why } := by
  obtain h | ⟨past, h | ⟨nack, h⟩ | ⟨rfl, rfl, abort, nack, h⟩⟩ := h
  · exact Attempt.metAt_of_stop h place
  · exact Attempt.metAt_of_stop h place
  · exact Attempt.metAt_of_readAck h past fun _ => .inr ⟨why, rfl⟩
  · obtain h | h := h
    · exact Attempt.metAt_boundary_aborted h (.inl rfl) abort
    · exact Attempt.metAt_boundary_aborted h (.inr rfl) abort

theorem Attempt.metAt_repeatedStart (h : a.phase = .repeatedStart ∨
    (place ≠ .inByte 8 ∧ a.makesRepeatedStart (place = .boundary))) : a.metAt place = { a with phase := .repeatedStart } := by
  obtain h | ⟨past, h | ⟨nack, h, quiet⟩⟩ := h
  · exact Attempt.metAt_of_repeatedStart h place
  · exact Attempt.metAt_of_repeatedStart h place
  · exact Attempt.metAt_of_readAck h past fun hp => .inl (quiet hp)

/-- The place of the condition in which LOSS_IN_REPEATED_START_OR_STOP says the loss is. -/
def conditionPlace (inRepeatedStart : Bool) : Place := if inRepeatedStart then .inRepeatedStart else .boundary

theorem conditionPlace_past (x : Bool) : conditionPlace x ≠ .inByte 8 := by cases x <;> exact nofun

theorem conditionPlace_boundary (x : Bool) : (conditionPlace x = .boundary) = (x = false) := by cases x <;> simp [conditionPlace]

/-! ### Starts, stops and losses in a condition that the attempt makes (R65, R66, R72) -/

section conditions

variable (hm : a.metAt place = { a with phase := .stop why })
include hm

theorem State.startInAttempt_stop : s.startInAttempt b a place =
    s.attemptEnds b (fun x => x.afterStart.withLoss) a why.outcome (toIdle b) := by
  unfold State.startInAttempt
  simp only [hm, State.started_eq]
  exact State.lose_idle ..

theorem State.stopInAttempt_stop : s.stopInAttempt b a place =
    s.attemptEnds b (fun x => if why = .naturalEnd then
        { x.afterStop with counters := { x.counters with completedOk := satInc x.counters.completedOk } } else x.afterStop)
      a why.outcome (fun t => if a.underDisable = true then toIdle b (t.setLine b .unknown) else toIdle b t) := by
  have counted : (s.setLine b .free).countCompleted b why = s.modBus b fun x => if why = .naturalEnd then
      { x.afterStop with counters := { x.counters with completedOk := satInc x.counters.completedOk } } else x.afterStop := by
    rw [State.countCompleted]
    split
    · rw [State.setLine, State.countBus, State.modBus_modBus]
      rfl
    · rfl
  unfold State.stopInAttempt
  simp only [hm]
  rw [State.endAtStop, counted, State.handOver_phase]
  rfl

end conditions

theorem State.startInAttempt_repeatedStart (hm : a.metAt place = { a with phase := .repeatedStart }) :
    s.startInAttempt b a place = s.attemptEnds b (fun x => x.afterStart.withLoss) a .lost (toIdle b) := by
  unfold State.startInAttempt
  simp only [hm, State.started_eq]
  exact State.lose_idle ..

theorem State.stopInAttempt_repeatedStart (hm : a.metAt place = { a with phase := .repeatedStart }) :
    s.stopInAttempt b a place = s.attemptEnds b (fun x => x.afterStop.withLoss) a .lost (toIdle b) := by
  unfold State.stopInAttempt
  simp only [hm]
  exact State.lose_idle s b Bus.afterStop a _ _

section lost

variable (hb : (s.bus b).engine = .active (some a)) {inRepeatedStart : Bool}
include hb

theorem State.lostInCondition_stop (hm : a.metAt (conditionPlace inRepeatedStart) = { a with phase := .stop why }) :
    s.lostInCondition b inRepeatedStart = s.attemptEnds b Bus.withLoss a why.outcome (toIdle b) := by
  unfold State.lostInCondition
  rw [conditionPlace] at hm
  simp only [hb, hm]
  exact State.lose_here ..

theorem State.lostInCondition_repeatedStart (hm : a.metAt (conditionPlace inRepeatedStart) = { a with phase := .repeatedStart }) :
    s.lostInCondition b inRepeatedStart = s.attemptEnds b Bus.withLoss a .lost (toIdle b) := by
  unfold State.lostInCondition
  rw [conditionPlace] at hm
  simp only [hb, hm]
  exact State.lose_here ..

end lost

/-! ### Starts, stops and losses in a bit (R71, R78) -/

/-- The phase in which a condition in clock `bit` meets an attempt inside a byte. -/
def Phase.insideByte (ph : Phase) : Prop := ph = .inByte ∨ ∃ nack follow, ph = .readAck nack follow

section bits

variable {ph : Phase} (hm : a.metAt (.inByte bit) = { a with phase := ph }) (inside : ph.insideByte)
include hm inside

theorem State.startInAttempt_bit : s.startInAttempt b a (.inByte bit) =
    match ({ a with phase := ph } : Attempt).conditionAt bit with
    | .loss inAddress => (s.modBus b Bus.afterStart).lose b { a with phase := ph } .lost inAddress
    | .busError => (s.modBus b Bus.afterStart).busError b { a with phase := ph }
    | .impossible => s := by
  unfold State.startInAttempt
  simp only [hm, State.started_eq]
  obtain rfl | ⟨nack, follow, rfl⟩ := inside <;> rfl

theorem State.stopInAttempt_bit : s.stopInAttempt b a (.inByte bit) =
    match ({ a with phase := ph } : Attempt).conditionAt bit with
    | .loss _ => (s.modBus b Bus.afterStop).lose b { a with phase := ph } .lost false
    | .busError => (s.modBus b Bus.afterStop).busError b { a with phase := ph }
    | .impossible => s := by
  unfold State.stopInAttempt
  simp only [hm]
  obtain rfl | ⟨nack, follow, rfl⟩ := inside <;> rfl

theorem State.startInAttempt_busError (hc : ({ a with phase := ph } : Attempt).conditionAt bit = .busError) :
    s.startInAttempt b a (.inByte bit) = s.attemptEnds b (fun x => x.afterStart.withError) a .busError (toIdle b) := by
  rw [State.startInAttempt_bit hm inside, hc]
  exact State.busError_idle ..

theorem State.stopInAttempt_busError (hc : ({ a with phase := ph } : Attempt).conditionAt bit = .busError) :
    s.stopInAttempt b a (.inByte bit) = s.attemptEnds b (fun x => x.afterStop.withError) a .busError (toIdle b) := by
  rw [State.stopInAttempt_bit hm inside, hc]
  exact State.busError_idle s b Bus.afterStop a ph

end bits

section bits

variable (hm : a.metAt (.inByte bit) = a) (inside : a.phase.insideByte)
include hm inside

theorem State.startInAttempt_loss (hc : a.conditionAt bit = .loss inAddress) : s.startInAttempt b a (.inByte bit) =
    s.attemptEnds b (fun x => x.afterStart.withLoss) a .lost (if inAddress = true then toAddressTail b else toIdle b) := by
  rw [State.startInAttempt_bit hm inside, show ({ a with phase := a.phase } : Attempt).conditionAt bit = _ from hc]
  cases inAddress with
  | true => exact State.lose_tail ..
  | false => exact State.lose_idle ..

theorem State.stopInAttempt_loss (hc : a.conditionAt bit = .loss inAddress) : s.stopInAttempt b a (.inByte bit) =
    s.attemptEnds b (fun x => x.afterStop.withLoss) a .lost (toIdle b) := by
  rw [State.stopInAttempt_bit hm inside, show ({ a with phase := a.phase } : Attempt).conditionAt bit = _ from hc]
  exact State.lose_idle s b Bus.afterStop a _ _

theorem State.startInAttempt_impossible (hc : a.conditionAt bit = .impossible) : s.startInAttempt b a (.inByte bit) = s := by
  rw [State.startInAttempt_bit hm inside, show ({ a with phase := a.phase } : Attempt).conditionAt bit = _ from hc]

theorem State.stopInAttempt_impossible (hc : a.conditionAt bit = .impossible) : s.stopInAttempt b a (.inByte bit) = s := by
  rw [State.stopInAttempt_bit hm inside, show ({ a with phase := a.phase } : Attempt).conditionAt bit = _ from hc]

end bits

/-! ### What the engine drives in a bit (R47, R71, R78) -/

theorem Attempt.metAt_inByte (h : a.phase = .inByte) (bit : Fin 9) : a.metAt (.inByte bit) = a := by
  have settled : { a with phase := a.phase.settled } = a := Attempt.eq_of_phase (by rw [h]; rfl)
  rw [Attempt.metAt, settled, ite_self]

/-- The condition in one of the first eight bits of a byte that the engine sends. -/
theorem Attempt.conditionAt_sent {y : Byte} (hp : a.phase = .inByte) (hs : a.sending = some y) (k : Fin 8) :
    a.conditionAt (k.castLE (by decide)) =
      if sentBit y k then .loss (decide (a.byteIndex = 0)) else .impossible := by
  unfold Attempt.conditionAt
  rw [hp]
  dsimp only
  have small : (Fin.castLE (by decide) k : Fin 9).val < 8 := k.isLt
  rw [dif_pos small, hs]
  rfl

theorem Attempt.sending_eq {g : Segment} (hp : a.phase = .inByte) (hg : a.segments[a.segIndex - 1]? = some g) :
    a.sending = if a.byteIndex = 0 then some g.addressByte else g.data[a.byteIndex - 1]? := by
  rw [Attempt.sending, hp]
  simp only [Attempt.segment, hg, Option.bind_some]

/-- A bit that the engine sends as 1 is a bit of the byte that it sends. -/
theorem Attempt.sendsOne.sending (h : a.sendsOne k inAddress) :
    ∃ y, a.sending = some y ∧ sentBit y k = true ∧ decide (a.byteIndex = 0) = inAddress := by
  obtain ⟨hp, g, hg, ⟨rfl, h0, one⟩ | ⟨rfl, h0, addr, data, y, rfl, hy, one⟩⟩ := h
  · exact ⟨g.addressByte, (Attempt.sending_eq hp hg).trans (if_pos h0), one, decide_eq_true h0⟩
  · exact ⟨y, (Attempt.sending_eq hp hg).trans ((if_neg h0).trans hy), one, decide_eq_false h0⟩

theorem Attempt.sendsOne.conditionAt (h : a.sendsOne k inAddress) :
    a.conditionAt (k.castLE (by decide)) = .loss inAddress := by
  obtain ⟨y, hs, one, here⟩ := h.sending
  rw [Attempt.conditionAt_sent h.1 hs, if_pos one, here]

theorem Attempt.sendsNack.conditionAt (h : a.sendsNack) : a.conditionAt 8 = .loss false := by
  obtain ⟨nack, follow, hp, h⟩ := h
  unfold Attempt.conditionAt
  rw [hp]
  exact if_pos ⟨rfl, by rw [Bool.or_eq_true]; exact h⟩

/-- A bit that the engine does not drive, or drives as ACK, as a condition meets it. -/
theorem Attempt.leavesBit.conditionAt (h : a.leavesBit bit) : ∃ ph, a.metAt (.inByte bit) = { a with phase := ph } ∧
    ph.insideByte ∧ ({ a with phase := ph } : Attempt).conditionAt bit = .busError := by
  obtain ⟨hp, rfl⟩ | ⟨nack, hp, h0, hbit, addr, n, hg⟩ | ⟨rfl, quiet, follow, hp⟩ := h
  · exact ⟨.inByte, (Attempt.metAt_inByte hp 8).trans (Attempt.eq_of_phase hp).symm, .inl rfl, rfl⟩
  · have hlt : bit.val < 8 := by
      have : bit.val ≠ 8 := fun h => hbit (Fin.ext h)
      omega
    have settled : a.phase.settled = .inByte := by obtain hp | hp := hp <;> rw [hp] <;> rfl
    refine ⟨.inByte, (Attempt.metAt_bit (by omega)).trans (by rw [settled]), .inl rfl, ?_⟩
    have sends : ({ a with phase := .inByte } : Attempt).sending = none :=
      (Attempt.sending_eq (a := { a with phase := .inByte }) rfl hg).trans ((if_neg h0).trans rfl)
    unfold Attempt.conditionAt
    dsimp only
    rw [dif_pos hlt, sends]
  · refine ⟨.readAck false follow, Attempt.metAt_acknowledge.trans (Attempt.eq_of_phase hp).symm, .inr ⟨false, follow, rfl⟩, ?_⟩
    unfold Attempt.conditionAt
    dsimp only
    rw [if_neg (by rw [quiet]; decide)]

/-! ### Losses in a bit (R71, R73) -/

theorem exec_arbitrationLoss (s : State) (b : BusIx) (bit : LossBit) :
    exec (.arbitrationLoss b bit) s = .next (s.arbitrationLost b bit).settle := rfl

theorem exec_lossInRepeatedStartOrStop (s : State) (b : BusIx) (x : Bool) :
    exec (.lossInRepeatedStartOrStop { bus := b, inRepeatedStart := x }) s = .next (s.lostInCondition b x).settle := rfl

theorem exec_stretchTimeout (s : State) (b : BusIx) : exec (.stretchTimeout b) s = .next (s.stretched b).settle := rfl

theorem exec_stuckDetected (s : State) (b : BusIx) (atEntry : Option Bool) :
    exec (.stuckDetected { bus := b, atEntry := atEntry }) s = .next (s.stuckSeen b atEntry).settle := rfl

/-- A stuck line is detected in UNKNOWN and BUSY alone (R51). -/
theorem State.stuckSeen_reported (h : (s.bus b).line = .unknown ∨ (s.bus b).line = .busy) (atEntry : Option Bool) :
    s.stuckSeen b atEntry = (s.setLine b .stuck).stuckReport b atEntry := by
  rw [State.stuckSeen]
  rcases h with h | h <;> rw [h]

section engine

variable {a' : Attempt} (hb : (s.bus b).engine = .active (some a))
include hb

theorem State.arbitrationLost_met {x : LossBit} (hm : a.lossMet x = some a') :
    s.arbitrationLost b x = s.attemptEnds b Bus.withLoss a' .lost (if inAddressByte x = true then toAddressTail b else toIdle b) := by
  simp only [State.arbitrationLost, hb, hm]
  cases inAddressByte x with
  | true =>
    have tail := s.lose_tail b (fun x => x) a' .lost
    rwa [State.modBus_id] at tail
  | false => exact s.lose_here b a' a'.phase .lost

theorem State.arbitrationLost_none {x : LossBit} (hm : a.lossMet x = none) : s.arbitrationLost b x = s := by
  simp only [State.arbitrationLost, hb, hm]

theorem State.startSeen_attempt (place : Place) : s.startSeen b .foreign place = s.startInAttempt b a place := by
  simp only [State.startSeen, hb]

theorem State.stopSeen_attempt (place : Place) : s.stopSeen b place = s.stopInAttempt b a place := by
  simp only [State.stopSeen, hb]

theorem State.stretched_attempt : s.stretched b = s.attemptEnds b Bus.withStretch a .stretchTimeout (toRecovery b none) := by
  simp only [State.stretched, hb]
  have ends := s.stretchEnd_recovery b (fun x => x) a none
  rwa [State.modBus_id] at ends

theorem State.stuckSeen_attempt (h : (s.bus b).line = .unknown ∨ (s.bus b).line = .busy) (atEntry : Option Bool) :
    s.stuckSeen b atEntry = s.attemptEnds b (fun x => Bus.withStretch { x with line := .stuck }) a .stretchTimeout
      (toRecovery b atEntry) := by
  have report : (s.setLine b .stuck).stuckReport b atEntry = (s.setLine b .stuck).stretchEnd b a atEntry := by
    rw [State.stuckReport, State.setLine_bus_self]
    dsimp only
    rw [hb]
  rw [State.stuckSeen_reported h, report]
  exact State.stretchEnd_recovery ..

end engine

theorem Attempt.lossMet_addressByte (hp : a.phase = .inByte) (h0 : a.byteIndex = 0) (h : a.sending.any (sentBit · k) = true) :
    a.lossMet (.addressByte k) = some a := by
  rw [Attempt.lossMet, Attempt.atAddress_inByte hp]
  exact if_pos ⟨h0, h⟩

theorem StopHandsOver.outcome {e : AttemptEnd} (h : StopHandsOver why e) : why.outcome = e := by
  cases h <;> rfl

/-! ### The commands that end an attempt -/

section endsAttempt

variable {c : Instr} {a' : Attempt} {e : AttemptEnd} {before : Bus → Bus} {next : State → State}

/-- No command that ends an attempt configures the bus. -/
theorem EndsAttempt.config (h : EndsAttempt s b a c a' e before next) (x : Bus) : (before x).config = x.config := by
  cases h with
  | stop why =>
    dsimp only
    split <;> rfl
  | _ => rfl

/-- Every command that ends an attempt does what it does to the bus, hands the outcome over and takes the engine on. -/
theorem EndsAttempt.exec (hb : (s.bus b).engine = .active (some a)) (h : EndsAttempt s b a c a' e before next) :
    exec c s = .next (s.attemptEnds b before a' e next).settle := by
  cases h with
  | stop why _ place h he =>
    rw [exec_stopSeen, State.stopSeen_attempt hb, State.stopInAttempt_stop (Attempt.metAt_stop h), he.outcome]
  | lossInStop why _ x h he =>
    have hm := Attempt.metAt_stop (place := conditionPlace x)
      (.inr ⟨conditionPlace_past x, by rw [conditionPlace_boundary]; exact h⟩)
    rw [exec_lossInRepeatedStartOrStop, State.lostInCondition_stop hb hm, he.outcome]
  | startInStop why _ place h he =>
    rw [exec_startSeen, State.startSeen_attempt hb, State.startInAttempt_stop (Attempt.metAt_stop h), he.outcome]
  | lossInRepeatedStart x h =>
    have hm := Attempt.metAt_repeatedStart (place := conditionPlace x)
      (.inr ⟨conditionPlace_past x, by rw [conditionPlace_boundary]; exact h⟩)
    rw [exec_lossInRepeatedStartOrStop, State.lostInCondition_repeatedStart hb hm]
  | startInRepeatedStart place h =>
    rw [exec_startSeen, State.startSeen_attempt hb, State.startInAttempt_repeatedStart (Attempt.metAt_repeatedStart h)]
  | stopInRepeatedStart place h =>
    rw [exec_stopSeen, State.stopSeen_attempt hb, State.stopInAttempt_repeatedStart (Attempt.metAt_repeatedStart h)]
  | lossInAddress k h =>
    obtain ⟨y, hs, one, here⟩ := h.sending
    rw [exec_arbitrationLoss, State.arbitrationLost_met hb
      (Attempt.lossMet_addressByte h.1 (of_decide_eq_true here) (by rw [hs]; exact one))]
    rfl
  | lossInNextAddress k _ h ha h' =>
    obtain ⟨y, hs, one, here⟩ := h'.sending
    have met : a.lossMet (.addressByte k) = some a.advance := by
      rw [Attempt.lossMet, Attempt.atAddress_repeatedStart (by obtain ⟨nack, h⟩ := h; exact h.imp_right fun h => ⟨nack, h⟩)]
      subst ha
      exact if_pos ⟨rfl, by rw [show a.advance.sending = some y from hs]; exact one⟩
    rw [exec_arbitrationLoss, State.arbitrationLost_met hb met, ha]
    rfl
  | lossInWritten k h =>
    obtain ⟨y, hs, one, here⟩ := h.sending
    have met : a.lossMet (.writtenByte k) = some a :=
      if_pos ⟨of_decide_eq_false here, by rw [hs]; exact one⟩
    rw [exec_arbitrationLoss, State.arbitrationLost_met hb met]
    rfl
  | startInSentOne k inAddress h =>
    rw [exec_startSeen, State.startSeen_attempt hb,
      State.startInAttempt_loss (Attempt.metAt_inByte h.1 _) (.inl h.1) h.conditionAt]
  | stopInSentOne k inAddress h =>
    rw [exec_stopSeen, State.stopSeen_attempt hb,
      State.stopInAttempt_loss (Attempt.metAt_inByte h.1 _) (.inl h.1) h.conditionAt]
  | lossInNack h =>
    have met : a.lossMet .readNack = some a := by
      obtain ⟨nack, follow, hp, h⟩ := h
      rw [Attempt.lossMet, hp]
      exact if_pos (by rw [Bool.or_eq_true]; exact h)
    rw [exec_arbitrationLoss, State.arbitrationLost_met hb met]
    rfl
  | startInNack h =>
    have hc := h.conditionAt
    obtain ⟨nack, follow, hp, -⟩ := h
    rw [exec_startSeen, State.startSeen_attempt hb,
      State.startInAttempt_loss Attempt.metAt_acknowledge (.inr ⟨nack, follow, hp⟩) hc]
    rfl
  | stopInNack h =>
    have hc := h.conditionAt
    obtain ⟨nack, follow, hp, -⟩ := h
    rw [exec_stopSeen, State.stopSeen_attempt hb,
      State.stopInAttempt_loss Attempt.metAt_acknowledge (.inr ⟨nack, follow, hp⟩) hc]
  | startInUndriven bit h =>
    obtain ⟨ph, hm, inside, hc⟩ := h.conditionAt
    rw [exec_startSeen, State.startSeen_attempt hb, State.startInAttempt_busError hm inside hc]
  | stopInUndriven bit h =>
    obtain ⟨ph, hm, inside, hc⟩ := h.conditionAt
    rw [exec_stopSeen, State.stopSeen_attempt hb, State.stopInAttempt_busError hm inside hc]
  | stretch => rw [exec_stretchTimeout, State.stretched_attempt hb]
  | stuck atEntry h => rw [exec_stuckDetected, State.stuckSeen_attempt hb h]

/-- The same, by whether the bus is enabled (R58). -/
theorem EndsAttempt.exec_eq (hb : (s.bus b).engine = .active (some a)) (h : EndsAttempt s b a c a' e before next) :
    Machine.exec c s = .next (if (s.bus b).config.enabled = true then next ((s.modBus b before).handOver a' e)
      else toDisabled b ((s.modBus b before).handOver a' e)).settle := by
  rw [h.exec hb, State.attemptEnds_eq s (h.config _)]

end endsAttempt

end ends

end Sys2Proof.Machine
end

section
/-! PROOF. What the outcome of an attempt leaves its record and its watch (chapters 1, 4 and 7). -/

namespace Sys2Proof.Machine

section outcomes

variable {s : State} {a : Attempt} {e : AttemptEnd} {status : Status}

/-! ### Records (R19, R75 to R77) -/

section record

variable {i : Fin 64} {r : Record}

theorem State.handOver_record (h : a.item = .record i) : s.handOver a e = s.recordOutcome i a e := by
  rw [State.handOver, h]

theorem State.putRecord_putRecord (s : State) (i : Fin 64) (r r' : Record) :
    (s.putRecord i r).putRecord i r' = s.putRecord i r' := by
  simp [State.putRecord, Vector.set_set]

/-- A record that has just been changed enters DONE. -/
theorem State.putRecord_finishRecord (s : State) (i : Fin 64) (r : Record) (st : Status) (f : Option Nat) (n : Nat)
    (d : List Byte) : (s.putRecord i r).finishRecord i st f n d = (s.putRecord i { r with
      state := .done
      notBefore := none
      spacingOver := false
      result := some { status := st, failing := f, bytesCompleted := n, completionTime := s.clock, readData := d }
      }).offer r.owner (.record i) := by
  have here : (s.putRecord i r).record i = some r := by rw [State.putRecord_record, if_pos rfl]
  rw [State.finishRecord_some here, State.putRecord_putRecord]
  rfl

variable (hr : s.record i = some r)
include hr

/-- The record of a session that is not OPEN is freed silently (R149). -/
theorem State.recordOutcome_silent (shut : (s.session r.owner).state ≠ .opened) :
    s.recordOutcome i a e = (s.freeRecord i).closeIfDone r.owner := by
  have shut' : (!s.isOpen r.owner) = true := by rw [State.isOpen, decide_eq_false shut]; rfl
  rw [State.recordOutcome, hr]
  exact if_pos shut'

variable (opened : (s.session r.owner).state = .opened)
include opened

theorem State.recordOutcome_ok : s.recordOutcome i a .ok = s.finishRecord i .ok none (a.written + a.readBytes.length) a.readBytes := by
  have opened' : ¬(!s.isOpen r.owner) = true := by rw [State.isOpen, decide_eq_true opened]; decide
  simp only [State.recordOutcome, hr]
  rw [if_neg opened']
  rfl

/-- The record of an OPEN session ends with the status of the first row that applies (R75, R76). -/
theorem State.recordOutcome_final (h : EndsRecord r a (s.bus r.bus).config.enabled e status) :
    s.recordOutcome i a e = s.finishAttempted i r.bus a status := by
  have opened' : ¬(!s.isOpen r.owner) = true := by rw [State.isOpen, decide_eq_true opened]; decide
  have replays (h : r.noReplay = false ∨ a.anyAcked = false) : ¬(r.noReplay && a.anyAcked) = true := by
    rw [Bool.and_eq_true]
    rintro ⟨x, y⟩
    exact h.elim (fun z => Bool.false_ne_true (z.symm.trans x)) fun z => Bool.false_ne_true (z.symm.trans y)
  simp only [State.recordOutcome, hr]
  rw [if_neg opened']
  cases h with
  | nackData => rfl
  | stretchTimeout => rfl
  | busError => rfl
  | aborted => rfl
  | lostPartial h => exact if_pos (by rw [h.1, h.2]; rfl)
  | lostAborted h ha => exact (if_neg (replays h)).trans (if_pos ha)
  | lost h ha hb => simp only [replays h, ha, not_le.mpr hb, if_false, Bool.false_eq_true]
  | nackFinal h => exact if_pos (by rw [h]; rfl)
  | nackAborted h ha => simp only [h, ha, Bool.not_true, Bool.false_eq_true, if_false, if_true]; rfl
  | nackAddress h ha hb => simp only [h, ha, not_le.mpr hb, Bool.not_true, if_false, Bool.false_eq_true]

omit hr opened in
theorem EndsRecord.status_ne {enabled : Bool} (h : EndsRecord r a enabled e status) : status ≠ .ok := by
  have aborts : abortedOn enabled ≠ .ok := by cases enabled <;> decide
  cases h with
  | aborted => exact aborts
  | lostAborted => exact aborts
  | nackAborted => exact aborts
  | _ => decide

/-- Every status but OK moves the failed final counter, and names the segment (R15, R180). -/
theorem State.recordOutcome_ends (h : EndsRecord r a (s.bus r.bus).config.enabled e status) :
    s.recordOutcome i a e = (s.modBus r.bus fun x => { x with
      counters := { x.counters with failedFinal := satInc x.counters.failedFinal } }).finishRecord i status
        (some a.segIndex) (a.written + a.readBytes.length) a.readBytes := by
  rw [State.recordOutcome_final hr opened h, State.finishAttempted]
  simp only [h.status_ne, if_false]
  rfl

theorem State.recordOutcome_retries {why : Status} (h : RetriesRecord r a e why) : s.recordOutcome i a e = s.retryRecord i why := by
  have opened' : ¬(!s.isOpen r.owner) = true := by rw [State.isOpen, decide_eq_true opened]; decide
  simp only [State.recordOutcome, hr]
  rw [if_neg opened']
  cases h with
  | lost h ha hb =>
    have replays : ¬(r.noReplay && a.anyAcked) = true := by
      rw [Bool.and_eq_true]
      rintro ⟨x, y⟩
      exact h.elim (fun z => Bool.false_ne_true (z.symm.trans x)) fun z => Bool.false_ne_true (z.symm.trans y)
    simp only [replays, ha, hb, if_true, if_false, Bool.false_eq_true]
  | nackAddress h ha hb => simp only [h, ha, hb, Bool.not_true, Bool.false_eq_true, if_false, if_true]

omit opened

/-- The class in which a record joins its queue again (R33). -/
def State.retryClass (s : State) (r : Record) : Cls :=
  if r.cls = .bulk ∧ (s.bus r.bus).config.aging ≠ 0 ∧
    (s.bus r.bus).config.aging.toNat ≤ (r.entryTime.elim 0 fun x => ageOf s.clock x r.ageStopped) then .normal else r.cls

theorem State.retryRecord_expires {t : Clock} (why : Status) (ht : r.deadlineTime = some t) (due : (s.clock - t).toNat < 2 ^ 31) :
    s.retryRecord i why =
      (s.putRecord i { r with lastRetry := some why, cls := s.retryClass r }).finishRecord i .expired none 0 [] := by
  have expires : r.deadlineTime.any (reached s.clock) = true := by rw [ht]; exact decide_eq_true due
  rw [State.retryRecord, hr]
  simp only [expires, if_true, agedOut, decide_eq_true_eq]
  rw [State.finishWithoutAttempt, State.putRecord_finishRecord, State.putRecord_finishRecord]
  rfl

theorem State.retryRecord_joins (why : Status) (early : ∀ t, r.deadlineTime = some t → 2 ^ 31 ≤ (s.clock - t).toNat) :
    s.retryRecord i why = (s.putRecord i { r with
      state := .queued
      notBefore := some (s.clock + (s.bus r.bus).config.spacing.setWidth 32)
      spacingOver := false
      lastRetry := some why
      cls := s.retryClass r }).enqueue r.bus (.record i) := by
  have waits : r.deadlineTime.any (reached s.clock) = false := by
    cases ht : r.deadlineTime with
    | none => rfl
    | some t => exact decide_eq_false (not_lt.mpr (early t ht))
  have spacing : addTime s.clock ((s.bus r.bus).config.spacing.setWidth 16) =
      s.clock + (s.bus r.bus).config.spacing.setWidth 32 := by
    rw [addTime]
    congr 1
  rw [State.retryRecord, hr]
  simp only [waits, Bool.false_eq_true, if_false, agedOut, decide_eq_true_eq, spacing]
  rfl

end record

/-! ### Watches (R121 to R124) -/

section watch

variable {i : Fin 12} {w w' : Watch} {p : PortIx}

theorem State.handOver_watch (h : a.item = .watch i) : s.handOver a e = s.watchOutcome i a e := by
  rw [State.handOver, h]

/-- A watch entry with a report stands on its owner's path (R128). -/
theorem State.putWatch_offerWatch (s : State) (i : Fin 12) (ho : w.owner = some p) : (s.putWatch i w).offerWatch i =
    if w.valueReport = none ∧ w.suspensionReport = none then s.putWatch i w else (s.putWatch i w).offer p (.watch i) := by
  have here : (s.putWatch i w).watch i = some w := by rw [State.putWatch_watch, if_pos rfl]
  rw [State.offerWatch, here]
  simp only [ho]
  cases w.valueReport <;> cases w.suspensionReport <;> simp

theorem equalUnder_iff {mask x y : List Byte} : equalUnder mask x y = true ↔ SameUnder mask x y := decide_eq_true_iff

/-- The comparison of R123 is the model's. -/
theorem ReadLeaves.compareValue {value : List Byte} {clock : Clock} (h : ReadLeaves w value clock w') :
    compareValue { w with read := .none, failures := 0 } value clock = w' := by
  unfold Machine.compareValue
  cases h with
  | asReported hp h =>
    obtain ⟨old, hold, same⟩ := h
    simp only [hp, hold, Option.any_some]
    exact if_pos (equalUnder_iff.mpr same)
  | changed hp h =>
    simp only [hp]
    refine if_neg fun same => ?_
    obtain ⟨old, hold, equal⟩ := Option.any_eq_true .. |>.mp same
    exact h old hold (equalUnder_iff.mp equal)
  | asPending v hp h =>
    simp only [hp]
    exact if_pos (equalUnder_iff.mpr h)
  | coalesced v hp h =>
    simp only [hp]
    exact if_neg fun equal => h (equalUnder_iff.mp equal)

theorem FailureLeaves.failRead (h : FailureLeaves w status w') : failRead { w with read := .none } status = w' := by
  unfold Machine.failRead
  cases h with
  | counted h => exact if_pos h
  | suspended h =>
    dsimp only
    rw [if_neg (not_lt.mpr h)]
    cases w.suspensionReport <;> rfl

theorem ReadLeaves.owner {value : List Byte} {clock : Clock} (h : ReadLeaves w value clock w') : w'.owner = w.owner := by
  cases h <;> rfl

theorem FailureLeaves.owner (h : FailureLeaves w status w') : w'.owner = w.owner := by
  cases h <;> rfl

variable (hw : s.watch i = some w)
include hw

theorem State.watchOutcome_removing (h : w.state = .removing) : s.watchOutcome i a e = s.freeWatch i := by
  rw [State.watchOutcome, hw]
  exact if_pos h

variable (stays : w.state ≠ .removing)
include stays

theorem State.watchOutcome_aborted : s.watchOutcome i a .stoppedByAbort = s.putWatch i { w with read := .none } := by
  rw [State.watchOutcome, hw]
  exact if_neg stays

theorem State.watchOutcome_read (ho : w.owner = some p) (h : ReadLeaves w a.readBytes s.clock w') : s.watchOutcome i a .ok =
    if w'.valueReport = none ∧ w'.suspensionReport = none then s.putWatch i w' else (s.putWatch i w').offer p (.watch i) := by
  rw [State.watchOutcome, hw]
  dsimp only
  rw [if_neg stays, h.compareValue, State.putWatch_offerWatch s i (h.owner.trans ho)]

/-- A failed read is counted on the watch's bus and in the watch (R122 row 4, R180). -/
theorem State.watchOutcome_fails (hf : FailedRead e status) : s.watchOutcome i a e =
    ((s.countBus w.bus fun c => { c with failedFinal := satInc c.failedFinal }).putWatch i
      (failRead { w with read := .none } status)).offerWatch i := by
  rw [State.watchOutcome, hw]
  dsimp only
  rw [if_neg stays]
  cases hf <;> rfl

theorem State.watchOutcome_failed (ho : w.owner = some p) (hf : FailedRead e status) (h : FailureLeaves w status w') {put : State}
    (hput : put = (s.modBus w.bus fun x => { x with
      counters := { x.counters with failedFinal := satInc x.counters.failedFinal } }).putWatch i w') :
    s.watchOutcome i a e =
      if w'.valueReport = none ∧ w'.suspensionReport = none then put else put.offer p (.watch i) := by
  rw [State.watchOutcome_fails hw stays hf, h.failRead, State.putWatch_offerWatch _ i (h.owner.trans ho), hput]
  rfl

end watch

end outcomes
end Sys2Proof.Machine
end

section
/-! PROOF. The periods of a watch and the ends of its reads (chapter 7). -/

namespace Sys2Proof.Machine

section stops

variable {s : State} {b : BusIx} {a : Attempt} {why : StopCause} {e : AttemptEnd} {place : Place}

/-- The attempt's own stop on a bus that has stayed enabled: the outcome, and IDLE with its queue tested (R37, R65, R66). -/
theorem exec_ownStop (hb : (s.bus b).engine = .active (some a))
    (h : a.phase = .stop why ∨ (place ≠ .inByte 8 ∧ a.makesStop why (place = .boundary))) (he : StopHandsOver why e)
    (on : (s.bus b).config.enabled = true) (stays : a.underDisable = false) {before : Bus → Bus}
    (hbefore : before = fun x => if why = .naturalEnd then
      { x.afterStop with counters := { x.counters with completedOk := satInc x.counters.completedOk } } else x.afterStop)
    {t : State} (ht : t = (s.modBus b before).handOver a e) : exec (.stopSeen b place) s = .next (toIdle b t).settle := by
  rw [(EndsAttempt.stop (s := s) (b := b) why e place h he).exec_eq hb, if_pos on, stays, if_neg Bool.false_ne_true, ← hbefore,
    ← ht]

/-- The attempt whose outcome is handed over is of the same item. -/
theorem EndsAttempt.item {c : Instr} {a' : Attempt} {before : Bus → Bus} {next : State → State}
    (h : EndsAttempt s b a c a' e before next) : a'.item = a.item := by
  cases h with
  | lossInNextAddress k _ _ ha => rw [ha]
  | _ => rfl

/-- The NACK after the last byte of a READ is followed by the stop of the natural end (R64). -/
theorem Attempt.makesStop_natural
    (h : a.phase = .stop .naturalEnd ∨ (place ≠ .inByte 8 ∧ ∃ nack, a.phase = .readAck nack (.stop .naturalEnd))) :
    a.phase = .stop .naturalEnd ∨ (place ≠ .inByte 8 ∧ a.makesStop .naturalEnd (place = .boundary)) := by
  rcases h with h | ⟨hp, h⟩
  · exact .inl h
  · exact .inr ⟨hp, .inr (.inl h)⟩

end stops

section periods

variable {s : State} {i : Fin 12} {w : Watch} {t : Clock} (hw : s.watch i = some w) (running : w.state = .running)
  (ht : w.nextPeriod = some t) (due : reached s.clock t = true)
include hw running ht due

/-- A period of a RUNNING watch that adds no read is skipped (R120). -/
theorem State.periodExpired_skips (busy : (s.bus w.bus).config.enabled = false ∨ w.read = .active) : s.periodExpired i =
    s.putWatch i { w with nextPeriod := some (addTime t w.period), skipped := satInc w.skipped } := by
  have runs : ¬(w.state ≠ .running ∨ (!reached s.clock t) = true) := by simp [running, due]
  simp only [State.periodExpired, hw, ht]
  rw [if_neg runs]
  rcases busy with off | active
  · exact if_pos (by rw [State.enabled, off]; rfl)
  · rw [active]
    exact ite_self _

/-- A read still in its queue leaves it, and the period is skipped (R120). -/
theorem State.periodExpired_drops (on : (s.bus w.bus).config.enabled = true) (queued : w.read = .queued) : s.periodExpired i =
    (s.putWatch i { w with
      nextPeriod := some (addTime t w.period)
      skipped := satInc w.skipped
      read := .none }).dequeueWatch w.bus i := by
  have runs : ¬(w.state ≠ .running ∨ (!reached s.clock t) = true) := by simp [running, due]
  have enabled : ¬(!s.enabled w.bus) = true := by rw [State.enabled, on]; decide
  simp only [State.periodExpired, hw, ht]
  rw [if_neg runs, if_neg enabled, queued]

end periods

end Sys2Proof.Machine

namespace Sys2Proof.Proofs

open Sys2Proof Sys2Proof.Machine

/-- Settles O45: the three rows of a period, and the rows of a read's outcome, which every end of an attempt hands over. -/
theorem watchPeriodExpiry : Obligations.WatchPeriodExpiry := by
  unfold Obligations.WatchPeriodExpiry
  refine ⟨fun s i w t hw running ht due => ⟨fun on idle => ?_, fun on queued => ?_, fun busy => ?_⟩,
    fun s b place a i w w' p put hb h hi hw stays ho on hu hl hput => ?_,
    fun s b place a i w w' p put hb h hi hw stays hbus ho on hu hl hput => ?_,
    fun s b place a i w hb h hi hw removing on hu => ?_,
    fun s a e i w hw => ⟨State.watchOutcome_removing hw, fun stays he => ?_, fun p w' status put stays ho h => ?_⟩,
    fun s t b a a' i c e before next hb hi h ht => ?_⟩
  · rw [exec_watchPeriodExpiry, State.periodExpired_adds hw running ht (decide_eq_true due) on idle]
    rfl
  · rw [exec_watchPeriodExpiry, State.periodExpired_drops hw running ht (decide_eq_true due) on queued]
    rfl
  · rw [exec_watchPeriodExpiry, State.periodExpired_skips hw running ht (decide_eq_true due) busy]
    rfl
  · refine exec_ownStop hb (Attempt.makesStop_natural h) .natural on hu rfl ?_
    rw [State.handOver_watch hi, State.watchOutcome_read (s := s.modBus b _) hw stays ho hl, hput]
    rfl
  · refine exec_ownStop hb (.inl h) .addressNack on hu rfl ?_
    rw [State.handOver_watch hi, State.watchOutcome_failed (s := s.modBus b _) hw stays ho .nackAddress hl rfl, hput, hbus,
      State.modBus_modBus]
    rfl
  · refine exec_ownStop hb (Attempt.makesStop_natural h) .natural on hu rfl ?_
    rw [State.handOver_watch hi, State.watchOutcome_removing (s := s.modBus b _) hw removing]
    rfl
  · rw [he, State.watchOutcome_aborted hw stays]
  · rcases h with ⟨rfl, hl, rfl⟩ | ⟨hf, hl, hput⟩
    · exact State.watchOutcome_read hw stays ho hl
    · exact State.watchOutcome_failed hw stays ho hf hl hput
  · rw [h.exec_eq hb, ht, State.handOver_watch (h.item.trans hi)]

end Sys2Proof.Proofs
end

section
/-! PROOF. The losses, errors and timeouts that end a record's attempt (chapters 3 and 4). -/

namespace Sys2Proof.Machine

/-! ### A record's end and its bus -/

section apart

variable (s : State) (b : BusIx) (f : Bus → Bus)

/-- A record's report is offered alike, whatever the bus holds. -/
theorem State.offer_record_modBus (p : PortIx) (i : Fin 64) :
    (s.modBus b f).offer p (.record i) = (s.offer p (.record i)).modBus b f := by
  by_cases listed : Source.record i ∈ (s.session p).admission
  · rw [State.offer_listed listed, State.offer_listed (s := s.modBus b f) listed]
  · by_cases room : (s.session p).outbox.length < 16
    · rw [State.offer_admitted listed room, State.offer_admitted (s := s.modBus b f) listed room]
      have same : (s.modBus b f).reportOf p (.record i) = s.reportOf p (.record i) := rfl
      cases hr : s.reportOf p (.record i) with
      | none =>
        rw [State.admitOne, State.admitOne, same, hr]
      | some x =>
        rw [State.admitOne_some hr, State.admitOne_some (same.trans hr)]
        rfl
    · rw [State.offer_waits listed (not_lt.mp room), State.offer_waits (s := s.modBus b f) listed (not_lt.mp room)]
      rfl

theorem State.finishRecord_modBus (i : Fin 64) (st : Status) (x : Option Nat) (n : Nat) (d : List Byte) :
    (s.modBus b f).finishRecord i st x n d = (s.finishRecord i st x n d).modBus b f := by
  cases hr : s.record i with
  | none => rw [State.finishRecord, State.finishRecord, State.modBus_record, hr]
  | some r =>
    rw [State.finishRecord_some hr, State.finishRecord_some (s := s.modBus b f) hr]
    exact Eq.trans rfl (State.offer_record_modBus (s.putRecord i _) b f r.owner i)

end apart

section record

variable {s : State} {b : BusIx} {a a' : Attempt} {i : Fin 64} {r : Record} {c : Instr} {e : AttemptEnd} {status : Status}
  {before : Bus → Bus} {next : State → State}

/-- The bus with a failed final attempt counted (R180). -/
def Bus.withFailed (x : Bus) : Bus :=
  { x with counters := { x.counters with failedFinal := satInc x.counters.failedFinal } }

variable (hb : (s.bus b).engine = .active (some a)) (hi : a.item = .record i) (hr : s.record i = some r) (hbus : r.bus = b)
  (ho : (s.session r.owner).state = .opened) (h : EndsAttempt s b a c a' e before next)
include hb hi hr hbus ho h

/-- A command that ends an attempt with a status other than OK. -/
theorem EndsAttempt.exec_final (hend : EndsRecord r a' (s.bus b).config.enabled e status) {t : State}
    (ht : t = (s.modBus b fun x => (before x).withFailed).finishRecord i status (some a'.segIndex)
      (a'.written + a'.readBytes.length) a'.readBytes) :
    Machine.exec c s = .next (if (s.bus b).config.enabled = true then next t else toDisabled b t).settle := by
  have same : ((s.modBus b before).bus r.bus).config = (s.bus b).config := by rw [hbus, State.modBus_bus_self, h.config]
  have handed : (s.modBus b before).handOver a' e = t := by
    rw [State.handOver_record (h.item.trans hi), State.recordOutcome_ends (s := s.modBus b before) hr ho (by rw [same]; exact hend),
      hbus, State.modBus_modBus, ht]
    rfl
  rw [h.exec_eq hb, handed]

omit hbus in
/-- A command that ends an attempt OK. -/
theorem EndsAttempt.exec_ok (he : e = .ok) {t : State}
    (ht : t = (s.modBus b before).finishRecord i .ok .none (a'.written + a'.readBytes.length) a'.readBytes) :
    Machine.exec c s = .next (if (s.bus b).config.enabled = true then next t else toDisabled b t).settle := by
  have handed : (s.modBus b before).handOver a' e = t := by
    rw [State.handOver_record (h.item.trans hi), he, State.recordOutcome_ok (s := s.modBus b before) hr ho, ht]
  rw [h.exec_eq hb, handed]

/-- A command that ends an attempt, with a retry before the deadline (R77). -/
theorem EndsAttempt.exec_retry {why : Status} (hend : RetriesRecord r a' e why)
    (early : ∀ t, r.deadlineTime = some t → 2 ^ 31 ≤ (s.clock - t).toNat) {t : State}
    (ht : t = ((s.modBus b before).putRecord i { r with
      state := .queued
      notBefore := some (s.clock + (s.bus b).config.spacing.setWidth 32)
      spacingOver := false
      lastRetry := some why
      cls := s.retryClass r }).enqueue b (.record i)) :
    Machine.exec c s = .next (if (s.bus b).config.enabled = true then next t else toDisabled b t).settle := by
  have same : ((s.modBus b before).bus r.bus).config = (s.bus b).config := by rw [hbus, State.modBus_bus_self, h.config]
  have cls : (s.modBus b before).retryClass r = s.retryClass r := by rw [State.retryClass, State.retryClass, same, hbus]; rfl
  have handed : (s.modBus b before).handOver a' e = t := by
    rw [State.handOver_record (h.item.trans hi), State.recordOutcome_retries (s := s.modBus b before) hr ho hend,
      State.retryRecord_joins (s := s.modBus b before) hr why early, same, cls, ht]
    subst hbus
    rfl
  rw [h.exec_eq hb, handed]

/-- A command that ends an attempt, with a retry after the deadline (R17; log 20). -/
theorem EndsAttempt.exec_expired {why : Status} {d : Clock} (hend : RetriesRecord r a' e why)
    (hd : r.deadlineTime = some d) (due : (s.clock - d).toNat < 2 ^ 31) {t : State}
    (ht : t = ((s.modBus b before).putRecord i { r with lastRetry := some why, cls := s.retryClass r }).finishRecord i .expired
      .none 0 []) :
    Machine.exec c s = .next (if (s.bus b).config.enabled = true then next t else toDisabled b t).settle := by
  have same : ((s.modBus b before).bus r.bus).config = (s.bus b).config := by rw [hbus, State.modBus_bus_self, h.config]
  have cls : (s.modBus b before).retryClass r = s.retryClass r := by rw [State.retryClass, State.retryClass, same, hbus]; rfl
  have handed : (s.modBus b before).handOver a' e = t := by
    rw [State.handOver_record (h.item.trans hi), State.recordOutcome_retries (s := s.modBus b before) hr ho hend,
      State.retryRecord_expires (s := s.modBus b before) hr why hd due, cls, ht]
  rw [h.exec_eq hb, handed]

end record

/-! ### Ends on an enabled bus -/

section enabled

variable {s : State} {b : BusIx} {a a' : Attempt} {i : Fin 64} {r : Record} {c : Instr} {e : AttemptEnd} {status : Status}
  {before : Bus → Bus} {next : State → State} {t : State}

theorem State.countFailed_eq (s : State) (b : BusIx) (before : Bus → Bus) :
    (s.modBus b before).countBus b (fun c => { c with failedFinal := satInc c.failedFinal }) =
      s.modBus b fun x => (before x).withFailed :=
  State.modBus_modBus s b before Bus.withFailed

variable (hb : (s.bus b).engine = .active (some a)) (hi : a.item = .record i) (hr : s.record i = some r) (hbus : r.bus = b)
  (ho : (s.session r.owner).state = .opened) (on : (s.bus b).config.enabled = true)
  (h : EndsAttempt s b a c a' e before next)
include hb hi hr hbus ho on h

theorem EndsAttempt.exec_final_on (hend : EndsRecord r a' true e status)
    (ht : t = (s.modBus b fun x => (before x).withFailed).finishRecord i status (some a'.segIndex)
      (a'.written + a'.readBytes.length) a'.readBytes) : Machine.exec c s = .next (next t).settle := by
  rw [h.exec_final hb hi hr hbus ho (by rw [on]; exact hend) ht, if_pos on]

omit hbus in
theorem EndsAttempt.exec_ok_on (he : e = .ok)
    (ht : t = (s.modBus b before).finishRecord i .ok .none (a'.written + a'.readBytes.length) a'.readBytes) :
    Machine.exec c s = .next (next t).settle := by
  rw [h.exec_ok hb hi hr ho he ht, if_pos on]

end enabled

/-! ### Bits that no master can take over (logs 2 and 6) -/

section impossible

variable {s : State} {b : BusIx} {a : Attempt} {y : Byte} {k : Fin 8} (hb : (s.bus b).engine = .active (some a))
  (hp : a.phase = .inByte) (hs : a.sending = some y) (zero : sentBit y k = false)
include hp hs zero

theorem Attempt.conditionAt_zero : a.conditionAt (k.castLE (by decide)) = .impossible := by
  rw [Attempt.conditionAt_sent hp hs, zero]
  rfl

omit hp in
theorem Attempt.sends_zero : ¬a.sending.any (sentBit · k) = true := by
  rw [hs, Option.any_some, zero]
  exact Bool.false_ne_true

include hb

theorem exec_startSeen_zero : exec (.startSeen b .foreign (.inByte (k.castLE (by decide)))) s = .next s.settle := by
  rw [exec_startSeen, State.startSeen_attempt hb,
    State.startInAttempt_impossible (Attempt.metAt_inByte hp _) (.inl hp) (Attempt.conditionAt_zero hp hs zero)]

theorem exec_stopSeen_zero : exec (.stopSeen b (.inByte (k.castLE (by decide)))) s = .next s.settle := by
  rw [exec_stopSeen, State.stopSeen_attempt hb,
    State.stopInAttempt_impossible (Attempt.metAt_inByte hp _) (.inl hp) (Attempt.conditionAt_zero hp hs zero)]

theorem exec_arbitrationLoss_zero : exec (.arbitrationLoss b (.addressByte k)) s = .next s.settle ∧
    exec (.arbitrationLoss b (.writtenByte k)) s = .next s.settle := by
  have sent := Attempt.sends_zero hs zero
  constructor
  · have missed : a.lossMet (.addressByte k) = none := by
      rw [Attempt.lossMet, Attempt.atAddress_inByte hp]
      exact if_neg fun h => sent h.2
    rw [exec_arbitrationLoss, State.arbitrationLost_none hb missed]
  · have missed : a.lossMet (.writtenByte k) = none := if_neg fun h => sent h.2
    rw [exec_arbitrationLoss, State.arbitrationLost_none hb missed]

end impossible

end Sys2Proof.Machine

namespace Sys2Proof.Proofs

open Sys2Proof Sys2Proof.Machine

section losses

variable {s : State} {b : BusIx} {a : Attempt} {r : Record} {i : Fin 64} {final : Status}

/-- The status in which a loss ends a record on an enabled bus (R75 rows 3 to 5). -/
theorem endsRecord_lost (h : (a.anyAcked = true ∧ r.noReplay = true ∧ final = .lostPartial) ∨
    ((a.anyAcked = false ∨ r.noReplay = false) ∧
      ((r.abortPending = true ∧ final = .aborted) ∨
        (r.abortPending = false ∧ r.budget < r.attempts ∧ final = .lost)))) : EndsRecord r a true .lost final := by
  rcases h with ⟨acked, keep, rfl⟩ | ⟨replays, ⟨aborted, rfl⟩ | ⟨goes, spent, rfl⟩⟩
  · exact .lostPartial ⟨keep, acked⟩
  · exact .lostAborted replays.symm aborted
  · exact .lost replays.symm goes spent

end losses

/-- Settles O57: every command that ends an attempt hands its outcome over, the outcome ends the record or sends it back to its
queue, and a bit sent as 0 is taken over by nobody. -/
theorem attemptLosses : Obligations.AttemptLosses := by
  unfold Obligations.AttemptLosses
  refine ⟨fun s b a g bit i r lost hb hg hi hr hbus ho on hlost => ?_, fun s a e i r n freed hr hn hfreed => ?_,
    fun s t b a a' i c e before next hb hi h ht => ?_⟩
  · have address (hp : a.phase = .inByte) (h0 : a.byteIndex = 0) (one : g.addressByte.getMsbD bit.val = true) :
        EndsAttempt s b a (.arbitrationLoss b (.addressByte bit)) a .lost Bus.withLoss (toAddressTail b) :=
      .lossInAddress bit ⟨hp, g, hg, .inl ⟨rfl, h0, one⟩⟩
    have failed (status : Status) (x : Option Nat) : (lost.countBus b fun c =>
        { c with failedFinal := satInc c.failedFinal }).finishRecord i status x (a.written + a.readBytes.length) a.readBytes =
          (s.modBus b fun y => y.withLoss.withFailed).finishRecord i status x (a.written + a.readBytes.length) a.readBytes := by
      rw [hlost, ← State.countFailed_eq]
      rfl
    have tail {status : Status} (hp : a.phase = .inByte) (h0 : a.byteIndex = 0) (one : g.addressByte.getMsbD bit.val = true)
        (hend : EndsRecord r a true .lost status) : exec (.arbitrationLoss b (.addressByte bit)) s =
          .next (toAddressTail b ((lost.countBus b fun c => { c with failedFinal := satInc c.failedFinal }).finishRecord i status
            (some a.segIndex) (a.written + a.readBytes.length) a.readBytes)).settle :=
      (address hp h0 one).exec_final_on hb hi hr hbus ho on hend (failed _ _)
    have idle {c : Instr} {e : AttemptEnd} {status : Status} (h : EndsAttempt s b a c a e Bus.withLoss (toIdle b))
        (hend : EndsRecord r a true e status) : exec c s = .next ((((lost.countBus b fun c =>
          { c with failedFinal := satInc c.failedFinal }).finishRecord i status (some a.segIndex)
            (a.written + a.readBytes.length) a.readBytes).setEngine b .idle).wake b).settle := by
      rw [h.exec_final_on hb hi hr hbus ho on hend (failed _ _)]
      rfl
    refine ⟨fun hp h0 one replays keep more notBulk noDeadline => ?_, fun hp h0 one replays goes spent => ?_,
      fun hp h0 one acked keep => ?_, fun hp h0 one replays aborted => ?_, fun hp h0 zero => ?_,
      fun addr data x hp h0 hw hx => ⟨fun zero => ?_, fun one replays goes spent => ?_⟩, fun hp inStart => ?_,
      fun final nack busy hp hfinal hbusy => ?_, fun nack hp aborted => ?_, fun hp => ⟨?_, ?_⟩, ?_⟩
    · have unchanged : s.retryClass r = r.cls := if_neg fun h => notBulk h.1
      rw [(address hp h0 one).exec_retry hb hi hr hbus ho (.lost replays keep more)
        (fun d hd => absurd (noDeadline.symm.trans hd) nofun) rfl, if_pos on, unchanged, hlost]
      rfl
    · exact tail hp h0 one (.lost replays goes spent)
    · exact tail hp h0 one (.lostPartial ⟨keep, acked⟩)
    · exact tail hp h0 one (.lostAborted replays aborted)
    · have hs : a.sending = some g.addressByte := (Attempt.sending_eq hp hg).trans (if_pos h0)
      exact ⟨(exec_arbitrationLoss_zero hb hp hs zero).1, exec_startSeen_zero hb hp hs zero, exec_stopSeen_zero hb hp hs zero⟩
    · have hs : a.sending = some x := by
        rw [Attempt.sending_eq hp hg, if_neg h0, hw]
        exact hx
      exact ⟨(exec_arbitrationLoss_zero hb hp hs zero).2, exec_startSeen_zero hb hp hs zero, exec_stopSeen_zero hb hp hs zero⟩
    · exact idle (.lossInWritten bit ⟨hp, g, hg, .inr ⟨rfl, h0, addr, data, x, hw, hx, one⟩⟩) (.lost replays goes spent)
    · rw [(EndsAttempt.lossInStop .naturalEnd .ok inStart (.inl hp) .natural).exec_ok_on hb hi hr ho on rfl rfl, hlost]
      rfl
    · have makes {P : Prop} (hP : ¬P) : a.makesRepeatedStart P :=
        hp.elim .inl fun h => .inr ⟨nack, h, fun x => absurd x hP⟩
      have hend := endsRecord_lost hfinal
      refine ⟨?_, ?_, ?_⟩
      · exact idle (.lossInRepeatedStart true (makes nofun)) hend
      · rw [(EndsAttempt.startInRepeatedStart .inRepeatedStart (.inr ⟨nofun, makes nofun⟩)).exec_final_on hb hi hr hbus ho on
          hend rfl, hbusy, failed, State.finishRecord_modBus, State.finishRecord_modBus, toIdle, State.setEngine,
          State.setEngine, State.modBus_modBus, State.modBus_modBus, State.modBus_modBus]
        rfl
      · rw [(EndsAttempt.stopInRepeatedStart .inRepeatedStart (.inr ⟨nofun, makes nofun⟩)).exec_final_on hb hi hr hbus ho on
          hend rfl, hbusy, failed, State.finishRecord_modBus, State.finishRecord_modBus, toIdle, State.setEngine,
          State.setEngine, State.modBus_modBus, State.modBus_modBus, State.modBus_modBus]
        rfl
    · exact idle (.lossInStop .aborted .stoppedByAbort false (.inr (.inr ⟨rfl, rfl, aborted, nack, hp⟩)) .aborted) .aborted
    · rw [(EndsAttempt.stopInUndriven 8 (.inl ⟨hp, rfl⟩)).exec_final_on hb hi hr hbus ho on .busError rfl]
      rfl
    · rw [(EndsAttempt.startInUndriven 8 (.inl ⟨hp, rfl⟩)).exec_final_on hb hi hr hbus ho on .busError rfl]
      rfl
    · rw [EndsAttempt.stretch.exec_final_on hb hi hr hbus ho on .stretchTimeout rfl]
      rfl
  · subst hn hfreed
    refine ⟨fun shut => ?_, fun opened he => ?_, fun status opened h => State.recordOutcome_ends hr opened h,
      fun why c opened h hc => ⟨fun early => ?_, fun x hx due => ?_⟩⟩
    · exact State.recordOutcome_silent hr shut
    · rw [he]
      exact State.recordOutcome_ok hr opened
    · rw [State.recordOutcome_retries hr opened h, State.retryRecord_joins hr why early, hc]
      rfl
    · rw [State.recordOutcome_retries hr opened h, State.retryRecord_expires hr why hx due, hc]
      rfl
  · rw [h.exec_eq hb, ht, State.handOver_record (h.item.trans hi)]

end Sys2Proof.Proofs
end

section
/-! PROOF. The starts and the stops on a bus, in every engine state (chapter 3). -/

namespace Sys2Proof.Machine

section conditions

variable {s : State} {b : BusIx} (place : Place)

/-! ### Engines without an attempt -/

theorem State.startSeen_broker (quiet : ∀ a, (s.bus b).engine ≠ .active (some a)) : s.startSeen b .broker place = s := by
  cases he : (s.bus b).engine with
  | active x =>
    cases x with
    | none => simp only [State.startSeen, he]
    | some a => exact absurd he (quiet a)
  | _ => simp only [State.startSeen, he]

theorem State.startSeen_disabled (maker : Maker) (off : (s.bus b).engine = .disabled) : s.startSeen b maker place = s := by
  cases maker <;> simp only [State.startSeen, off]

theorem State.stopSeen_disabled (off : (s.bus b).engine = .disabled) : s.stopSeen b place = s := by
  rw [State.stopSeen, off]

theorem State.startSeen_tail (tail : (s.bus b).engine = .active none) : s.startSeen b .foreign place =
    (s.modBus b fun x => { x with line := .busy, following := true, engine := .idle }).wake b := by
  simp only [State.startSeen, tail]
  rw [State.enterIdle, State.setLine, State.setFollowing, State.setEngine, State.modBus_modBus, State.modBus_modBus]

theorem State.stopSeen_tail (tail : (s.bus b).engine = .active none) : s.stopSeen b place =
    (s.modBus b fun x => { x with line := .free, engine := .idle }).wake b := by
  rw [State.stopSeen, tail]
  dsimp only
  rw [State.enterIdle, State.setLine, State.setEngine, State.modBus_modBus]

theorem State.stopSeen_rests (rests : (s.bus b).engine = .idle ∨ (s.bus b).engine = .fault) :
    s.stopSeen b place = s.modBus b fun x => { x with line := .free, following := false } := by
  have moved : (s.setLine b .free).setFollowing b false = s.modBus b fun x => { x with line := .free, following := false } :=
    State.modBus_modBus ..
  rw [State.stopSeen, ← moved]
  rcases rests with h | h <;> rw [h]

theorem State.startSeen_rests (rests : (s.bus b).engine = .idle ∨ (s.bus b).engine = .fault) :
    s.startSeen b .foreign place = s.modBus b fun x => { x with line := .busy, following := true } := by
  have moved : (s.setLine b .busy).setFollowing b true = s.modBus b fun x => { x with line := .busy, following := true } :=
    State.modBus_modBus ..
  rw [← moved]
  rcases rests with h | h <;> simp only [State.startSeen, h]

variable {w : Bool} (reserved : (s.bus b).engine = .reserved w)
include reserved

theorem State.stopSeen_reserved : s.stopSeen b place =
    s.modBus b fun x => { x with line := .free, following := false, engine := .reserved true } := by
  rw [State.stopSeen, reserved]
  dsimp only
  rw [State.reportFree_reserved (w := w), State.setLine, State.setFollowing, State.setEngine, State.modBus_modBus,
    State.modBus_modBus]
  rw [State.setFollowing_bus_self, State.setLine_bus_self]
  exact reserved

theorem State.startSeen_reserved : s.startSeen b .foreign place =
    s.modBus b fun x => { x with line := .busy, following := true, engine := .reserved false } := by
  simp only [State.startSeen, reserved]
  rw [State.abandonWait_reserved (w := w), State.setLine, State.setFollowing, State.setEngine, State.modBus_modBus,
    State.modBus_modBus]
  rw [State.setFollowing_bus_self, State.setLine_bus_self]
  exact reserved

end conditions

/-- The 3400's own repeated start begins the next segment (R63). -/
theorem State.startSeen_advance {s : State} {b : BusIx} {a : Attempt} (place : Place) (hb : (s.bus b).engine = .active (some a))
    (h : a.phase.settled = .repeatedStart) : s.startSeen b .broker place = s.modBus b fun x => { x with
      line := .busy
      engine := .active (some { a with segIndex := a.segIndex + 1, byteIndex := 0, phase := .inByte }) } := by
  simp only [State.startSeen, hb]
  rw [if_pos h, State.setLine, State.setEngine, State.modBus_modBus]
  rfl

theorem stopHandsOver (why : StopCause) : StopHandsOver why why.outcome := by
  cases why with
  | naturalEnd => exact .natural
  | addressNack => exact .addressNack
  | dataNack => exact .dataNack
  | aborted => exact .aborted

/-- The class of a retry by the age that a queue would give the record (R32, R33). -/
theorem State.retryClass_itemAge (s : State) {i : Fin 64} {r : Record} (hr : s.record i = some r) : s.retryClass r =
    if r.cls = .bulk ∧ (s.bus r.bus).config.aging ≠ 0 ∧ (s.bus r.bus).config.aging.toNat ≤ s.itemAge (.record i) then .normal
    else r.cls := by
  rw [State.retryClass, State.itemAge, hr]
  rfl

end Sys2Proof.Machine

namespace Sys2Proof.Proofs

open Sys2Proof Sys2Proof.Machine

/-- Settles O55: the engine states without an attempt one by one, and the attempt's own stop, whose outcome ends the record, sends
it back to its queue or frees it silently. -/
theorem startsAndStops : Obligations.StartsAndStops := by
  unfold Obligations.StartsAndStops
  refine ⟨fun s b place tail => ⟨?_, ?_⟩, fun s b place quiet => ?_,
    fun s b place a i r ended hb hi hr hbus ho h => ?_, fun s b place rests => ?_, fun s b place w reserved => ?_,
    fun s b place off => ?_, fun s b place rests => ?_, fun s b place w reserved => ?_, fun s b place a hb h => ?_,
    fun s b maker place off => ?_, fun s b place a i r free c n hb hp hi hr hbus ho on hu hfree hn hc =>
      ⟨fun final => ?_, fun retries aborted => ?_, fun retries keep more early => ?_, fun d retries keep more hd due => ?_⟩,
    fun s b place a i r why freed hb h hi hr shut on hu hfreed => ?_⟩
  · rw [exec_startSeen, State.startSeen_tail place tail]
  · rw [exec_stopSeen, State.stopSeen_tail place tail]
  · rw [exec_startSeen, State.startSeen_broker place quiet]
  · have stopped : exec (.stopSeen b place) s = .next (if (s.bus b).config.enabled = true then
        (if a.underDisable = true then toIdle b (ended.setLine b .unknown) else toIdle b ended)
        else toDisabled b ended).settle := by
      rcases h with ⟨hp, rfl⟩ | ⟨hp, rfl⟩ | ⟨hp, rfl⟩
      · exact (EndsAttempt.stop .naturalEnd .ok place hp .natural).exec_ok hb hi hr ho rfl rfl
      · exact (EndsAttempt.stop .dataNack .nackData place (.inl hp) .dataNack).exec_final hb hi hr hbus ho .nackData rfl
      · exact (EndsAttempt.stop .aborted .stoppedByAbort place hp .aborted).exec_final hb hi hr hbus ho .aborted rfl
    refine ⟨fun on hu => ?_, fun on hu => ?_, fun off => ?_⟩
    · rw [stopped, if_pos on, hu]
      rfl
    · rw [stopped, if_pos on, if_pos hu, toIdle, State.setLine, State.setEngine, State.modBus_modBus]
    · rw [stopped, if_neg (by rw [off]; exact Bool.false_ne_true)]
      rfl
  · rw [exec_stopSeen, State.stopSeen_rests place rests]
  · rw [exec_stopSeen, State.stopSeen_reserved place reserved]
  · rw [exec_stopSeen, State.stopSeen_disabled place off]
  · rw [exec_startSeen, State.startSeen_rests place rests]
  · rw [exec_startSeen, State.startSeen_reserved place reserved]
  · rw [exec_startSeen, State.startSeen_advance place hb]
    rcases h with h | ⟨nack, h⟩ <;> rw [h] <;> rfl
  · rw [exec_startSeen, State.startSeen_disabled place maker off]
  · have hend : EndsRecord r a (s.bus b).config.enabled .nackAddress .nackAddress := by
      rcases final with once | ⟨goes, spent⟩
      · exact .nackFinal once
      · cases again : r.retryNack with
        | false => exact .nackFinal again
        | true => exact .nackAddress again goes spent
    rw [(EndsAttempt.stop .addressNack .nackAddress place (.inl hp) .addressNack).exec_final hb hi hr hbus ho hend rfl,
      if_pos on, hu, hfree, hn, State.countFailed_eq]
    rfl
  · rw [(EndsAttempt.stop .addressNack .nackAddress place (.inl hp) .addressNack).exec_final hb hi hr hbus ho
      (.nackAborted retries aborted) rfl, if_pos on, hu, hfree, hn, State.countFailed_eq, on]
    rfl
  · rw [(EndsAttempt.stop .addressNack .nackAddress place (.inl hp) .addressNack).exec_retry hb hi hr hbus ho
      (.nackAddress retries keep more) early rfl, if_pos on, hu, hfree, hc, s.retryClass_itemAge hr, hbus]
    rfl
  · rw [(EndsAttempt.stop .addressNack .nackAddress place (.inl hp) .addressNack).exec_expired hb hi hr hbus ho
      (.nackAddress retries keep more) hd due rfl, if_pos on, hu, hfree, hc, s.retryClass_itemAge hr, hbus]
    rfl
  · refine exec_ownStop hb h (stopHandsOver why) on hu rfl ?_
    rw [State.handOver_record hi, State.recordOutcome_silent (s := s.modBus b _) hr shut, hfreed]
    by_cases natural : why = .naturalEnd
    · simp only [natural, if_true]
      rfl
    · simp only [natural, if_false]
      rfl

end Sys2Proof.Proofs
end

section
/-! PROOF. The monitor's events: a clock pulled low on a FREE bus, idle detect and a stuck line (chapter 3). -/

namespace Sys2Proof.Machine

theorem exec_clkLowOnFreeBus (s : State) (b : BusIx) : exec (.clkLowOnFreeBus b) s = .next (s.clkLow b).settle := rfl

section monitor

variable {s : State} {b : BusIx} {atEntry : Option Bool}

theorem State.abandonWait_other (h : ∀ w, (s.bus b).engine ≠ .reserved w) : s.abandonWait b = s := by
  unfold State.abandonWait
  split
  next w hw => exact absurd hw (h w)
  next => rfl

/-- A clock pulled low on a FREE bus is a bus error, and abandons a bus-free wait (R39, R53). -/
theorem State.clkLow_free (free : (s.bus b).line = .free) : s.clkLow b =
    (s.modBus b fun x => { x with
      line := .busy
      counters := { x.counters with busErrors := satInc x.counters.busErrors } }).abandonWait b := by
  rw [State.clkLow, if_pos free, State.setLine, State.countBus, State.modBus_modBus]

/-! ### Idle detect (R52) -/

section idleDetect

variable (on : (s.bus b).line ≠ .off)
include on

theorem State.idleSeen_idle (he : (s.bus b).engine = .idle) :
    s.idleSeen b = s.modBus b fun x => { x with line := .free, following := false } := by
  rw [State.idleSeen, if_neg on, he]
  exact State.modBus_modBus ..

theorem State.idleSeen_reserved {w : Bool} (he : (s.bus b).engine = .reserved w) : s.idleSeen b =
    s.modBus b fun x => { x with line := .free, following := false, engine := .reserved true } := by
  rw [State.idleSeen, if_neg on, he]
  dsimp only
  rw [State.reportFree_reserved (w := w), State.setLine, State.setFollowing, State.setEngine, State.modBus_modBus,
    State.modBus_modBus]
  rw [State.setFollowing_bus_self, State.setLine_bus_self]
  exact he

/-- A FAULT ends at idle detect, with RECOVERED offered (R85). -/
theorem State.idleSeen_fault (he : (s.bus b).engine = .fault) : s.idleSeen b = ((s.modBus b fun x => { x with
      line := .free
      following := false
      engine := .idle
      faultReason := none }).offerBusEvent b (.recovered .released)).wake b := by
  rw [State.idleSeen, if_neg on, he]
  dsimp only
  rw [State.leaveFault, State.setLine, State.setFollowing, State.setEngine, State.modBus_modBus, State.modBus_modBus,
    State.modBus_modBus]

theorem State.idleSeen_engaged (he : (s.bus b).engine = .active none ∨ (s.bus b).engine = .target) :
    s.idleSeen b = s.modBus b fun x => { x with line := .free } := by
  rw [State.idleSeen, if_neg on]
  rcases he with he | he <;> rw [he] <;> rfl

end idleDetect

theorem State.idleSeen_none (h : (s.bus b).line = .off ∨ ∃ a, (s.bus b).engine = .active (some a)) : s.idleSeen b = s := by
  rw [State.idleSeen]
  split
  next => rfl
  next on =>
    obtain ⟨a, ha⟩ := h.resolve_left on
    rw [ha]

/-! ### A stuck line (R57, R74) -/

theorem State.stuckReport_waiting
    (he : (s.bus b).engine = .idle ∨ (s.bus b).engine = .active none ∨ ∃ w, (s.bus b).engine = .reserved w) :
    s.stuckReport b atEntry = toRecovery b atEntry s := by
  rw [State.stuckReport, ← State.enterRecovery_eq]
  rcases he with he | he | ⟨w, he⟩ <;> rw [he]

theorem State.stuckReport_recovering (he : (s.bus b).engine = .fault ∨ ∃ r, (s.bus b).engine = .recovery r) :
    s.stuckReport b atEntry = s := by
  rw [State.stuckReport]
  rcases he with he | ⟨r, he⟩ <;> rw [he]

theorem State.stuckReport_target (he : (s.bus b).engine = .target) :
    s.stuckReport b atEntry = toRecovery b atEntry (s.cutOff b) := by
  rw [State.stuckReport, he, ← State.enterRecovery_eq]

theorem State.stuckSeen_none (h : (s.bus b).line = .off ∨ (s.bus b).line = .free ∨ (s.bus b).line = .stuck) :
    s.stuckSeen b atEntry = s := by
  rw [State.stuckSeen]
  rcases h with h | h | h <;> rw [h]

end monitor

end Sys2Proof.Machine

namespace Sys2Proof.Proofs

open Sys2Proof Sys2Proof.Machine

/-- Settles O56: the three events in every state of the monitor and the engine. -/
theorem monitorEvents : Obligations.MonitorEvents := by
  unfold Obligations.MonitorEvents
  refine ⟨fun s b free => ?_, fun s b busy => ?_, fun s b on => ⟨fun he => ?_, fun w he => ?_, fun he => ?_⟩,
    fun s b h he atEntry => ?_, fun s b atEntry h he => ?_, fun s b atEntry h => ?_, fun s ended b a atEntry h hb ends => ?_,
    fun s ended b atEntry h he ends => ?_, fun s b on he => ?_, fun s b h => ?_⟩
  · rw [exec_clkLowOnFreeBus, State.clkLow_free free]
    by_cases reserved : ∃ w, (s.bus b).engine = .reserved w
    · obtain ⟨w, hw⟩ := reserved
      rw [State.abandonWait_reserved (w := w) (by rw [State.modBus_bus_self]; exact hw), State.setEngine, State.modBus_modBus]
      exact congrArg (fun t : State => Host.Outcome.next t.settle) (State.modBus_congr s b _ _ (by simp only [hw]))
    · rw [State.abandonWait_other fun w hw => reserved ⟨w, by rwa [State.modBus_bus_self] at hw⟩]
      refine congrArg (fun t : State => Host.Outcome.next t.settle) (State.modBus_congr s b _ _ ?_)
      cases he : (s.bus b).engine with
      | reserved w => exact absurd ⟨w, he⟩ reserved
      | _ => rfl
  · rw [exec_clkLowOnFreeBus, State.clkLow, if_neg busy]
  · rw [exec_idleDetect, State.idleSeen_idle on he]
  · rw [exec_idleDetect, State.idleSeen_reserved on he]
  · rw [exec_idleDetect, State.idleSeen_fault on he]
  · rw [exec_stuckDetected, State.stuckSeen_reported h, State.stuckReport_waiting (by rwa [State.setLine_bus_self])]
    exact congrArg (fun t : State => Host.Outcome.next t.settle) (State.modBus_modBus ..)
  · rw [exec_stuckDetected, State.stuckSeen_reported h, State.stuckReport_recovering (by rwa [State.setLine_bus_self])]
    rfl
  · rw [exec_stuckDetected, State.stuckSeen_none h]
  · have stuck := EndsAttempt.stuck (s := s) (b := b) (a := a) atEntry h
    rcases ends with ⟨i, r, hi, hr, hbus, ho, hended⟩ | ⟨i, w, w', p, put, hi, hw, hbus, stays, ho, hl, hput, hended⟩
    · exact stuck.exec_final hb hi hr hbus ho .stretchTimeout hended
    · have handed : (s.modBus b fun x => Bus.withStretch { x with line := .stuck }).handOver a .stretchTimeout = ended := by
        rw [State.handOver_watch hi, State.watchOutcome_failed (s := s.modBus b _) hw stays ho .stretchTimeout hl rfl, hbus,
          State.modBus_modBus, hended, hput]
        rfl
      rw [stuck.exec_eq hb, handed]
  · rw [exec_stuckDetected, State.stuckSeen_reported h, State.stuckReport_target (by rwa [State.setLine_bus_self])]
    exact congrArg (fun t : State => Host.Outcome.next (toRecovery b atEntry t).settle) ends.cutOff
  · rw [exec_idleDetect, State.idleSeen_engaged on he]
  · rw [exec_idleDetect, State.idleSeen_none h]

end Sys2Proof.Proofs
end

section
/-! PROOF. The places of the state: what the laws of records, queues, staged lists and windows see of each record, each watch
and each session, and the laws in these terms (R9, R10, R27, R103, R117). -/

namespace Sys2Proof.Machine

/-! ### What the laws see -/

/-- What the laws see of a record. -/
structure RecordKey where
  owner : PortIx
  bus : BusIx
  state : RecState
  group : Option Byte
  budget : Nat
  attempts : Nat
  segments : Nat
  hasResult : Bool

def Record.key (r : Record) : RecordKey :=
  { owner := r.owner, bus := r.bus, state := r.state, group := r.group, budget := r.budget, attempts := r.attempts,
    segments := r.segments.length, hasResult := r.result.isSome }

/-- The laws of one record (R6, R7, R14, R15). -/
def RecordKey.lawful (k : RecordKey) : Prop :=
  k.segments ≤ 6 ∧ k.budget ≤ 7 ∧ k.attempts ≤ k.budget + 1 ∧ (k.hasResult = true ↔ k.state = .done) ∧
    (k.state = .staged ∨ k.state = .queued → k.attempts ≤ k.budget)

/-- A live group as a record slot sees it: its owner, its id and how often the slot stands in its staged list. -/
structure Seat where
  owner : PortIx
  id : Byte
  copies : Nat

/-- The places of a record slot: its entry, how often it stands in each queue, which engine runs it, its seats in the staged
lists and the admission lists that hold it. -/
@[ext]
structure RecordPlace where
  entry : Option RecordKey
  queued : BusIx → Nat
  runs : BusIx → Bool
  staged : Fin 8 → Option Seat
  listed : PortIx → Bool

/-- The places of a watch slot: its bus and read field, how often its read stands in each queue, and which engine runs it. -/
@[ext]
structure WatchPlace where
  entry : Option (BusIx × ReadField)
  queued : BusIx → Nat
  runs : BusIx → Bool

@[ext]
structure Places where
  record : Fin 64 → RecordPlace
  watch : Fin 12 → WatchPlace
  session : PortIx → SessionState × Nat

/-- The item of the attempt that an engine runs. -/
def Engine.item : Engine → Option Item
  | .active (some a) => some a.item
  | _ => none

/-- How often an item stands in the queue of a bus. -/
def State.copies (s : State) (b : BusIx) (it : Item) : Nat := ((s.bus b).queue.map QItem.item).count it

def State.recordPlace (s : State) (i : Fin 64) : RecordPlace where
  entry := (s.record i).map Record.key
  queued b := s.copies b (.record i)
  runs b := decide ((s.bus b).engine.item = some (.record i))
  staged g := (s.group g).map fun x => { owner := x.owner, id := s.groupId g, copies := x.staged.count i }
  listed p := decide (Source.record i ∈ (s.session p).admission)

def State.watchPlace (s : State) (w : Fin 12) : WatchPlace where
  entry := (s.watch w).map fun x => (x.bus, x.read)
  queued b := s.copies b (.watch w)
  runs b := decide ((s.bus b).engine.item = some (.watch w))

def State.places (s : State) : Places where
  record := s.recordPlace
  watch := s.watchPlace
  session p := ((s.session p).state, (s.session p).window)

/-! ### The laws -/

/-- The laws of the transaction table for one slot, and with `strict` the laws of its place. -/
structure RecordPlace.Ok (strict : Prop) (v : RecordPlace) : Prop where
  lawful : ∀ k ∈ v.entry, k.lawful
  queued : ∀ b, v.queued b ≠ 0 → ∃ k ∈ v.entry, k.state = .queued ∧ k.bus = b
  runs : ∀ b, v.runs b = true → ∃ k ∈ v.entry, k.state = .active ∧ k.bus = b
  staged : ∀ g x, v.staged g = some x → x.copies ≠ 0 → ∃ k ∈ v.entry, k.state = .staged ∧ k.group = some x.id ∧ k.owner = x.owner
  placed : strict → ∀ k ∈ v.entry, (k.state = .staged → ∃ g x, v.staged g = some x ∧ x.copies ≠ 0) ∧
    (k.state = .queued → v.queued k.bus ≠ 0) ∧ (k.state = .active → v.runs k.bus = true) ∧
    (k.state = .done → v.listed k.owner = true)
  onceQueued : strict → ∀ b, v.queued b ≤ 1
  onceStaged : strict → ∀ g x, v.staged g = some x → x.copies ≤ 1

/-- A slot that stands in no queue, no engine and no staged list. -/
structure RecordPlace.Loose (v : RecordPlace) : Prop where
  lawful : ∀ k ∈ v.entry, k.lawful
  queued : ∀ b, v.queued b = 0
  runs : ∀ b, v.runs b = false
  staged : ∀ g x, v.staged g = some x → x.copies = 0

/-- The laws of a watch's read (R117, R121). -/
structure WatchPlace.Ok (v : WatchPlace) : Prop where
  queued : ∀ b, v.queued b ≠ 0 → v.entry = some (b, .queued)
  runs : ∀ b, v.runs b = true → v.entry = some (b, .active)
  once : ∀ b, v.queued b ≤ 1

structure WatchPlace.Loose (v : WatchPlace) : Prop where
  queued : ∀ b, v.queued b = 0
  runs : ∀ b, v.runs b = false

/-- How many records a session owns (R10). -/
def Places.uses (P : Places) (p : PortIx) : Nat :=
  (Finset.univ.filter fun i => (P.record i).entry.any fun k => decide (k.owner = p)).card

/-- The window law (R10, R148, R149). -/
def Places.Windows (P : Places) : Prop :=
  ∀ p, P.uses p ≤ (P.session p).2 ∧
    ((P.session p).1 ≠ .opened → ∀ i, ∀ k ∈ (P.record i).entry, k.owner = p → k.state = .active) ∧
    ((P.session p).1 = .closed → P.uses p = 0)

/-- The laws for every slot but those of `L`, which are loose; with `strict` the laws of places too. -/
structure Places.LawfulBut (strict : Prop) (P : Places) (L : Item → Prop) : Prop where
  records : ∀ i, ¬L (.record i) → (P.record i).Ok strict
  looseRecords : ∀ i, L (.record i) → (P.record i).Loose
  watches : strict → ∀ w, ¬L (.watch w) → (P.watch w).Ok
  looseWatches : strict → ∀ w, L (.watch w) → (P.watch w).Loose
  windows : strict → P.Windows

/-- The laws for every slot. -/
def Places.Lawful (strict : Prop) (P : Places) : Prop := P.LawfulBut strict fun _ => False

theorem Places.Lawful.of_parts {strict : Prop} {P : Places} (records : ∀ i, (P.record i).Ok strict)
    (watches : strict → ∀ w, (P.watch w).Ok) (windows : strict → P.Windows) : P.Lawful strict :=
  ⟨fun i _ => records i, fun _ => False.elim, fun h w _ => watches h w, fun _ _ => False.elim, windows⟩

theorem Places.Lawful.record {strict : Prop} {P : Places} (h : P.Lawful strict) (i : Fin 64) : (P.record i).Ok strict :=
  h.records i id

theorem Places.Lawful.watch {strict : Prop} {P : Places} (h : P.Lawful strict) (hs : strict) (w : Fin 12) : (P.watch w).Ok :=
  h.watches hs w id

/-! ### The laws of the statement in these terms -/

theorem QItem.item_record {x : QItem} {i : Fin 64} : x.item = .record i ↔ x = .record i := by
  cases x <;> simp [QItem.item]

theorem QItem.item_watch {x : QItem} {w : Fin 12} : x.item = .watch w ↔ ∃ c t z, x = .watchRead w c t z := by
  cases x <;> simp [QItem.item]

variable {s : State}

theorem count_ne_zero {α : Type} [DecidableEq α] {x : α} {l : List α} : l.count x ≠ 0 ↔ x ∈ l :=
  Nat.pos_iff_ne_zero.symm.trans List.count_pos_iff

theorem State.copies_ne_zero {b : BusIx} {it : Item} : s.copies b it ≠ 0 ↔ ∃ x ∈ (s.bus b).queue, x.item = it := by
  rw [State.copies, count_ne_zero, List.mem_map]

theorem State.copies_record_ne_zero {b : BusIx} {i : Fin 64} : s.copies b (.record i) ≠ 0 ↔ QItem.record i ∈ (s.bus b).queue := by
  simp only [State.copies_ne_zero, QItem.item_record, exists_eq_right]

theorem State.copies_watch_ne_zero {b : BusIx} {w : Fin 12} :
    s.copies b (.watch w) ≠ 0 ↔ ∃ c t z, QItem.watchRead w c t z ∈ (s.bus b).queue := by
  rw [State.copies_ne_zero]
  constructor
  · rintro ⟨x, hx, hw⟩
    obtain ⟨c, t, z, rfl⟩ := QItem.item_watch.mp hw
    exact ⟨c, t, z, hx⟩
  · rintro ⟨c, t, z, h⟩
    exact ⟨_, h, rfl⟩

theorem Engine.runs_iff {e : Engine} {it : Item} : e.runs it = true ↔ e.item = some it := by
  cases e with
  | active x => cases x <;> simp [Engine.runs, Engine.item]
  | _ => simp [Engine.runs, Engine.item]

theorem card_filter_finRange (q : Fin 64 → Bool) :
    (Finset.univ.filter fun i => q i = true).card = ((List.finRange 64).filter q).length := by
  rw [Fin.univ_def]
  simp [Finset.card, Finset.filter]

theorem State.windowUse_eq (s : State) (p : PortIx) : s.places.uses p = s.windowUse p := by
  have list : s.records.toList = (List.finRange 64).map fun i => s.records[i] := by
    apply List.ext_getElem <;> simp
  have same (i : Fin 64) : ((s.places.record i).entry.any fun k => decide (k.owner = p)) =
      s.records[i].entry.any fun r => decide (r.owner = p) := by
    change (Option.map Record.key s.records[i].entry).any _ = _
    rw [Option.any_map]
    rfl
  rw [State.windowUse, list, List.filter_map, List.length_map, Places.uses]
  simp only [same]
  exact card_filter_finRange _

/-- A law of the places, slot by slot, for the entries of the state. -/
theorem State.entry_iff {i : Fin 64} {p : RecordKey → Prop} :
    (∃ k ∈ (s.places.record i).entry, p k) ↔ ∃ r ∈ s.record i, p r.key := by
  simp [State.places, State.recordPlace]

theorem State.forall_entry {i : Fin 64} {p : RecordKey → Prop} :
    (∀ k ∈ (s.places.record i).entry, p k) ↔ ∀ r ∈ s.record i, p r.key := by
  simp [State.places, State.recordPlace]

theorem State.forall_staged {i : Fin 64} {p : Seat → Prop} : (∀ g x, (s.places.record i).staged g = some x → p x) ↔
    ∀ g, ∀ x ∈ s.group g, p { owner := x.owner, id := s.groupId g, copies := x.staged.count i } := by
  simp [State.places, State.recordPlace]

theorem State.watch_entry {w : Fin 12} {b : BusIx} {x : ReadField} :
    (s.places.watch w).entry = some (b, x) ↔ ∃ y ∈ s.watch w, y.bus = b ∧ y.read = x := by
  simp [State.places, State.watchPlace, Prod.ext_iff]

theorem State.recordsLawful_of_ok {strict : Prop} (h : ∀ i, (s.places.record i).Ok strict) : s.recordsLawful := by
  refine ⟨fun i r hr => ?_, fun b i hm => ?_, fun b i hr => ?_, fun g x hx i hi => ?_⟩
  · exact State.forall_entry.mp (h i).lawful r hr
  · exact State.entry_iff.mp ((h i).queued b (State.copies_record_ne_zero.mpr hm))
  · exact State.entry_iff.mp ((h i).runs b (decide_eq_true (Engine.runs_iff.mp hr)))
  · exact State.entry_iff.mp (State.forall_staged.mp (h i).staged g x hx (count_ne_zero.mpr hi))

theorem State.placesLawful_of_lawful (h : s.places.Lawful True) : s.placesLawful := by
  refine ⟨fun p => ?_, fun i r hr => ?_, fun b => ?_, fun b c hbc x hx y hy same => ?_, fun g x hx => ?_, fun b w c t z hm => ?_,
    fun b w hr => ?_⟩
  · obtain ⟨fits, shut, closed⟩ := h.windows trivial p
    rw [State.windowUse_eq] at fits closed
    exact ⟨fits, fun hs i => State.forall_entry.mp (shut hs i), closed⟩
  · obtain ⟨staged, queued, active, done⟩ := State.forall_entry.mp ((h.record i).placed trivial) r hr
    refine ⟨fun hst => ?_, fun hq => State.copies_record_ne_zero.mp (queued hq),
      fun ha => Engine.runs_iff.mpr (of_decide_eq_true (active ha)), fun hd => of_decide_eq_true (done hd)⟩
    obtain ⟨g, y, hy, some⟩ := staged hst
    obtain ⟨x, hx, rfl⟩ := Option.map_eq_some_iff.mp hy
    exact ⟨g, x, hx, count_ne_zero.mp some⟩
  · rw [List.nodup_iff_count_le_one]
    intro it
    cases it with
    | record i => exact (h.record i).onceQueued trivial b
    | watch w => exact (h.watch trivial w).once b
  · cases hit : x.item with
    | record i =>
      obtain ⟨k, hk, -, rfl⟩ := (h.record i).queued b (State.copies_ne_zero.mpr ⟨x, hx, hit⟩)
      obtain ⟨k', hk', -, rfl⟩ := (h.record i).queued c (State.copies_ne_zero.mpr ⟨y, hy, same ▸ hit⟩)
      exact hbc (congrArg RecordKey.bus (Option.mem_unique hk hk'))
    | watch w =>
      have first := (h.watch trivial w).queued b (State.copies_ne_zero.mpr ⟨x, hx, hit⟩)
      have second := (h.watch trivial w).queued c (State.copies_ne_zero.mpr ⟨y, hy, same ▸ hit⟩)
      exact hbc (congrArg Prod.fst (Option.some.inj (first.symm.trans second)))
  · rw [List.nodup_iff_count_le_one]
    exact fun i => State.forall_staged.mp ((h.record i).onceStaged trivial) g x hx
  · exact State.watch_entry.mp ((h.watch trivial w).queued b (State.copies_watch_ne_zero.mpr ⟨c, t, z, hm⟩))
  · exact State.watch_entry.mp ((h.watch trivial w).runs b (decide_eq_true (Engine.runs_iff.mp hr)))

/-- The places are lawful under the law of the records, and with `strict` under the law of places. -/
theorem State.lawful_of_laws {strict : Prop} (h : s.recordsLawful) (hp : strict → s.placesLawful) : s.places.Lawful strict := by
  obtain ⟨each, queues, engines, lists⟩ := h
  refine .of_parts (fun i => ?_) (fun hs w => ?_) fun hs p => ?_
  · refine ⟨State.forall_entry.mpr (each i), fun b hb => State.entry_iff.mpr (queues b i (State.copies_record_ne_zero.mp hb)),
      fun b hb => State.entry_iff.mpr (engines b i (Engine.runs_iff.mpr (of_decide_eq_true hb))),
      State.forall_staged.mpr fun g x hx hc => State.entry_iff.mpr (lists g x hx i (count_ne_zero.mp hc)),
      fun hs => State.forall_entry.mpr fun r hr => ?_, fun hs b => ?_, fun hs => State.forall_staged.mpr fun g x hx => ?_⟩
    · obtain ⟨staged, queued, active, done⟩ := (hp hs).2.1 i r hr
      refine ⟨fun hst => ?_, fun hq => State.copies_record_ne_zero.mpr (queued hq),
        fun ha => decide_eq_true (Engine.runs_iff.mp (active ha)), fun hd => decide_eq_true (done hd)⟩
      obtain ⟨g, x, hx, hi⟩ := staged hst
      exact ⟨g, _, Option.map_eq_some_iff.mpr ⟨x, hx, rfl⟩, count_ne_zero.mpr hi⟩
    · exact List.nodup_iff_count_le_one.mp ((hp hs).2.2.1 b) (.record i)
    · exact List.nodup_iff_count_le_one.mp ((hp hs).2.2.2.2.1 g x hx) i
  · obtain ⟨-, -, nodup, -, -, reads, running⟩ := hp hs
    refine ⟨fun b hb => ?_, fun b hb => ?_, fun b => List.nodup_iff_count_le_one.mp (nodup b) (.watch w)⟩
    · obtain ⟨c, t, z, hm⟩ := State.copies_watch_ne_zero.mp hb
      exact State.watch_entry.mpr (reads b w c t z hm)
    · exact State.watch_entry.mpr (running b w (Engine.runs_iff.mpr (of_decide_eq_true hb)))
  · obtain ⟨fits, shut, closed⟩ := (hp hs).1 p
    rw [← State.windowUse_eq] at fits closed
    exact ⟨fits, fun ho i => State.forall_entry.mpr (shut ho i), closed⟩

end Sys2Proof.Machine
end

section
/-! PROOF. How records and watches move between their places, and what each move keeps of the laws. -/

namespace Sys2Proof.Machine

/-! ### The moves of one record -/

section record

variable {strict : Prop} {v : RecordPlace} {k : RecordKey} {b : BusIx}

/-- A FREE slot, or a record in DONE, stands nowhere. -/
theorem RecordPlace.Ok.loose (h : v.Ok strict) (rests : ∀ k ∈ v.entry, k.state = .done) : v.Loose where
  lawful := h.lawful
  queued b := by
    by_contra hb
    obtain ⟨k, hk, hq, -⟩ := h.queued b hb
    exact absurd ((rests k hk).symm.trans hq) nofun
  runs b := by
    by_contra hb
    obtain ⟨k, hk, ha, -⟩ := h.runs b (Bool.eq_true_of_not_eq_false hb)
    exact absurd ((rests k hk).symm.trans ha) nofun
  staged g x hx := by
    by_contra hc
    obtain ⟨k, hk, hst, -⟩ := h.staged g x hx hc
    exact absurd ((rests k hk).symm.trans hst) nofun

/-- The place of a record that has left the queue of bus `b`. -/
def RecordPlace.dequeued (v : RecordPlace) (b : BusIx) : RecordPlace := { v with queued := Function.update v.queued b 0 }

/-- The place of a record that joins the queue of bus `b`. -/
def RecordPlace.enqueued (v : RecordPlace) (b : BusIx) : RecordPlace :=
  { v with queued := Function.update v.queued b (v.queued b + 1) }

/-- The place of a record whose engine on bus `b` runs it, or no longer does. -/
def RecordPlace.running (v : RecordPlace) (b : BusIx) (x : Bool) : RecordPlace := { v with runs := Function.update v.runs b x }

/-- The place of a record that has left every staged list. -/
def RecordPlace.unstaged (v : RecordPlace) : RecordPlace :=
  { v with staged := fun g => (v.staged g).map fun x => { x with copies := 0 } }

theorem RecordPlace.Ok.dequeued (h : v.Ok strict) (hk : k ∈ v.entry) (queued : k.state = .queued) : (v.dequeued k.bus).Loose where
  lawful := h.lawful
  queued b := by
    by_cases hb : b = k.bus
    · rw [hb]
      exact Function.update_self ..
    · refine (Function.update_of_ne hb ..).trans ?_
      by_contra hq
      obtain ⟨k', hk', -, rfl⟩ := h.queued b hq
      exact hb (congrArg RecordKey.bus (Option.mem_unique hk' hk))
  runs b := by
    by_contra hb
    obtain ⟨k', hk', ha, -⟩ := h.runs b (Bool.eq_true_of_not_eq_false hb)
    obtain rfl := Option.mem_unique hk hk'
    exact absurd (queued.symm.trans ha) nofun
  staged g x hx := by
    by_contra hc
    obtain ⟨k', hk', hst, -⟩ := h.staged g x hx hc
    obtain rfl := Option.mem_unique hk hk'
    exact absurd (queued.symm.trans hst) nofun

theorem RecordPlace.Ok.unstaged (h : v.Ok strict) (hk : k ∈ v.entry) (staged : k.state = .staged) : v.unstaged.Loose where
  lawful := h.lawful
  queued b := by
    by_contra hb
    obtain ⟨k', hk', hq, -⟩ := h.queued b hb
    obtain rfl := Option.mem_unique hk hk'
    exact absurd (staged.symm.trans hq) nofun
  runs b := by
    by_contra hb
    obtain ⟨k', hk', ha, -⟩ := h.runs b (Bool.eq_true_of_not_eq_false hb)
    obtain rfl := Option.mem_unique hk hk'
    exact absurd (staged.symm.trans ha) nofun
  staged g x hx := by
    obtain ⟨y, -, rfl⟩ := Option.map_eq_some_iff.mp hx
    rfl

/-- An attempt that is over leaves its record loose. -/
theorem RecordPlace.Ok.disengaged (h : v.Ok strict) (hb : v.runs b = true) : (v.running b false).Loose := by
  obtain ⟨k, hk, active, rfl⟩ := h.runs b hb
  refine ⟨h.lawful, fun c => ?_, fun c => ?_, fun g x hx => ?_⟩
  · by_contra hc
    obtain ⟨k', hk', hq, -⟩ := h.queued c hc
    obtain rfl := Option.mem_unique hk hk'
    exact absurd (active.symm.trans hq) nofun
  · by_cases hc : c = k.bus
    · rw [hc]
      exact Function.update_self ..
    · refine (Function.update_of_ne hc ..).trans ?_
      by_contra hr
      obtain ⟨k', hk', -, rfl⟩ := h.runs c (Bool.eq_true_of_not_eq_false hr)
      exact hc (congrArg RecordKey.bus (Option.mem_unique hk' hk))
  · by_contra hc
    obtain ⟨k', hk', hst, -⟩ := h.staged g x hx hc
    obtain rfl := Option.mem_unique hk hk'
    exact absurd (active.symm.trans hst) nofun

/-- A loose slot that becomes FREE. -/
theorem RecordPlace.Loose.freed (h : v.Loose) : ({ v with entry := none } : RecordPlace).Ok strict where
  lawful _ hk := by cases hk
  queued b hb := absurd (h.queued b) hb
  runs b hb := absurd ((h.runs b).symm.trans hb) nofun
  staged g x hx hc := absurd (h.staged g x hx) hc
  placed _ _ hk := by cases hk
  onceQueued _ b := (h.queued b).le.trans (Nat.zero_le 1)
  onceStaged _ g x hx := (h.staged g x hx).le.trans (Nat.zero_le 1)

theorem RecordPlace.Loose.freed_loose (h : v.Loose) : ({ v with entry := none } : RecordPlace).Loose where
  lawful _ hk := by cases hk
  queued := h.queued
  runs := h.runs
  staged := h.staged

/-- A loose record joins the queue of its bus. -/
theorem RecordPlace.Loose.enqueued (h : v.Loose) (lawful : k.lawful) (queued : k.state = .queued) :
    (({ v with entry := some k } : RecordPlace).enqueued k.bus).Ok strict where
  lawful _ hk := Option.mem_some.mp hk ▸ lawful
  queued b hb := by
    refine ⟨k, rfl, queued, ?_⟩
    by_contra hne
    exact hb ((Function.update_of_ne (Ne.symm hne) ..).trans (h.queued b))
  runs b hb := absurd ((h.runs b).symm.trans hb) nofun
  staged g x hx hc := absurd (h.staged g x hx) hc
  placed _ k' hk := by
    obtain rfl := Option.mem_some.mp hk
    refine ⟨fun hst => absurd (queued.symm.trans hst) nofun, fun _ => ?_, fun ha => absurd (queued.symm.trans ha) nofun,
      fun hd => absurd (queued.symm.trans hd) nofun⟩
    exact (Function.update_self ..).trans_ne (Nat.succ_ne_zero _)
  onceQueued _ b := by
    by_cases hb : b = k.bus
    · rw [hb]
      exact ((Function.update_self ..).trans (congrArg Nat.succ (h.queued k.bus))).le
    · exact ((Function.update_of_ne hb ..).trans (h.queued b)).le.trans (Nat.zero_le 1)
  onceStaged _ g x hx := (h.staged g x hx).le.trans (Nat.zero_le 1)

/-- A loose record becomes the attempt of its bus. -/
theorem RecordPlace.Loose.engaged (h : v.Loose) (hk : v.entry = some k) (active : k.state = .active) :
    (v.running k.bus true).Ok strict where
  lawful := h.lawful
  queued b hb := absurd (h.queued b) hb
  runs b hb := by
    refine ⟨k, hk, active, ?_⟩
    by_contra hne
    exact absurd (((Function.update_of_ne (Ne.symm hne) ..).trans (h.runs b)).symm.trans hb) nofun
  staged g x hx hc := absurd (h.staged g x hx) hc
  placed _ k' hk' := by
    obtain rfl := Option.mem_unique hk hk'
    exact ⟨fun hst => absurd (active.symm.trans hst) nofun, fun hq => absurd (active.symm.trans hq) nofun,
      fun _ => Function.update_self .., fun hd => absurd (active.symm.trans hd) nofun⟩
  onceQueued _ b := (h.queued b).le.trans (Nat.zero_le 1)
  onceStaged _ g x hx := (h.staged g x hx).le.trans (Nat.zero_le 1)

/-- A loose record joins the staged list of its group. -/
theorem RecordPlace.Loose.staged_at (h : v.Loose) {g : Fin 8} {x : Seat} (hx : v.staged g = some x) (lawful : k.lawful)
    (staged : k.state = .staged) (hg : k.group = some x.id) (ho : k.owner = x.owner) :
    ({ v with entry := some k, staged := Function.update v.staged g (some { x with copies := x.copies + 1 }) } :
      RecordPlace).Ok strict where
  lawful _ hk := Option.mem_some.mp hk ▸ lawful
  queued b hb := absurd (h.queued b) hb
  runs b hb := absurd ((h.runs b).symm.trans hb) nofun
  staged g' y hy hc := by
    by_cases hg' : g' = g
    · subst hg'
      dsimp only at hy
      rw [Function.update_self] at hy
      obtain rfl := Option.some.inj hy
      exact ⟨k, rfl, staged, hg, ho⟩
    · exact absurd (h.staged g' y ((Function.update_of_ne hg' ..).symm.trans hy)) hc
  placed _ k' hk := by
    obtain rfl := Option.mem_some.mp hk
    exact ⟨fun _ => ⟨g, _, Function.update_self .., Nat.succ_ne_zero _⟩, fun hq => absurd (staged.symm.trans hq) nofun,
      fun ha => absurd (staged.symm.trans ha) nofun, fun hd => absurd (staged.symm.trans hd) nofun⟩
  onceQueued _ b := (h.queued b).le.trans (Nat.zero_le 1)
  onceStaged _ g' y hy := by
    by_cases hg' : g' = g
    · subst hg'
      dsimp only at hy
      rw [Function.update_self] at hy
      obtain rfl := Option.some.inj hy
      exact (congrArg Nat.succ (h.staged g' x hx)).le
    · exact (h.staged g' y ((Function.update_of_ne hg' ..).symm.trans hy)).le.trans (Nat.zero_le 1)

/-- What a record has become once it entered DONE. -/
def RecordKey.finished (k : RecordKey) : RecordKey := { k with state := .done, hasResult := true }

theorem RecordKey.lawful.finished (h : k.lawful) : k.finished.lawful := by
  obtain ⟨segments, budget, attempts, -, -⟩ := h
  exact ⟨segments, budget, attempts, iff_of_true rfl rfl, fun h => h.elim nofun nofun⟩

/-- `v.Ends v'`: the record of place `v` enters DONE, which frees its slot or leaves it in its owner's admission list. -/
inductive RecordPlace.Ends (v : RecordPlace) : RecordPlace → Prop
  | absent (h : v.entry = none) : v.Ends v
  | freed : v.Ends { v with entry := none }
  | waits (k : RecordKey) (h : v.entry = some k) :
      v.Ends { v with entry := some k.finished, listed := Function.update v.listed k.owner true }

theorem RecordPlace.Ends.loose {v' : RecordPlace} (h : v.Ends v') (hv : v.Loose) : v'.Loose := by
  cases h with
  | absent => exact hv
  | freed => exact hv.freed_loose
  | waits k hk => exact ⟨fun _ hk' => Option.mem_some.mp hk' ▸ (hv.lawful k hk).finished, hv.queued, hv.runs, hv.staged⟩

theorem RecordPlace.Ends.ok {v' : RecordPlace} (h : v.Ends v') (hv : v.Loose) : v'.Ok strict := by
  have once : strict → ∀ b, v.queued b ≤ 1 := fun _ b => (hv.queued b).le.trans (Nat.zero_le 1)
  have onceStaged : strict → ∀ g x, v.staged g = some x → x.copies ≤ 1 := fun _ g x hx =>
    (hv.staged g x hx).le.trans (Nat.zero_le 1)
  cases h with
  | absent hn =>
    have free := hv.freed (strict := strict)
    rwa [← hn] at free
  | freed => exact hv.freed
  | waits k hk =>
    refine ⟨fun _ hk' => Option.mem_some.mp hk' ▸ (hv.lawful k hk).finished, fun b hb => absurd (hv.queued b) hb,
      fun b hb => absurd ((hv.runs b).symm.trans hb) nofun, fun g x hx hc => absurd (hv.staged g x hx) hc,
      fun _ k' hk' => ?_, once, onceStaged⟩
    obtain rfl := Option.mem_some.mp hk'
    exact ⟨nofun, nofun, nofun, fun _ => Function.update_self ..⟩

/-- The record that is left, if any, has the owner it had. -/
theorem RecordPlace.Ends.owner {v' : RecordPlace} (h : v.Ends v') : ∀ k' ∈ v'.entry, ∃ k ∈ v.entry, k.owner = k'.owner := by
  cases h with
  | absent h => rw [h]; exact nofun
  | freed => exact nofun
  | waits k hk => exact fun k' hk' => ⟨k, hk, by rw [← Option.mem_some.mp hk']; rfl⟩

end record

/-! ### The moves of one watch -/

section watch

variable {v : WatchPlace} {b : BusIx}

theorem WatchPlace.Loose.ok (h : v.Loose) (x : Option (BusIx × ReadField)) : ({ v with entry := x } : WatchPlace).Ok where
  queued b hb := absurd (h.queued b) hb
  runs b hb := absurd ((h.runs b).symm.trans hb) nofun
  once b := (h.queued b).le.trans (Nat.zero_le 1)

/-- A watch without a read, or a FREE slot, stands nowhere. -/
theorem WatchPlace.Ok.loose (h : v.Ok) (rests : ∀ x ∈ v.entry, x.2 = .none) : v.Loose where
  queued b := by
    by_contra hb
    exact absurd (rests _ (h.queued b hb)) nofun
  runs b := by
    by_contra hb
    exact absurd (rests _ (h.runs b (Bool.eq_true_of_not_eq_false hb))) nofun

def WatchPlace.dequeued (v : WatchPlace) (b : BusIx) : WatchPlace := { v with queued := Function.update v.queued b 0 }

def WatchPlace.running (v : WatchPlace) (b : BusIx) (x : Bool) : WatchPlace := { v with runs := Function.update v.runs b x }

theorem WatchPlace.Ok.dequeued (h : v.Ok) {x : ReadField} (hx : v.entry = some (b, x)) (idle : x ≠ .active) :
    (v.dequeued b).Loose where
  queued c := by
    by_cases hc : c = b
    · rw [hc]
      exact Function.update_self ..
    · refine (Function.update_of_ne hc ..).trans ?_
      by_contra hq
      exact hc (congrArg Prod.fst (Option.some.inj ((h.queued c hq).symm.trans hx)))
  runs c := by
    by_contra hr
    have active := h.runs c (Bool.eq_true_of_not_eq_false hr)
    exact idle (congrArg Prod.snd (Option.some.inj (hx.symm.trans active)))

theorem WatchPlace.Ok.disengaged (h : v.Ok) (hb : v.runs b = true) : (v.running b false).Loose where
  queued c := by
    by_contra hq
    exact absurd (congrArg Prod.snd (Option.some.inj ((h.queued c hq).symm.trans (h.runs b hb)))) nofun
  runs c := by
    by_cases hc : c = b
    · rw [hc]
      exact Function.update_self ..
    · refine (Function.update_of_ne hc ..).trans ?_
      by_contra hr
      have other := h.runs c (Bool.eq_true_of_not_eq_false hr)
      exact hc (congrArg Prod.fst (Option.some.inj (other.symm.trans (h.runs b hb))))

theorem WatchPlace.Loose.engaged (h : v.Loose) (hx : v.entry = some (b, .active)) : (v.running b true).Ok where
  queued c hc := absurd (h.queued c) hc
  runs c hc := by
    by_cases hcb : c = b
    · rw [hcb]
      exact hx
    · exact absurd (((Function.update_of_ne hcb ..).trans (h.runs c)).symm.trans hc) nofun
  once c := (h.queued c).le.trans (Nat.zero_le 1)

theorem WatchPlace.Loose.enqueued (h : v.Loose) :
    ({ v with entry := some (b, .queued), queued := Function.update v.queued b (v.queued b + 1) } : WatchPlace).Ok where
  queued c hc := by
    by_cases hcb : c = b
    · rw [hcb]
    · exact absurd ((Function.update_of_ne hcb ..).trans (h.queued c)) hc
  runs c hc := absurd ((h.runs c).symm.trans hc) nofun
  once c := by
    by_cases hcb : c = b
    · rw [hcb]
      exact ((Function.update_self ..).trans (congrArg Nat.succ (h.queued b))).le
    · exact ((Function.update_of_ne hcb ..).trans (h.queued c)).le.trans (Nat.zero_le 1)

end watch

end Sys2Proof.Machine
end

section
/-! PROOF. The moves of the places as a whole: one slot, one engine, one staged list, one session; and what each keeps of the
laws. -/

namespace Sys2Proof.Machine

namespace Places

variable (P : Places)

def setRecord (i : Fin 64) (v : RecordPlace) : Places := { P with record := Function.update P.record i v }

def setWatch (w : Fin 12) (v : WatchPlace) : Places := { P with watch := Function.update P.watch w v }

/-- The engine of bus `b` runs an item, or none. -/
def setRuns (b : BusIx) (it : Option Item) : Places where
  record i := (P.record i).running b (decide (it = some (.record i)))
  watch w := (P.watch w).running b (decide (it = some (.watch w)))
  session := P.session

/-- The staged list of group slot `g` is emptied. -/
def clearSeats (g : Fin 8) : Places :=
  { P with record := fun i => { P.record i with
      staged := Function.update (P.record i).staged g (((P.record i).staged g).map fun x => { x with copies := 0 }) } }

/-- Only the groups that pass `keep`, by slot and owner, are left. -/
def keepSeats (keep : Fin 8 → PortIx → Bool) : Places :=
  { P with record := fun i => { P.record i with staged := fun g => ((P.record i).staged g).filter fun x => keep g x.owner } }

/-- The queue of bus `b` is emptied. -/
def clearQueue (b : BusIx) : Places where
  record i := (P.record i).dequeued b
  watch w := (P.watch w).dequeued b
  session := P.session

/-- The admission list of session `p` is emptied. -/
def unlist (p : PortIx) : Places :=
  { P with record := fun i => { P.record i with listed := Function.update (P.record i).listed p false } }

def setSession (p : PortIx) (x : SessionState × Nat) : Places := { P with session := Function.update P.session p x }

@[simp] theorem setRecord_self (i : Fin 64) (v : RecordPlace) : (P.setRecord i v).record i = v := Function.update_self ..

theorem setRecord_of_ne {i j : Fin 64} (h : j ≠ i) (v : RecordPlace) : (P.setRecord i v).record j = P.record j :=
  Function.update_of_ne h ..

@[simp] theorem setWatch_self (w : Fin 12) (v : WatchPlace) : (P.setWatch w v).watch w = v := Function.update_self ..

theorem setWatch_of_ne {w x : Fin 12} (h : x ≠ w) (v : WatchPlace) : (P.setWatch w v).watch x = P.watch x :=
  Function.update_of_ne h ..

@[simp] theorem setRecord_setRecord (i : Fin 64) (v v' : RecordPlace) : (P.setRecord i v).setRecord i v' = P.setRecord i v' := by
  simp [setRecord]

@[simp] theorem setWatch_setWatch (w : Fin 12) (v v' : WatchPlace) : (P.setWatch w v).setWatch w v' = P.setWatch w v' := by
  simp [setWatch]

@[simp] theorem setRecord_record (i : Fin 64) : P.setRecord i (P.record i) = P := by simp [setRecord]

@[simp] theorem setWatch_watch (w : Fin 12) : P.setWatch w (P.watch w) = P := by simp [setWatch]

end Places

/-! ### The window law -/

section windows

variable {P : Places}

/-- A session that owns no more records than before, each still ACTIVE if it was and the session is not OPEN, keeps the law. -/
theorem Places.Windows.shrink {Q : Places} (h : P.Windows) (sessions : Q.session = P.session)
    (shrinks : ∀ i, ∀ k' ∈ (Q.record i).entry, ∃ k ∈ (P.record i).entry, k.owner = k'.owner ∧
      ((P.session k.owner).1 ≠ .opened → k.state = .active → k'.state = .active)) : Q.Windows := by
  have fewer (p : PortIx) : Q.uses p ≤ P.uses p := by
    refine Finset.card_le_card fun i hi => ?_
    obtain ⟨k', hk', owner⟩ := Option.any_eq_true .. |>.mp (Finset.mem_filter.mp hi).2
    obtain ⟨k, hk, same, -⟩ := shrinks i k' hk'
    exact Finset.mem_filter.mpr ⟨Finset.mem_univ i, Option.any_eq_true .. |>.mpr ⟨k, hk, same ▸ owner⟩⟩
  intro p
  obtain ⟨fits, shut, closed⟩ := h p
  rw [sessions]
  refine ⟨(fewer p).trans fits, fun ho i k' hk' hp => ?_, fun hc => Nat.le_zero.mp ((fewer p).trans (closed hc).le)⟩
  obtain ⟨k, hk, same, stays⟩ := shrinks i k' hk'
  have owner : k.owner = p := same.trans hp
  exact stays (owner ▸ ho) (shut ho i k hk owner)

/-- The record of one slot changes, or leaves. -/
theorem Places.Windows.setRecord (h : P.Windows) {i : Fin 64} {v : RecordPlace}
    (shrinks : ∀ k' ∈ v.entry, ∃ k ∈ (P.record i).entry, k.owner = k'.owner ∧
      ((P.session k.owner).1 ≠ .opened → k.state = .active → k'.state = .active)) : (P.setRecord i v).Windows := by
  refine h.shrink rfl fun j k' hk' => ?_
  by_cases hj : j = i
  · subst hj
    rw [Places.setRecord_self] at hk'
    exact shrinks k' hk'
  · rw [Places.setRecord_of_ne _ hj] at hk'
    exact ⟨k', hk', rfl, fun _ => id⟩

/-- A FREE slot is taken by an OPEN session whose window has room. -/
theorem Places.Windows.take (h : P.Windows) {i : Fin 64} {v : RecordPlace} {k : RecordKey} (hv : v.entry = some k)
    (free : (P.record i).entry = none) (room : P.uses k.owner < (P.session k.owner).2)
    (opened : (P.session k.owner).1 = .opened) : (P.setRecord i v).Windows := by
  have most (p : PortIx) : (P.setRecord i v).uses p ≤ P.uses p + if k.owner = p then 1 else 0 := by
    have sub : (Finset.univ.filter fun j => ((P.setRecord i v).record j).entry.any fun k => decide (k.owner = p)) ⊆
        (Finset.univ.filter fun j => (P.record j).entry.any fun k => decide (k.owner = p)) ∪
          if k.owner = p then {i} else ∅ := by
      intro j hj
      obtain ⟨k', hk', owner⟩ := Option.any_eq_true .. |>.mp (Finset.mem_filter.mp hj).2
      by_cases hji : j = i
      · subst hji
        rw [Places.setRecord_self, hv] at hk'
        obtain rfl := Option.mem_some.mp hk'
        rw [if_pos (of_decide_eq_true owner)]
        exact Finset.mem_union_right _ (Finset.mem_singleton_self j)
      · rw [Places.setRecord_of_ne _ hji] at hk'
        exact Finset.mem_union_left _ (Finset.mem_filter.mpr ⟨Finset.mem_univ j, Option.any_eq_true .. |>.mpr ⟨k', hk', owner⟩⟩)
    refine (Finset.card_le_card sub).trans ((Finset.card_union_le ..).trans (Nat.add_le_add_left ?_ _))
    split
    · exact (Finset.card_singleton i).le
    · exact Finset.card_empty.le
  intro p
  obtain ⟨fits, shut, closed⟩ := h p
  by_cases hp : k.owner = p
  · subst hp
    have grown := most k.owner
    rw [if_pos rfl] at grown
    exact ⟨grown.trans room, fun ho => absurd opened ho, fun hc => absurd (opened.symm.trans hc) nofun⟩
  · have same := most p
    rw [if_neg hp, Nat.add_zero] at same
    refine ⟨same.trans fits, fun ho j k' hk' owner => ?_, fun hc => Nat.le_zero.mp (same.trans (closed hc).le)⟩
    by_cases hji : j = i
    · subst hji
      rw [Places.setRecord_self, hv] at hk'
      exact absurd ((congrArg RecordKey.owner (Option.mem_some.mp hk')).trans owner) hp
    · rw [Places.setRecord_of_ne _ hji] at hk'
      exact shut ho j k' hk' owner

end windows

/-! ### The laws -/

section laws

variable {strict : Prop} {P : Places} {L L' : Item → Prop}

/-- One record moves. -/
theorem Places.LawfulBut.setRecord (h : P.LawfulBut strict L) {i : Fin 64} {v : RecordPlace}
    (ok : ¬L' (.record i) → v.Ok strict) (loose : L' (.record i) → v.Loose) (same : ∀ it, it ≠ .record i → (L' it ↔ L it))
    (windows : strict → (P.setRecord i v).Windows) : (P.setRecord i v).LawfulBut strict L' where
  records j hj := by
    by_cases hji : j = i
    · subst hji
      rw [Places.setRecord_self]
      exact ok hj
    · rw [Places.setRecord_of_ne _ hji]
      exact h.records j fun hl => hj ((same _ fun e => hji (Item.record.inj e)).mpr hl)
  looseRecords j hj := by
    by_cases hji : j = i
    · subst hji
      rw [Places.setRecord_self]
      exact loose hj
    · rw [Places.setRecord_of_ne _ hji]
      exact h.looseRecords j ((same _ fun e => hji (Item.record.inj e)).mp hj)
  watches hs w hw := h.watches hs w fun hl => hw ((same (.watch w) nofun).mpr hl)
  looseWatches hs w hw := h.looseWatches hs w ((same (.watch w) nofun).mp hw)
  windows := windows

/-- One watch moves. -/
theorem Places.LawfulBut.setWatch (h : P.LawfulBut strict L) {w : Fin 12} {v : WatchPlace}
    (ok : strict → ¬L' (.watch w) → v.Ok) (loose : strict → L' (.watch w) → v.Loose)
    (same : ∀ it, it ≠ .watch w → (L' it ↔ L it)) : (P.setWatch w v).LawfulBut strict L' where
  records i hi := h.records i fun hl => hi ((same (.record i) nofun).mpr hl)
  looseRecords i hi := h.looseRecords i ((same (.record i) nofun).mp hi)
  watches hs x hx := by
    by_cases hxw : x = w
    · subst hxw
      rw [Places.setWatch_self]
      exact ok hs hx
    · rw [Places.setWatch_of_ne _ hxw]
      exact h.watches hs x fun hl => hx ((same _ fun e => hxw (Item.watch.inj e)).mpr hl)
  looseWatches hs x hx := by
    by_cases hxw : x = w
    · subst hxw
      rw [Places.setWatch_self]
      exact loose hs hx
    · rw [Places.setWatch_of_ne _ hxw]
      exact h.looseWatches hs x ((same _ fun e => hxw (Item.watch.inj e)).mp hx)
  windows hs := h.windows hs

/-- The laws but for a set of slots, said again for a set that has the same slots. -/
theorem Places.LawfulBut.congr (h : P.LawfulBut strict L) (same : ∀ it, L' it ↔ L it) : P.LawfulBut strict L' := by
  obtain rfl : L' = L := funext fun it => propext (same it)
  exact h

/-- A lawful state in which one record has been taken out of its place. -/
theorem Places.Lawful.take (h : P.Lawful strict) {i : Fin 64} {v : RecordPlace} (loose : v.Loose)
    (windows : strict → (P.setRecord i v).Windows) : (P.setRecord i v).LawfulBut strict (· = .record i) :=
  h.setRecord (fun hn => absurd rfl hn) (fun _ => loose) (fun _ hne => iff_of_false hne id) windows

/-- The one loose record finds a place. -/
theorem Places.LawfulBut.put {i : Fin 64} (h : P.LawfulBut strict (· = .record i)) {v : RecordPlace} (ok : v.Ok strict)
    (windows : strict → (P.setRecord i v).Windows) : (P.setRecord i v).Lawful strict :=
  LawfulBut.setRecord h (fun _ => ok) False.elim (fun _ hne => iff_of_false id hne) windows

/-- A record moves from one place to another. -/
theorem Places.Lawful.setRecord (h : P.Lawful strict) {i : Fin 64} {v : RecordPlace} (ok : v.Ok strict)
    (windows : strict → (P.setRecord i v).Windows) : (P.setRecord i v).Lawful strict :=
  LawfulBut.setRecord h (fun _ => ok) False.elim (fun _ _ => .rfl) windows

theorem Places.Lawful.takeWatch (h : P.Lawful strict) {w : Fin 12} {v : WatchPlace} (loose : strict → v.Loose) :
    (P.setWatch w v).LawfulBut strict (· = .watch w) :=
  LawfulBut.setWatch h (fun _ hn => absurd rfl hn) (fun hs _ => loose hs) fun _ hne => iff_of_false hne id

theorem Places.LawfulBut.putWatch {w : Fin 12} (h : P.LawfulBut strict (· = .watch w)) {v : WatchPlace} (ok : strict → v.Ok) :
    (P.setWatch w v).Lawful strict :=
  LawfulBut.setWatch h (fun hs _ => ok hs) (fun _ => False.elim) fun _ hne => iff_of_false id hne

theorem Places.Lawful.setWatch (h : P.Lawful strict) {w : Fin 12} {v : WatchPlace} (ok : strict → v.Ok) :
    (P.setWatch w v).Lawful strict :=
  LawfulBut.setWatch h (fun hs _ => ok hs) (fun _ => False.elim) fun _ _ => .rfl

/-! ### Engines -/

/-- The attempt of bus `b` is over: the engine runs nothing, and the attempt's item is loose. -/
theorem Places.Lawful.disengage (h : P.Lawful strict) {b : BusIx} {it : Item} (hb : P.setRuns b (some it) = P) :
    (P.setRuns b none).LawfulBut strict (· = it) := by
  have record (i : Fin 64) : (P.record i).runs b = decide (some it = some (.record i)) := by
    conv_lhs => rw [← hb]
    exact Function.update_self ..
  have watch (w : Fin 12) : (P.watch w).runs b = decide (some it = some (.watch w)) := by
    conv_lhs => rw [← hb]
    exact Function.update_self ..
  refine ⟨fun i hi => ?_, fun i hi => ?_, fun hs w hw => ?_, fun hs w hw => ?_, fun hs => h.windows hs⟩
  · have still : (P.setRuns b none).record i = P.record i := by
      refine RecordPlace.ext rfl rfl (Function.update_eq_self_iff.mpr ?_) rfl rfl
      rw [record]
      exact (decide_eq_false fun e => hi (Option.some.inj e).symm).symm
    rw [still]
    exact h.record i
  · exact (h.record i).disengaged (by rw [record]; exact decide_eq_true (congrArg some hi.symm))
  · have still : (P.setRuns b none).watch w = P.watch w := by
      refine WatchPlace.ext rfl rfl (Function.update_eq_self_iff.mpr ?_)
      rw [watch]
      exact (decide_eq_false fun e => hw (Option.some.inj e).symm).symm
    rw [still]
    exact h.watch hs w
  · exact (h.watch hs w).disengaged (by rw [watch]; exact decide_eq_true (congrArg some hw.symm))

/-- The engine of bus `b`, which ran nothing, takes the one loose item as its attempt. -/
theorem Places.LawfulBut.engage {it : Item} (h : P.LawfulBut strict (· = it)) {b : BusIx} (idle : P.setRuns b none = P)
    (record : ∀ i, it = .record i → ((P.record i).running b true).Ok strict)
    (watch : strict → ∀ w, it = .watch w → ((P.watch w).running b true).Ok) : (P.setRuns b (some it)).Lawful strict := by
  refine .of_parts (fun i => ?_) (fun hs w => ?_) fun hs => h.windows hs
  · by_cases hi : it = .record i
    · have taken : (P.setRuns b (some it)).record i = (P.record i).running b true := by
        rw [hi]
        exact congrArg ((P.record i).running b) (decide_eq_true rfl)
      rw [taken]
      exact record i hi
    · have still : (P.setRuns b (some it)).record i = (P.setRuns b none).record i :=
        congrArg ((P.record i).running b) (decide_eq_false fun e => hi (Option.some.inj e))
      rw [still, idle]
      exact h.records i fun e => hi e.symm
  · by_cases hw : it = .watch w
    · have taken : (P.setRuns b (some it)).watch w = (P.watch w).running b true := by
        rw [hw]
        exact congrArg ((P.watch w).running b) (decide_eq_true rfl)
      rw [taken]
      exact watch hs w hw
    · have still : (P.setRuns b (some it)).watch w = (P.setRuns b none).watch w :=
        congrArg ((P.watch w).running b) (decide_eq_false fun e => hw (Option.some.inj e))
      rw [still, idle]
      exact h.watches hs w fun e => hw e.symm

/-! ### Staged lists -/

/-- A staged list is emptied: the records that stood in it are loose. -/
theorem Places.Lawful.clearSeats (h : P.Lawful strict) {g : Fin 8}
    (distinct : ∀ i g' x y, (P.record i).staged g = some x → (P.record i).staged g' = some y → x.id = y.id → g' = g) :
    (P.clearSeats g).LawfulBut strict fun it => ∃ i x, it = .record i ∧ (P.record i).staged g = some x ∧ x.copies ≠ 0 := by
  refine ⟨fun i hi => ?_, fun i hi => ?_, fun hs w _ => h.watch hs w, fun _ w hw => ?_, fun hs => h.windows hs⟩
  · have still : (P.clearSeats g).record i = P.record i := by
      refine RecordPlace.ext rfl rfl rfl (Function.update_eq_self_iff.mpr ?_) rfl
      cases hx : (P.record i).staged g with
      | none => rfl
      | some x =>
        have empty : x.copies = 0 := by
          by_contra hc
          exact hi ⟨i, x, rfl, hx, hc⟩
        rw [Option.map_some, ← empty]
    rw [still]
    exact h.record i
  · obtain ⟨j, x, hij, hx, hc⟩ := hi
    obtain rfl := Item.record.inj hij
    obtain ⟨k, hk, staged, group, -⟩ := (h.record i).staged g x hx hc
    have loose := (h.record i).unstaged hk staged
    refine ⟨loose.lawful, loose.queued, loose.runs, fun g' y hy => ?_⟩
    by_cases hg : g' = g
    · subst hg
      rw [show ((P.clearSeats g').record i).staged g' = _ from Function.update_self ..] at hy
      obtain ⟨z, -, rfl⟩ := Option.map_eq_some_iff.mp hy
      rfl
    · rw [show ((P.clearSeats g).record i).staged g' = _ from Function.update_of_ne hg ..] at hy
      by_contra hcy
      obtain ⟨k', hk', -, group', -⟩ := (h.record i).staged g' y hy hcy
      obtain rfl := Option.mem_unique hk hk'
      exact hg (distinct i g' x y hx hy (Option.some.inj (group.symm.trans group')))
  · obtain ⟨i, x, e, -⟩ := hw
    cases e

/-- Groups whose staged lists are empty are deleted. -/
theorem Places.Lawful.keepSeats (h : P.Lawful strict) {keep : Fin 8 → PortIx → Bool}
    (empty : ∀ i g x, (P.record i).staged g = some x → keep g x.owner = false → x.copies = 0) :
    (P.keepSeats keep).Lawful strict := by
  refine .of_parts (fun i => ?_) (fun hs w => h.watch hs w) fun hs => h.windows hs
  have left {g : Fin 8} {x : Seat} (hx : ((P.keepSeats keep).record i).staged g = some x) :
      (P.record i).staged g = some x := (Option.filter_eq_some_iff.mp hx).1
  obtain ⟨lawful, queued, runs, staged, placed, onceQueued, onceStaged⟩ := h.record i
  refine ⟨lawful, queued, runs, fun g x hx => staged g x (left hx), fun hs k hk => ?_, onceQueued,
    fun hs g x hx => onceStaged hs g x (left hx)⟩
  obtain ⟨inList, rest⟩ := placed hs k hk
  refine ⟨fun hst => ?_, rest⟩
  obtain ⟨g, x, hx, hc⟩ := inList hst
  refine ⟨g, x, Option.filter_eq_some_iff.mpr ⟨hx, ?_⟩, hc⟩
  by_contra hkeep
  exact hc (empty i g x hx (Bool.eq_false_iff.mpr hkeep))

/-! ### Queues -/

/-- A queue is emptied: the items that stood in it are loose. -/
theorem Places.Lawful.clearQueue (h : P.Lawful strict) (b : BusIx) : (P.clearQueue b).LawfulBut strict fun it =>
    (∃ i, it = .record i ∧ (P.record i).queued b ≠ 0) ∨ ∃ w, it = .watch w ∧ (P.watch w).queued b ≠ 0 := by
  refine ⟨fun i hi => ?_, fun i hi => ?_, fun hs w hw => ?_, fun hs w hw => ?_, fun hs => h.windows hs⟩
  · have still : (P.clearQueue b).record i = P.record i := by
      refine RecordPlace.ext rfl (Function.update_eq_self_iff.mpr ?_) rfl rfl rfl
      by_contra hc
      exact hi (.inl ⟨i, rfl, Ne.symm hc⟩)
    rw [still]
    exact h.record i
  · obtain ⟨j, hij, hq⟩ | ⟨w, e, -⟩ := hi
    · obtain rfl := Item.record.inj hij
      obtain ⟨k, hk, queued, rfl⟩ := (h.record i).queued b hq
      exact (h.record i).dequeued hk queued
    · cases e
  · have still : (P.clearQueue b).watch w = P.watch w := by
      refine WatchPlace.ext rfl (Function.update_eq_self_iff.mpr ?_) rfl
      by_contra hc
      exact hw (.inr ⟨w, rfl, Ne.symm hc⟩)
    rw [still]
    exact h.watch hs w
  · obtain ⟨i, e, -⟩ | ⟨x, hwx, hq⟩ := hw
    · cases e
    · obtain rfl := Item.watch.inj hwx
      exact (h.watch hs w).dequeued ((h.watch hs w).queued b hq) nofun

/-! ### Sessions -/

/-- A session that owns no record in DONE loses its admission list. -/
theorem Places.Lawful.unlist (h : P.Lawful strict) {p : PortIx}
    (none_ : strict → ∀ i, ∀ k ∈ (P.record i).entry, k.owner = p → k.state ≠ .done) : (P.unlist p).Lawful strict := by
  refine .of_parts (fun i => ?_) (fun hs w => h.watch hs w) fun hs => h.windows hs
  obtain ⟨lawful, queued, runs, staged, placed, onceQueued, onceStaged⟩ := h.record i
  refine ⟨lawful, queued, runs, staged, fun hs k hk => ?_, onceQueued, onceStaged⟩
  obtain ⟨inList, inQueue, inEngine, waits⟩ := placed hs k hk
  refine ⟨inList, inQueue, inEngine, fun hd => ?_⟩
  have other : k.owner ≠ p := fun hp => none_ hs i k hk hp hd
  exact (Function.update_of_ne other ..).trans (waits hd)

/-- A session changes its state or its window. -/
theorem Places.Lawful.setSession (h : P.Lawful strict) {p : PortIx} {x : SessionState × Nat}
    (fits : strict → P.uses p ≤ x.2)
    (shut : strict → x.1 ≠ .opened → ∀ i, ∀ k ∈ (P.record i).entry, k.owner = p → k.state = .active)
    (closed : strict → x.1 = .closed → P.uses p = 0) : (P.setSession p x).Lawful strict := by
  refine .of_parts h.record (fun hs w => h.watch hs w) fun hs q => ?_
  by_cases hq : q = p
  · subst hq
    rw [show (P.setSession q x).session q = x from Function.update_self ..]
    exact ⟨fits hs, shut hs, closed hs⟩
  · rw [show (P.setSession p x).session q = P.session q from Function.update_of_ne hq ..]
    exact h.windows hs q

end laws

end Sys2Proof.Machine
end

section
/-! PROOF. What each update of the state does to the places. -/

namespace Sys2Proof.Machine

namespace State

variable {s : State}

/-! ### Updates that move nothing -/

/-- The places are told by what they read. -/
theorem places_congr {t : State} (records : ∀ i, (t.record i).map Record.key = (s.record i).map Record.key)
    (queues : ∀ b, (t.bus b).queue.map QItem.item = (s.bus b).queue.map QItem.item)
    (engines : ∀ b, (t.bus b).engine.item = (s.bus b).engine.item)
    (groups : ∀ g, (t.group g).map (fun x => (x.owner, x.staged)) = (s.group g).map fun x => (x.owner, x.staged))
    (ids : ∀ g, t.groupId g = s.groupId g)
    (watches : ∀ w, (t.watch w).map (fun x => (x.bus, x.read)) = (s.watch w).map fun x => (x.bus, x.read))
    (sessions : ∀ p, ((t.session p).state, (t.session p).window) = ((s.session p).state, (s.session p).window))
    (listed : ∀ p i, Source.record i ∈ (t.session p).admission ↔ Source.record i ∈ (s.session p).admission) :
    t.places = s.places := by
  have copies (b : BusIx) (it : Item) : t.copies b it = s.copies b it := by rw [copies, copies, queues]
  have seats (i : Fin 64) (g : Fin 8) : (t.recordPlace i).staged g = (s.recordPlace i).staged g := by
    have both := congrArg (Option.map fun y : PortIx × List (Fin 64) =>
      ({ owner := y.1, id := s.groupId g, copies := y.2.count i } : Seat)) (groups g)
    rw [Option.map_map, Option.map_map] at both
    rw [recordPlace, recordPlace]
    dsimp only
    rw [ids]
    exact both
  refine Places.ext (funext fun i => ?_) (funext fun w => ?_) (funext sessions)
  · exact RecordPlace.ext (records i) (funext fun b => copies b _)
      (funext fun b => congrArg (fun x => decide (x = some (Item.record i))) (engines b)) (funext (seats i))
      (funext fun p => decide_eq_decide.mpr (listed p i))
  · exact WatchPlace.ext (watches w) (funext fun b => copies b _)
      (funext fun b => congrArg (fun x => decide (x = some (Item.watch w))) (engines b))

theorem modBus_places (b : BusIx) (f : Bus → Bus)
    (queue : (f (s.bus b)).queue.map QItem.item = (s.bus b).queue.map QItem.item)
    (engine : (f (s.bus b)).engine.item = (s.bus b).engine.item) : (s.modBus b f).places = s.places := by
  refine places_congr (fun _ => rfl) (fun c => ?_) (fun c => ?_) (fun _ => rfl) (fun _ => rfl) (fun _ => rfl) (fun _ => rfl)
    fun _ _ => .rfl
  · rw [modBus_bus]
    split
    next h => rw [queue, h]
    next => rfl
  · rw [modBus_bus]
    split
    next h => rw [engine, h]
    next => rfl

theorem modSession_places (p : PortIx) (f : Session → Session) (state : (f (s.session p)).state = (s.session p).state)
    (window : (f (s.session p)).window = (s.session p).window)
    (listed : ∀ i, Source.record i ∈ (f (s.session p)).admission ↔ Source.record i ∈ (s.session p).admission) :
    (s.modSession p f).places = s.places := by
  refine places_congr (fun _ => rfl) (fun _ => rfl) (fun _ => rfl) (fun _ => rfl) (fun _ => rfl) (fun _ => rfl) (fun q => ?_)
    fun q i => ?_
  · rw [modSession_session]
    split
    next h => rw [state, window, h]
    next => rfl
  · rw [modSession_session]
    split
    next h => rw [listed, h]
    next => rfl

@[simp] theorem modPort_places (p : PortIx) (f : Port → Port) : (s.modPort p f).places = s.places := rfl
@[simp] theorem countPort_places (p : PortIx) (f : PortCounters → PortCounters) : (s.countPort p f).places = s.places := rfl
@[simp] theorem putLease_places (i : Fin 16) (e : Lease) : (s.putLease i e).places = s.places := rfl
@[simp] theorem freeLease_places (i : Fin 16) : (s.freeLease i).places = s.places := rfl
@[simp] theorem freeLeasesOf_places (p : PortIx) : (s.freeLeasesOf p).places = s.places := rfl
@[simp] theorem setWaiting_places (b : BusIx) (w : List (Fin 16)) : (s.setWaiting b w).places = s.places := rfl
@[simp] theorem spendFree_places : s.spendFree.places = s.places := rfl
@[simp] theorem setLevel_places (l : TriggerLine) (x : Bool) : (s.setLevel l x).places = s.places := by cases l <;> rfl
@[simp] theorem countBus_places (b : BusIx) (f : BusCounters → BusCounters) : (s.countBus b f).places = s.places :=
  modBus_places b _ rfl rfl
@[simp] theorem setLine_places (b : BusIx) (l : LineState) : (s.setLine b l).places = s.places := modBus_places b _ rfl rfl
@[simp] theorem setFollowing_places (b : BusIx) (x : Bool) : (s.setFollowing b x).places = s.places := modBus_places b _ rfl rfl
@[simp] theorem modTarget_places (b : BusIx) (f : Target → Target) : (s.modTarget b f).places = s.places :=
  modBus_places b _ rfl rfl
@[simp] theorem modConfig_places (b : BusIx) (f : BusConfig → BusConfig) : (s.modConfig b f).places = s.places :=
  modBus_places b _ rfl rfl

/-- An entry that changes in nothing the laws see. -/
theorem putRecord_places_same {i : Fin 64} {r r' : Record} (hr : s.record i = some r) (same : r'.key = r.key) :
    (s.putRecord i r').places = s.places := by
  refine places_congr (fun j => ?_) (fun _ => rfl) (fun _ => rfl) (fun _ => rfl) (fun _ => rfl) (fun _ => rfl) (fun _ => rfl)
    fun _ _ => .rfl
  rw [putRecord_record]
  split
  next h => rw [h, hr, Option.map_some, Option.map_some, same]
  next => rfl

theorem modRecord_places_same (i : Fin 64) {f : Record → Record} (same : ∀ r, (f r).key = r.key) :
    (s.modRecord i f).places = s.places := by
  unfold modRecord
  split
  next => rfl
  next r hr => exact putRecord_places_same hr (same r)

theorem putWatch_places_same {w : Fin 12} {x x' : Watch} (hw : s.watch w = some x) (bus : x'.bus = x.bus)
    (read : x'.read = x.read) : (s.putWatch w x').places = s.places := by
  refine places_congr (fun _ => rfl) (fun _ => rfl) (fun _ => rfl) (fun _ => rfl) (fun _ => rfl) (fun v => ?_) (fun _ => rfl)
    fun _ _ => .rfl
  rw [putWatch_watch]
  split
  next h => rw [h, hw, Option.map_some, Option.map_some, bus, read]
  next => rfl

theorem modWatch_places_same (w : Fin 12) {f : Watch → Watch} (same : ∀ x, (f x).bus = x.bus ∧ (f x).read = x.read) :
    (s.modWatch w f).places = s.places := by
  unfold modWatch
  split
  next => rfl
  next x hx => exact putWatch_places_same hx (same x).1 (same x).2

/-- A live group's id changes only as its slot is freed. -/
theorem putGroup_groupId (k : Fin 8) (x : GroupEntry) (g : Fin 8) : (s.putGroup k x).groupId g = s.groupId g := by
  simp only [groupId, putGroup, Fin.getElem_fin, Vector.getElem_set]
  split
  next h => rw [Fin.ext h]
  next => rfl

theorem putGroup_places_same {k : Fin 8} {x x' : GroupEntry} (hk : s.group k = some x) (owner : x'.owner = x.owner)
    (staged : x'.staged = x.staged) : (s.putGroup k x').places = s.places := by
  refine places_congr (fun _ => rfl) (fun _ => rfl) (fun _ => rfl) (fun g => ?_) (putGroup_groupId k x') (fun _ => rfl)
    (fun _ => rfl) fun _ _ => .rfl
  rw [putGroup_group]
  split
  next h => rw [h, hk, Option.map_some, Option.map_some, owner, staged]
  next => rfl

/-! ### Engines -/

/-- The bus of one engine changes, but not its queue. -/
theorem modBus_places_runs (b : BusIx) (f : Bus → Bus) (queue : (f (s.bus b)).queue = (s.bus b).queue) :
    (s.modBus b f).places = s.places.setRuns b (f (s.bus b)).engine.item := by
  have queues (c : BusIx) (it : Item) : (s.modBus b f).copies c it = s.copies c it := by
    rw [copies, copies, modBus_bus]
    split
    next h => rw [queue, h]
    next => rfl
  have engines (it : Item) : (fun c => decide (((s.modBus b f).bus c).engine.item = some it)) =
      Function.update (fun c => decide ((s.bus c).engine.item = some it)) b
        (decide ((f (s.bus b)).engine.item = some it)) := by
    funext c
    rw [modBus_bus]
    by_cases hc : c = b
    · rw [if_pos hc, hc, Function.update_self]
    · rw [if_neg hc, Function.update_of_ne hc]
  refine Places.ext (funext fun i => ?_) (funext fun w => ?_) rfl
  · exact RecordPlace.ext rfl (funext fun c => queues c _) (engines _) rfl rfl
  · exact WatchPlace.ext rfl (funext fun c => queues c _) (engines _)

theorem setEngine_places (b : BusIx) (e : Engine) : (s.setEngine b e).places = s.places.setRuns b e.item :=
  modBus_places_runs b _ rfl

/-- The places say of each engine what it runs. -/
theorem setRuns_bus (s : State) (b : BusIx) : s.places.setRuns b (s.bus b).engine.item = s.places :=
  ((modBus_places_runs (s := s) b (fun x => x) rfl).symm.trans (congrArg places (s.modBus_id b)))

/-- An engine that runs what it ran. -/
theorem setEngine_places_same {b : BusIx} {e : Engine} (h : e.item = (s.bus b).engine.item) :
    (s.setEngine b e).places = s.places := modBus_places b _ rfl h

/-! ### Records -/

theorem places_setRecord {t : State} {i : Fin 64} {v : RecordPlace} (here : t.recordPlace i = v)
    (others : ∀ j, j ≠ i → t.recordPlace j = s.recordPlace j) (watch : ∀ w, t.watchPlace w = s.watchPlace w)
    (session : t.places.session = s.places.session) : t.places = s.places.setRecord i v := by
  refine Places.ext (funext fun j => ?_) (funext watch) session
  by_cases hj : j = i
  · rw [hj, Places.setRecord_self]
    exact here
  · rw [Places.setRecord_of_ne _ hj]
    exact others j hj

theorem putRecord_places (i : Fin 64) (r : Record) :
    (s.putRecord i r).places = s.places.setRecord i { s.places.record i with entry := some r.key } := by
  refine places_setRecord (RecordPlace.ext ?_ rfl rfl rfl rfl) (fun j hj => RecordPlace.ext ?_ rfl rfl rfl rfl) (fun _ => rfl) rfl
  · simp only [recordPlace, putRecord_record, if_true, Option.map_some]
  · simp only [recordPlace, putRecord_record, if_neg hj]

theorem freeRecord_places (i : Fin 64) :
    (s.freeRecord i).places = s.places.setRecord i { s.places.record i with entry := none } := by
  refine places_setRecord (RecordPlace.ext ?_ rfl rfl rfl rfl) (fun j hj => RecordPlace.ext ?_ rfl rfl rfl rfl) (fun _ => rfl) rfl
  · simp only [recordPlace, freeRecord_record, if_true, Option.map_none]
  · simp only [recordPlace, freeRecord_record, if_neg hj]

theorem unstage_places (i : Fin 64) : (s.unstage i).places = s.places.setRecord i (s.places.record i).unstaged := by
  have group (g : Fin 8) : (s.unstage i).group g =
      (s.group g).map fun x => { x with staged := x.staged.filter fun j => decide (j ≠ i) } := by
    simp [group, unstage]
  have ids (g : Fin 8) : (s.unstage i).groupId g = s.groupId g := by simp [groupId, unstage]
  have seats (j : Fin 64) (g : Fin 8) : ((s.unstage i).recordPlace j).staged g = (s.group g).map fun x =>
      { owner := x.owner, id := s.groupId g, copies := (x.staged.filter fun l => decide (l ≠ i)).count j } := by
    simp only [recordPlace, group, ids, Option.map_map, Function.comp_def]
  refine places_setRecord (RecordPlace.ext rfl rfl rfl (funext fun g => ?_) rfl)
    (fun j hj => RecordPlace.ext rfl rfl rfl (funext fun g => ?_) rfl) (fun _ => rfl) rfl
  · rw [seats]
    simp only [places, recordPlace, RecordPlace.unstaged, Option.map_map, Function.comp_def]
    refine congrArg (fun f => Option.map f (s.group g)) (funext fun x => ?_)
    rw [List.count_eq_zero_of_not_mem]
    simp
  · rw [seats]
    refine congrArg (fun f => Option.map f (s.group g)) (funext fun x => ?_)
    rw [List.count_filter (p := fun l => decide (l ≠ i)) (decide_eq_true hj)]

/-! ### Watches -/

theorem places_setWatch {t : State} {w : Fin 12} {v : WatchPlace} (here : t.watchPlace w = v)
    (others : ∀ x, x ≠ w → t.watchPlace x = s.watchPlace x) (record : ∀ i, t.recordPlace i = s.recordPlace i)
    (session : t.places.session = s.places.session) : t.places = s.places.setWatch w v := by
  refine Places.ext (funext record) (funext fun x => ?_) session
  by_cases hx : x = w
  · rw [hx, Places.setWatch_self]
    exact here
  · rw [Places.setWatch_of_ne _ hx]
    exact others x hx

theorem putWatch_places (w : Fin 12) (x : Watch) :
    (s.putWatch w x).places = s.places.setWatch w { s.places.watch w with entry := some (x.bus, x.read) } := by
  refine places_setWatch (WatchPlace.ext ?_ rfl rfl) (fun j hj => WatchPlace.ext ?_ rfl rfl) (fun _ => rfl) rfl
  · simp only [watchPlace, putWatch_watch, if_true, Option.map_some]
  · simp only [watchPlace, putWatch_watch, if_neg hj]

theorem freeWatch_places (w : Fin 12) :
    (s.freeWatch w).places = s.places.setWatch w { s.places.watch w with entry := none } := by
  refine places_setWatch (WatchPlace.ext ?_ rfl rfl) (fun j hj => WatchPlace.ext ?_ rfl rfl) (fun _ => rfl) rfl
  · simp only [watchPlace, freeWatch_watch, if_true, Option.map_none]
  · simp only [watchPlace, freeWatch_watch, if_neg hj]

/-! ### Queues -/

theorem setQueue_copies (b c : BusIx) (q : List QItem) (it : Item) :
    (s.setQueue b q).copies c it = if c = b then (q.map QItem.item).count it else s.copies c it := by
  rw [copies, setQueue, modBus_bus]
  split <;> rfl

theorem setQueue_engine (b c : BusIx) (q : List QItem) : ((s.setQueue b q).bus c).engine = (s.bus c).engine := by
  rw [setQueue, modBus_bus]
  split
  next h => rw [h]
  next => rfl

theorem insertItem_perm (s : State) (x : QItem) (q : List QItem) : (s.insertItem x q).Perm (x :: q) := by
  induction q with
  | nil => exact .refl _
  | cons y q ih =>
    rw [insertItem]
    split
    · exact (ih.cons y).trans (.swap x y q)
    · exact .refl _

/-- The queue of one bus changes in the copies of one record. -/
theorem setQueue_places_record (b : BusIx) {q : List QItem} {i : Fin 64} {n : Nat}
    (here : (q.map QItem.item).count (.record i) = n)
    (others : ∀ it, it ≠ .record i → (q.map QItem.item).count it = s.copies b it) : (s.setQueue b q).places =
      s.places.setRecord i { s.places.record i with queued := Function.update (s.places.record i).queued b n } := by
  have runs (it : Item) : (fun c => decide (((s.setQueue b q).bus c).engine.item = some it)) =
      fun c => decide ((s.bus c).engine.item = some it) := by simp only [setQueue_engine]
  have still (c : BusIx) (it : Item) (hit : it ≠ .record i) : (s.setQueue b q).copies c it = s.copies c it := by
    rw [setQueue_copies]
    split
    next h => rw [others it hit, h]
    next => rfl
  refine places_setRecord (RecordPlace.ext rfl (funext fun c => ?_) (runs _) rfl rfl)
    (fun j hj => RecordPlace.ext rfl (funext fun c => still c _ fun e => hj (Item.record.inj e)) (runs _) rfl rfl)
    (fun w => WatchPlace.ext rfl (funext fun c => still c _ nofun) (runs _)) rfl
  change (s.setQueue b q).copies c _ = Function.update (s.recordPlace i).queued b n c
  rw [setQueue_copies]
  by_cases hc : c = b
  · rw [if_pos hc, here, hc, Function.update_self]
  · rw [if_neg hc, Function.update_of_ne hc]
    rfl

/-- The queue of one bus changes in the copies of one watch's read. -/
theorem setQueue_places_watch (b : BusIx) {q : List QItem} {w : Fin 12} {n : Nat}
    (here : (q.map QItem.item).count (.watch w) = n)
    (others : ∀ it, it ≠ .watch w → (q.map QItem.item).count it = s.copies b it) : (s.setQueue b q).places =
      s.places.setWatch w { s.places.watch w with queued := Function.update (s.places.watch w).queued b n } := by
  have runs (it : Item) : (fun c => decide (((s.setQueue b q).bus c).engine.item = some it)) =
      fun c => decide ((s.bus c).engine.item = some it) := by simp only [setQueue_engine]
  have still (c : BusIx) (it : Item) (hit : it ≠ .watch w) : (s.setQueue b q).copies c it = s.copies c it := by
    rw [setQueue_copies]
    split
    next h => rw [others it hit, h]
    next => rfl
  refine places_setWatch (WatchPlace.ext rfl (funext fun c => ?_) (runs _))
    (fun x hx => WatchPlace.ext rfl (funext fun c => still c _ fun e => hx (Item.watch.inj e)) (runs _))
    (fun i => RecordPlace.ext rfl (funext fun c => still c _ nofun) (runs _) rfl rfl) rfl
  change (s.setQueue b q).copies c _ = Function.update (s.watchPlace w).queued b n c
  rw [setQueue_copies]
  by_cases hc : c = b
  · rw [if_pos hc, here, hc, Function.update_self]
  · rw [if_neg hc, Function.update_of_ne hc]
    rfl

theorem insertItem_count (s : State) (x : QItem) (b : BusIx) (it : Item) :
    ((s.insertItem x (s.bus b).queue).map QItem.item).count it = if it = x.item then s.copies b it + 1 else s.copies b it := by
  rw [((s.insertItem_perm x (s.bus b).queue).map QItem.item).count_eq, List.map_cons, List.count_cons, copies]
  by_cases h : it = x.item
  · rw [if_pos h, if_pos (beq_iff_eq.mpr h.symm)]
  · rw [if_neg h, if_neg fun e => h (beq_iff_eq.mp e).symm, Nat.add_zero]

theorem enqueue_record_places (b : BusIx) (i : Fin 64) :
    (s.enqueue b (.record i)).places = s.places.setRecord i ((s.places.record i).enqueued b) := by
  refine setQueue_places_record b ?_ fun it hit => ?_
  · rw [insertItem_count]
    exact if_pos rfl
  · rw [insertItem_count]
    exact if_neg hit

theorem enqueue_watch_places (b : BusIx) (w : Fin 12) (c : Cls) (t : Clock) (z : Bool) :
    (s.enqueue b (.watchRead w c t z)).places = s.places.setWatch w { s.places.watch w with
      queued := Function.update (s.places.watch w).queued b ((s.places.watch w).queued b + 1) } := by
  refine setQueue_places_watch b ?_ fun it hit => ?_
  · rw [insertItem_count]
    exact if_pos rfl
  · rw [insertItem_count]
    exact if_neg hit

theorem count_filter_item (s : State) (b : BusIx) (keep : QItem → Bool) {it : Item}
    (h : ∀ x ∈ (s.bus b).queue, x.item = it → keep x = true) :
    (((s.bus b).queue.filter keep).map QItem.item).count it = s.copies b it := by
  rw [copies, List.count_eq_length_filter, List.count_eq_length_filter, List.filter_map, List.filter_map, List.length_map,
    List.length_map, List.filter_filter]
  refine congrArg List.length (List.filter_congr fun x hx => ?_)
  by_cases same : x.item = it
  · rw [h x hx same, Bool.and_true]
  · rw [Function.comp_apply, beq_eq_false_iff_ne.mpr same, Bool.false_and]

theorem dequeueRecord_places (b : BusIx) (i : Fin 64) :
    (s.dequeueRecord b i).places = s.places.setRecord i ((s.places.record i).dequeued b) := by
  refine setQueue_places_record b ?_ fun it hit => count_filter_item s b _ fun x _ hx => ?_
  · rw [List.count_eq_zero]
    intro hm
    obtain ⟨x, hx, hi⟩ := List.mem_map.mp hm
    rw [QItem.item_record.mp hi] at hx
    simpa [QItem.isRecord] using (List.mem_filter.mp hx).2
  · cases x with
    | record j => exact Bool.not_eq_true' _ |>.mpr (decide_eq_false fun e => hit (hx.symm.trans (congrArg Item.record e)))
    | watchRead => rfl

theorem dequeueWatch_places (b : BusIx) (w : Fin 12) :
    (s.dequeueWatch b w).places = s.places.setWatch w ((s.places.watch w).dequeued b) := by
  refine setQueue_places_watch b ?_ fun it hit => count_filter_item s b _ fun x _ hx => ?_
  · rw [List.count_eq_zero]
    intro hm
    obtain ⟨x, hx, hi⟩ := List.mem_map.mp hm
    obtain ⟨c, t, z, rfl⟩ := QItem.item_watch.mp hi
    simpa [QItem.isWatch] using (List.mem_filter.mp hx).2
  · cases x with
    | record => rfl
    | watchRead v => exact Bool.not_eq_true' _ |>.mpr (decide_eq_false fun e => hit (hx.symm.trans (congrArg Item.watch e)))

theorem clearedQueue_places (b : BusIx) : (s.setQueue b []).places = s.places.clearQueue b := by
  have queues (it : Item) : (fun c => (s.setQueue b []).copies c it) = Function.update (fun c => s.copies c it) b 0 := by
    funext c
    rw [setQueue_copies]
    by_cases hc : c = b
    · rw [if_pos hc, hc, Function.update_self]
      rfl
    · rw [if_neg hc, Function.update_of_ne hc]
  have runs (it : Item) : (fun c => decide (((s.setQueue b []).bus c).engine.item = some it)) =
      fun c => decide ((s.bus c).engine.item = some it) := by simp only [setQueue_engine]
  exact Places.ext (funext fun i => RecordPlace.ext rfl (queues _) (runs _) rfl rfl)
    (funext fun w => WatchPlace.ext rfl (queues _) (runs _)) rfl

/-! ### Groups -/

/-- The staged list of a live group is emptied. -/
theorem putGroup_places_clear {k : Fin 8} {x x' : GroupEntry} (hk : s.group k = some x) (owner : x'.owner = x.owner)
    (staged : x'.staged = []) : (s.putGroup k x').places = s.places.clearSeats k := by
  refine Places.ext (funext fun i => RecordPlace.ext rfl rfl rfl (funext fun g => ?_) rfl) rfl rfl
  change ((s.putGroup k x').group g).map _ = Function.update (s.recordPlace i).staged k _ g
  by_cases hg : g = k
  · subst hg
    rw [putGroup_group, if_pos rfl, Function.update_self]
    simp only [places, recordPlace, hk, Option.map_some, owner, staged, putGroup_groupId, List.count_nil]
  · rw [putGroup_group, if_neg hg, Function.update_of_ne hg]
    simp only [recordPlace, putGroup_groupId]

/-- A record joins the staged list of a live group. -/
theorem putGroup_places_stage {k : Fin 8} {x : GroupEntry} (hk : s.group k = some x) (i : Fin 64) :
    (s.putGroup k { x with staged := x.staged ++ [i] }).places = s.places.setRecord i { s.places.record i with
      staged := Function.update (s.places.record i).staged k
        (some { owner := x.owner, id := s.groupId k, copies := x.staged.count i + 1 }) } := by
  refine places_setRecord (RecordPlace.ext rfl rfl rfl (funext fun g => ?_) rfl)
    (fun j hj => RecordPlace.ext rfl rfl rfl (funext fun g => ?_) rfl) (fun _ => rfl) rfl
  · change ((s.putGroup k _).group g).map _ = Function.update (s.recordPlace i).staged k _ g
    by_cases hg : g = k
    · subst hg
      rw [putGroup_group, if_pos rfl, Function.update_self]
      simp only [Option.map_some, putGroup_groupId, List.count_append, List.count_singleton_self]
    · rw [putGroup_group, if_neg hg, Function.update_of_ne hg]
      simp only [recordPlace, putGroup_groupId]
  · change ((s.putGroup k _).group g).map _ = (s.group g).map _
    by_cases hg : g = k
    · subst hg
      rw [putGroup_group, if_pos rfl, hk]
      simp only [Option.map_some, putGroup_groupId, List.count_append, List.count_singleton, beq_eq_false_iff_ne.mpr (Ne.symm hj),
        Bool.false_eq_true, if_false, Nat.add_zero]
    · rw [putGroup_group, if_neg hg]
      simp only [putGroup_groupId]

theorem freeGroup_places (k : Fin 8) : (s.freeGroup k).places = s.places.keepSeats fun g _ => decide (g ≠ k) := by
  refine Places.ext (funext fun i => RecordPlace.ext rfl rfl rfl (funext fun g => ?_) rfl) rfl rfl
  change ((s.freeGroup k).group g).map _ = ((s.group g).map _).filter _
  by_cases hg : g = k
  · rw [freeGroup_group, if_pos hg]
    cases s.group g <;> simp [hg]
  · have id : (s.freeGroup k).groupId g = s.groupId g := by
      have other : k.val ≠ g.val := fun e => hg (Fin.ext e.symm)
      simp only [groupId, freeGroup, Fin.getElem_fin, Vector.getElem_set, if_neg other]
    rw [freeGroup_group, if_neg hg, id]
    cases s.group g <;> simp [hg, Option.filter]

theorem freeGroupsOf_places (p : PortIx) :
    (s.freeGroupsOf p).places = s.places.keepSeats fun _ q => decide (q ≠ p) := by
  refine Places.ext (funext fun i => RecordPlace.ext rfl rfl rfl (funext fun g => ?_) rfl) rfl rfl
  change ((s.freeGroupsOf p).group g).map _ = ((s.group g).map _).filter _
  simp only [group, groupId, freeGroupsOf, Fin.getElem_fin, Vector.getElem_map]
  cases hg : s.groups[g.val].entry with
  | none => simp only [hg, Option.map_none, Option.filter_none]
  | some x =>
    by_cases hp : x.owner = p
    · simp [hp, Option.filter]
    · simp [hp, hg, Option.filter]

/-- The ids of two live groups are different. -/
theorem groupId_injective {g g' : Fin 8} (h : s.groupId g = s.groupId g') : g = g' := by
  have low (k : Fin 8) : (s.groupId k).toNat % 8 = k.val := by
    have wide : k.val + 8 * s.groups[k].gen.toNat < 256 := by
      have := s.groups[k].gen.isLt
      omega
    rw [groupId, byteOf, BitVec.toNat_ofNat, Nat.mod_eq_of_lt wide]
    omega
  exact Fin.ext ((low g).symm.trans ((congrArg (fun x => x.toNat % 8) h).trans (low g')))

theorem staged_distinct (s : State) (i j : Fin 64) (g g' : Fin 8) {x y : Seat} (hx : (s.places.record i).staged g = some x)
    (hy : (s.places.record j).staged g' = some y) (same : x.id = y.id) : g' = g := by
  obtain ⟨_, -, rfl⟩ := Option.map_eq_some_iff.mp hx
  obtain ⟨_, -, rfl⟩ := Option.map_eq_some_iff.mp hy
  exact (groupId_injective same).symm

/-! ### Admission lists -/

/-- The admission list of a session changes in one record. -/
theorem places_list (p : PortIx) (f : Session → Session) {i : Fin 64} {x : Bool}
    (state : (f (s.session p)).state = (s.session p).state) (window : (f (s.session p)).window = (s.session p).window)
    (here : decide (Source.record i ∈ (f (s.session p)).admission) = x)
    (others : ∀ j, j ≠ i → (Source.record j ∈ (f (s.session p)).admission ↔ Source.record j ∈ (s.session p).admission)) :
    (s.modSession p f).places = s.places.setRecord i { s.places.record i with
      listed := Function.update (s.places.record i).listed p x } := by
  refine places_setRecord (RecordPlace.ext rfl rfl rfl rfl (funext fun q => ?_))
    (fun j hj => RecordPlace.ext rfl rfl rfl rfl (funext fun q => ?_)) (fun _ => rfl) (funext fun q => ?_)
  · change decide (Source.record i ∈ ((s.modSession p f).session q).admission) =
      Function.update (s.recordPlace i).listed p x q
    rw [modSession_session]
    by_cases hq : q = p
    · rw [if_pos hq, here, hq, Function.update_self]
    · rw [if_neg hq, Function.update_of_ne hq]
      rfl
  · change decide (Source.record j ∈ ((s.modSession p f).session q).admission) = decide _
    rw [modSession_session]
    split
    next h => rw [decide_eq_decide.mpr (others j hj), h]
    next => rfl
  · change (((s.modSession p f).session q).state, ((s.modSession p f).session q).window) = _
    rw [modSession_session]
    split
    next h => rw [state, window, h]; rfl
    next => rfl

end State

end Sys2Proof.Machine
end

section
/-! PROOF. The rules that move no record and no watch: leases, target units, bus events, the host link and the queries. -/

namespace Sys2Proof.Machine

/-- A fold of steps that each move nothing moves nothing. -/
theorem places_foldl {α : Type} (f : State → α → State) (h : ∀ s x, (f s x).places = s.places) (l : List α) (s : State) :
    (l.foldl f s).places = s.places := by
  induction l generalizing s with
  | nil => rfl
  | cons x l ih => exact (ih _).trans (h s x)

namespace State

variable {s : State}

/-! ### Reports (R152 to R156) -/

theorem watchAdmitted_place (x : Watch) : (watchAdmitted x).bus = x.bus ∧ (watchAdmitted x).read = x.read := by
  unfold watchAdmitted
  repeat' split
  all_goals exact ⟨rfl, rfl⟩

theorem releaseSource_places (p : PortIx) {src : Source} (other : ∀ i, src ≠ .record i) :
    (s.releaseSource p src).places = s.places := by
  cases src with
  | record i => exact absurd rfl (other i)
  | lease i =>
    simp only [releaseSource]
    split
    next => rfl
    next => split <;> rfl
  | group i =>
    simp only [releaseSource]
    split
    next => rfl
    next g hg => exact putGroup_places_same hg rfl rfl
  | watch i => exact modWatch_places_same i watchAdmitted_place
  | inbound b k => exact modTarget_places b _
  | tally b => exact modTarget_places b _
  | busEvent b => exact modSession_places p _ rfl rfl fun _ => .rfl

theorem push_places (p : PortIx) (r : Report) : (s.modSession p fun x => x.push r).places = s.places :=
  modSession_places p _ rfl rfl fun _ => .rfl

theorem admitOne_places (p : PortIx) {src : Source} (other : ∀ i, src ≠ .record i) : (s.admitOne p src).places = s.places := by
  unfold admitOne
  split
  next => rfl
  next r _ => rw [releaseSource_places p other, push_places]

/-- The offer of a report moves nothing, but for a record's. -/
theorem offer_places (p : PortIx) {src : Source} (other : ∀ i, src ≠ .record i) : (s.offer p src).places = s.places := by
  unfold offer
  split
  next => rfl
  next =>
    split
    · exact admitOne_places p other
    · refine modSession_places p _ rfl rfl fun i => ?_
      rw [List.mem_append, List.mem_singleton]
      exact or_iff_left fun e => other i e.symm

/-- Sources other than a record's leave the admission list. -/
theorem filterAdmission_places (p : PortIx) (keep : Source → Bool) (records : ∀ i, keep (.record i) = true) :
    (s.modSession p fun x => { x with admission := x.admission.filter keep }).places = s.places := by
  refine modSession_places p _ rfl rfl fun i => ?_
  rw [List.mem_filter]
  exact and_iff_left (records i)

theorem dropSource_places (p : PortIx) {src : Source} (other : ∀ i, src ≠ .record i) :
    (s.dropSource p src).places = s.places :=
  filterAdmission_places p _ fun i => decide_eq_true fun e => other i e.symm

theorem offerBusEventTo_places (b : BusIx) (kind : BusEventKind) (p : PortIx) :
    (s.offerBusEventTo b kind p).places = s.places := by
  unfold offerBusEventTo
  split
  · exact (offer_places (src := .busEvent b) p nofun).trans (modSession_places p _ rfl rfl fun _ => .rfl)
  · rfl

@[simp] theorem offerBusEvent_places (b : BusIx) (kind : BusEventKind) : (s.offerBusEvent b kind).places = s.places := by
  rw [offerBusEvent, offerBusEventTo_places, offerBusEventTo_places, offerBusEventTo_places]

/-! ### Reservations (R36 to R39) -/

@[simp] theorem wake_places (b : BusIx) : (s.wake b).places = s.places := by
  unfold wake
  split
  next h =>
    have idle : (s.bus b).engine = .idle := of_decide_eq_true (Bool.and_eq_true .. |>.mp h).1
    exact setEngine_places_same (by rw [idle]; rfl)
  next => rfl

@[simp] theorem reportFree_places (b : BusIx) : (s.reportFree b).places = s.places := by
  unfold reportFree
  split
  next h => exact setEngine_places_same (by rw [h]; rfl)
  next => rfl

@[simp] theorem abandonWait_places (b : BusIx) : (s.abandonWait b).places = s.places := by
  unfold abandonWait
  split
  next h => exact setEngine_places_same (by rw [h]; rfl)
  next => rfl

theorem spacingReached_places (i : Fin 64) : (s.spacingReached i).places = s.places := by
  unfold spacingReached
  repeat' split
  all_goals simp

/-! ### Leases (chapter 5) -/

theorem grantWaiting_places (i : Fin 16) (e : Lease) : (s.grantWaiting i e).places = s.places := offer_places _ nofun

theorem walkWaiting_places (b : BusIx) (kept order : List (Fin 16)) : (s.walkWaiting b kept order).places = s.places := by
  induction order generalizing s kept with
  | nil => rfl
  | cons i rest ih =>
    rw [walkWaiting]
    repeat' split
    · exact ih _
    · exact ih _
    · exact (ih _).trans (grantWaiting_places i _)

@[simp] theorem reexamine_places (b : BusIx) : (s.reexamine b).places = s.places := walkWaiting_places b [] _

@[simp] theorem afterLeaseLeft_places (b : BusIx) (x : Bool) : (s.afterLeaseLeft b x).places = s.places := by
  unfold afterLeaseLeft
  dsimp only
  split <;> simp

theorem reexamineAfter_places (before : State) (p : PortIx) (b : BusIx) : (reexamineAfter before p s b).places = s.places := by
  unfold reexamineAfter
  split <;> simp

theorem wakeAfter_places (before : State) (p : PortIx) (b : BusIx) : (wakeAfter before p s b).places = s.places := by
  unfold wakeAfter
  split <;> simp

theorem endLease_places (i : Fin 16) (e : Lease) (why : EndReason) : (s.endLease i e why).places = s.places :=
  (afterLeaseLeft_places ..).trans (offer_places _ nofun)

theorem claimRequest_places (p : PortIx) (body : List Byte) : (s.claimRequest p body).1.places = s.places := by
  unfold claimRequest claimFields acceptClaim
  dsimp only
  repeat' split
  all_goals rfl

theorem renewRequest_places (p : PortIx) (body : List Byte) : (s.renewRequest p body).1.places = s.places := by
  unfold renewRequest
  dsimp only
  repeat' split
  all_goals rfl

theorem releaseRequest_places (p : PortIx) (body : List Byte) : (s.releaseRequest p body).1.places = s.places := by
  unfold releaseRequest
  repeat' split
  next => rfl
  next => rfl
  next => rfl
  next => rfl
  next => exact (afterLeaseLeft_places ..).trans (dropSource_places p nofun)

theorem revokeRequest_places (p : PortIx) (body : List Byte) : (s.revokeRequest p body).1.places = s.places := by
  unfold revokeRequest
  repeat' split
  next => rfl
  next => rfl
  next => rfl
  next => rfl
  next => exact endLease_places ..

theorem leaseExpired_places (i : Fin 16) : (s.leaseExpired i).places = s.places := by
  unfold leaseExpired
  repeat' split
  next => rfl
  next => exact endLease_places ..
  next => rfl

/-! ### Target units (chapter 8) -/

theorem setInSlot_places (b : BusIx) (k : Fin 4) (c : InSlot) : (s.setInSlot b k c).places = s.places := modTarget_places b _

theorem completeWrite_places (b : BusIx) (followed : Bool) : (s.completeWrite b followed).places = s.places := by
  unfold completeWrite
  dsimp only
  repeat' split
  next => rfl
  next => rw [modTarget_places, setInSlot_places, countBus_places]
  next => rw [setInSlot_places, countBus_places]
  next => rw [offer_places (src := .inbound b _) _ nofun, setInSlot_places, countBus_places]

theorem endRead_places (b : BusIx) : (s.endRead b).places = s.places := by
  unfold endRead
  dsimp only
  repeat' split
  next => rfl
  next => rw [modTarget_places, countBus_places]
  next => rw [modTarget_places, countBus_places]
  next => rw [offer_places (src := .tally b) _ nofun, modTarget_places, modTarget_places, countBus_places]

@[simp] theorem cutOff_places (b : BusIx) : (s.cutOff b).places = s.places :=
  (endRead_places b).trans (completeWrite_places b false)

@[simp] theorem judgeAddress_places (b : BusIx) (dir : Direction) : (s.judgeAddress b dir).places = s.places := by
  unfold judgeAddress
  dsimp only
  repeat' split
  all_goals simp [setInSlot_places]

theorem targetByte_places (b : BusIx) (x : Byte) : (s.targetByte b x).places = s.places := by
  unfold targetByte storeByte
  repeat' split
  all_goals simp [setInSlot_places]

theorem targetTake_places (b : BusIx) (ack : Bool) : (s.targetTake b ack).places = s.places := by
  unfold targetTake readAcknowledged takeByte
  repeat' split
  all_goals simp

theorem loseOwnership_places (p : PortIx) (b : BusIx) : (s.loseOwnership p b).places = s.places :=
  (filterAdmission_places p _ fun _ => rfl).trans (modTarget_places b _)

theorem targetOwnRequest_places (p : PortIx) (body : List Byte) : (s.targetOwnRequest p body).1.places = s.places := by
  unfold targetOwnRequest
  repeat' split
  all_goals simp [loseOwnership_places]

theorem targetLoadRequest_places (p : PortIx) (body : List Byte) : (s.targetLoadRequest p body).1.places = s.places := by
  unfold targetLoadRequest loadReplace loadAppend
  dsimp only
  repeat' split
  all_goals simp

/-! ### Sessions, queries and the host link (chapters 9 to 11) -/

theorem rewindRequest_places (p : PortIx) (body : List Byte) : (s.rewindRequest p body).1.places = s.places := by
  unfold rewindRequest
  split
  next => rfl
  next => exact modSession_places p _ rfl rfl fun _ => .rfl

theorem timerExpired_places (p : PortIx) : (s.timerExpired p).places = s.places := by
  unfold timerExpired
  split
  next => exact modSession_places p _ rfl rfl fun _ => .rfl
  next => rfl

theorem clearCounters_places : s.clearCounters.places = s.places :=
  places_congr (fun _ => rfl) (fun b => by simp [clearCounters, bus]) (fun b => by simp [clearCounters, bus]) (fun _ => rfl)
    (fun _ => rfl) (fun _ => rfl) (fun _ => rfl) fun _ _ => .rfl

theorem kick_places (p : PortIx) : (s.kick p).places = s.places := by
  obtain ⟨-, h⟩ | ⟨-, m, rest, -, h⟩ | ⟨-, -, -, h⟩ | ⟨-, -, e, out, -, h⟩ := s.kick_cases p <;> rw [h]
  · rfl
  · exact (modPort_places ..).trans (modSession_places p _ rfl rfl fun _ => .rfl)

theorem settle_places : s.settle.places = s.places := by
  rw [settle, kick_places, kick_places, kick_places]

/-- As the clock ticks, ages and spacings move, and no record and no watch does (R1). -/
theorem tick_places : s.tick.places = s.places := by
  refine places_congr (fun i => ?_) (fun b => ?_) (fun b => by rw [tick_bus]) (fun _ => rfl) (fun _ => rfl) (fun _ => rfl)
    (fun _ => rfl) fun _ _ => .rfl
  · rw [tick_record, Option.map_map]
    rfl
  · rw [tick_bus, List.map_map]
    refine List.map_congr_left fun x _ => ?_
    cases x <;> rfl

end State

end Sys2Proof.Machine
end

section
/-! PROOF. The engine's moves that start and end no attempt, and the requests that move no record and no watch. -/

namespace Sys2Proof.Machine

theorem Places.setRuns_setRuns (P : Places) (b : BusIx) (x y : Option Item) : (P.setRuns b x).setRuns b y = P.setRuns b y := by
  refine Places.ext (funext fun i => ?_) (funext fun w => ?_) rfl
  · exact RecordPlace.ext rfl rfl (Function.update_idem ..) rfl rfl
  · exact WatchPlace.ext rfl rfl (Function.update_idem ..)

theorem Places.setRuns_setRecord (P : Places) (b : BusIx) (x : Option Item) (i : Fin 64) (v : RecordPlace) :
    (P.setRecord i v).setRuns b x = (P.setRuns b x).setRecord i (v.running b (decide (x = some (.record i)))) := by
  refine Places.ext (funext fun j => ?_) rfl rfl
  by_cases hj : j = i
  · subst hj
    rw [Places.setRecord_self]
    exact congrArg (fun u : RecordPlace => u.running b (decide (x = some (.record j)))) (P.setRecord_self j v)
  · rw [Places.setRecord_of_ne _ hj]
    exact congrArg (fun u : RecordPlace => u.running b (decide (x = some (.record j)))) (P.setRecord_of_ne hj v)

theorem Places.setRuns_setWatch (P : Places) (b : BusIx) (x : Option Item) (w : Fin 12) (v : WatchPlace) :
    (P.setWatch w v).setRuns b x = (P.setRuns b x).setWatch w (v.running b (decide (x = some (.watch w)))) := by
  refine Places.ext rfl (funext fun j => ?_) rfl
  by_cases hj : j = w
  · subst hj
    rw [Places.setWatch_self]
    exact congrArg (fun u : WatchPlace => u.running b (decide (x = some (.watch j)))) (P.setWatch_self j v)
  · rw [Places.setWatch_of_ne _ hj]
    exact congrArg (fun u : WatchPlace => u.running b (decide (x = some (.watch j)))) (P.setWatch_of_ne hj v)

/-! ### What an engine runs -/

theorem Attempt.atAddress_item (a : Attempt) : a.atAddress.item = a.item := by
  unfold Attempt.atAddress
  split <;> rfl

theorem Attempt.atBoundary_item (a : Attempt) : a.atBoundary.item = a.item := by
  unfold Attempt.atBoundary
  split <;> rfl

theorem Attempt.metAt_item (a : Attempt) (place : Place) : (a.metAt place).item = a.item := by
  cases place with
  | inByte bit =>
    change (if bit.val = 8 then a else { a with phase := a.phase.settled }).item = a.item
    split <;> rfl
  | boundary => exact a.atBoundary_item
  | inRepeatedStart => rfl

theorem Attempt.lossMet_item {a a' : Attempt} {bit : LossBit} (h : a.lossMet bit = some a') : a'.item = a.item := by
  cases bit with
  | addressByte k =>
    obtain ⟨-, same⟩ := Option.ite_none_right_eq_some.mp h
    exact (congrArg Attempt.item (Option.some.inj same)).symm.trans a.atAddress_item
  | writtenByte k =>
    obtain ⟨-, same⟩ := Option.ite_none_right_eq_some.mp h
    exact (congrArg Attempt.item (Option.some.inj same)).symm
  | readNack =>
    unfold Attempt.lossMet at h
    dsimp only at h
    split at h
    · obtain ⟨-, same⟩ := Option.ite_none_right_eq_some.mp h
      exact (congrArg Attempt.item (Option.some.inj same)).symm
    all_goals cases h

namespace State

variable {s : State}

theorem item_of_active {b : BusIx} {a : Attempt} (h : (s.bus b).engine = .active (some a)) :
    (s.bus b).engine.item = some a.item := by
  rw [h]
  rfl

/-- An engine that runs nothing leaves the places as they are where it goes on to run nothing. -/
theorem setRuns_none (s : State) {b : BusIx} (h : (s.bus b).engine.item = none) : s.places.setRuns b none = s.places :=
  (congrArg (s.places.setRuns b) h.symm).trans (s.setRuns_bus b)

theorem enterIdle_places (b : BusIx) : (s.enterIdle b).places = s.places.setRuns b none :=
  (wake_places b).trans (setEngine_places b .idle)

theorem enterDisabled_places (b : BusIx) : (s.enterDisabled b).places = s.places.setRuns b none :=
  (offerBusEvent_places b _).trans (modBus_places_runs b _ rfl)

theorem enterRecovery_places (b : BusIx) (x : Bool) (l : Option Bool) :
    (s.enterRecovery b x l).places = s.places.setRuns b none := by
  rw [enterRecovery, modBus_places_runs b _ rfl, countBus_places]
  rfl

theorem enterTail_places (b : BusIx) (x : Bool) :
    ((s.setEngine b (.active none)).setFollowing b x).places = s.places.setRuns b none :=
  (setFollowing_places b x).trans (setEngine_places b _)

theorem clearFault_places (b : BusIx) : (s.modBus b fun x => { x with faultReason := none }).places = s.places :=
  modBus_places b _ rfl rfl

theorem recoveryEnds_places (b : BusIx) (r : Recovery) : (s.recoveryEnds b r).places = s.places.setRuns b none := by
  have idle : ((s.setEngine b .idle).modBus b fun x => { x with faultReason := none }).places = s.places.setRuns b none :=
    (clearFault_places b).trans (setEngine_places b .idle)
  unfold recoveryEnds
  dsimp only
  rw [wake_places]
  repeat' split
  · exact (offerBusEvent_places b _).trans idle
  · exact (offerBusEvent_places b _).trans idle
  · exact idle

theorem leaveFault_places (b : BusIx) : (s.leaveFault b).places = s.places.setRuns b none := by
  rw [leaveFault, wake_places, offerBusEvent_places, clearFault_places, setEngine_places]
  rfl

theorem recoveryFault_places (b : BusIx) (why : FaultReason) :
    (s.recoveryFault b why).places = s.places.setRuns b none := by
  rw [recoveryFault, offerBusEvent_places, modBus_places_runs b _ rfl, countBus_places]
  rfl

/-- The attempt is over, whatever state the engine takes. -/
theorem leaveAttempt_places {b : BusIx} {next : State → State} (h : (next s).places = s.places.setRuns b none) :
    (s.leaveAttempt b next).places = s.places.setRuns b none := by
  unfold leaveAttempt
  split
  · exact h
  · exact enterDisabled_places b

/-! ### Recovery (R80 to R86) -/

theorem recoveryRise_places (b : BusIx) (dat : Bool) : (s.recoveryRise b dat).places = s.places := by
  unfold recoveryRise
  split
  next r h =>
    have none_ : (s.bus b).engine.item = none := by rw [h]; rfl
    repeat' split
    · rfl
    · exact setEngine_places_same none_.symm
    · exact (recoveryEnds_places b r).trans (s.setRuns_none none_)
    · exact setEngine_places_same none_.symm
  next => rfl

theorem recoveryPulse_places (b : BusIx) (dat : Bool) : (s.recoveryPulse b dat).places = s.places := by
  unfold recoveryPulse
  split
  next r h =>
    have none_ : (s.bus b).engine.item = none := by rw [h]; rfl
    repeat' split
    · rfl
    · exact setEngine_places_same none_.symm
    · exact (recoveryFault_places b _).trans (s.setRuns_none none_)
    · exact setEngine_places_same none_.symm
  next => rfl

theorem recoveryTimeout_places (b : BusIx) : (s.recoveryTimeout b).places = s.places := by
  unfold recoveryTimeout
  split
  next r h => exact (recoveryFault_places b _).trans (s.setRuns_none (by rw [h]; rfl))
  next => rfl

theorem recoveryStopHeld_places (b : BusIx) : (s.recoveryStopHeld b).places = s.places := by
  unfold recoveryStopHeld
  split
  next r h =>
    split
    · exact (recoveryFault_places b _).trans (s.setRuns_none (by rw [h]; rfl))
    · rfl
  next => rfl

theorem endIfQuiet_places (b : BusIx) : (s.endIfQuiet b).places = s.places := by
  unfold endIfQuiet
  split
  · exact recoveryRise_places b true
  · rfl

theorem busRecoverRequest_places (body : List Byte) : (s.busRecoverRequest body).1.places = s.places := by
  have recover (b : BusIx) (x : Bool) (h : (s.bus b).engine.item = none) :
      ((s.enterRecovery b x none).endIfQuiet b).places = s.places :=
    (endIfQuiet_places b).trans ((enterRecovery_places b x none).trans (s.setRuns_none h))
  unfold busRecoverRequest
  split
  · rfl
  split
  · rfl
  split
  · rfl
  split
  next h => exact recover _ _ (by rw [h]; rfl)
  next h => exact recover _ _ (by rw [h]; rfl)
  next h => exact recover _ _ (by rw [h]; rfl)
  all_goals rfl

theorem clockAtEntry_places (before : State) (body : RecoverBody) : (s.clockAtEntry before body).places = s.places := by
  unfold clockAtEntry
  repeat' split
  next => rfl
  next => exact recoveryRise_places ..
  next => rfl

/-! ### The bytes of an attempt (R62 to R64) -/

theorem addressAck_places (b : BusIx) (ack : Bool) : (s.addressAck b ack).places = s.places := by
  unfold addressAck
  split
  next a h =>
    have item (a' : Attempt) (same : a'.item = a.atAddress.item) :
        (Engine.active (some a')).item = (s.bus b).engine.item :=
      (congrArg some (same.trans a.atAddress_item)).trans (item_of_active h).symm
    dsimp only
    repeat' split
    next => rfl
    next => exact setEngine_places_same (item _ rfl)
    next =>
      rw [setEngine_places, countBus_places]
      exact (congrArg (s.places.setRuns b) (item _ rfl)).trans (s.setRuns_bus b)
    next => rfl
  next => rfl

theorem writeAck_places (b : BusIx) (ack : Bool) : (s.writeAck b ack).places = s.places := by
  unfold writeAck
  split
  next a h =>
    have item (a' : Attempt) (same : a'.item = a.item) : (Engine.active (some a')).item = (s.bus b).engine.item :=
      (congrArg some same).trans (item_of_active h).symm
    repeat' split
    next => rfl
    next => exact setEngine_places_same (item _ rfl)
    next =>
      rw [setEngine_places, countBus_places]
      exact (congrArg (s.places.setRuns b) (item _ rfl)).trans (s.setRuns_bus b)
    next => rfl
  next => rfl

theorem readByte_places (b : BusIx) (x : Byte) : (s.readByte b x).places = s.places := by
  unfold readByte
  split
  next a h =>
    repeat' split
    next => rfl
    next => exact setEngine_places_same (item_of_active h).symm
    next => rfl
  next => rfl

/-! ### Aborts (R18, R22, R58, R69) -/

theorem abortAttempt_places (b : BusIx) : (s.abortAttempt b).places = s.places := by
  unfold abortAttempt
  split
  next a h =>
    have marked : (s.setEngine b (.active (some { a with abortPending := true }))).places = s.places :=
      setEngine_places_same (item_of_active h).symm
    dsimp only
    split
    · refine .trans (modRecord_places_same _ ?_) marked
      exact fun _ => rfl
    · exact marked
  next => rfl

theorem abortRecord_places (i : Fin 64) : (s.abortRecord i).places = s.places := by
  unfold abortRecord
  split
  next => rfl
  next r hr =>
    have marked : (s.putRecord i { r with abortPending := true }).places = s.places := putRecord_places_same hr rfl
    dsimp only
    split
    next a h =>
      split
      · refine .trans (setEngine_places_same ?_) marked
        exact (item_of_active h).symm
      · exact marked
    next => exact marked

theorem abortEverywhere_places : s.abortEverywhere.places = s.places :=
  places_foldl _ (fun _ b => (modTarget_places b _).trans (abortAttempt_places b)) _ s

theorem disableEngine_places (b : BusIx) : (s.disableEngine b).places = s.places := by
  have off (h : (s.bus b).engine.item = none) : (s.enterDisabled b).places = s.places :=
    (enterDisabled_places b).trans (s.setRuns_none h)
  unfold disableEngine
  split
  next => rfl
  next =>
    refine (modBus_places b _ ?_ ?_).trans (abortAttempt_places b)
    · split <;> rfl
    · split
      next h => rw [h]; rfl
      next => rfl
  next h =>
    rw [enterDisabled_places, cutOff_places]
    exact s.setRuns_none (by rw [h]; rfl)
  next h => exact off (by rw [h]; rfl)
  next h => exact off (by rw [h]; rfl)
  next h => exact off (by rw [h]; rfl)
  next h => exact off (by rw [h]; rfl)
  next h => exact off (by rw [h]; rfl)

theorem enableBus_places (b : BusIx) : (s.enableBus b).places = s.places := by
  unfold enableBus
  dsimp only
  split
  next h =>
    rw [enterIdle_places, setLine_places, modConfig_places]
    exact s.setRuns_none (by rw [h]; rfl)
  next => exact modConfig_places b _

/-! ### Starts, stops and foreign addresses without an attempt -/

theorem Engine.item_of_follows {e : Engine} (h : e.follows = true) : e.item = none := by
  cases e with
  | active x => cases h
  | _ => rfl

theorem foreignAddress_places (b : BusIx) (addr : Addr) (dir : Direction) :
    (s.foreignAddress b addr dir).places = s.places := by
  unfold foreignAddress
  dsimp only
  split
  next => rfl
  next h =>
    obtain ⟨-, follows⟩ := Bool.and_eq_true .. |>.mp (Bool.not_eq_false _ |>.mp fun e => h (congrArg not e))
    have done : ((s.setFollowing b false).completeWrite b (decide ((s.bus b).config.own = some addr) &&
        decide (dir = .read))).places = s.places := (completeWrite_places b _).trans (setFollowing_places b _)
    split
    · rw [judgeAddress_places, setEngine_places, done]
      exact s.setRuns_none (Engine.item_of_follows follows)
    · exact done

theorem foreignOwn_places (b : BusIx) (dir : Direction) : (s.foreignOwn b dir).places = s.places := by
  unfold foreignOwn
  split
  · rfl
  · exact foreignAddress_places ..

theorem foreignOther_places (b : BusIx) (addr : Addr) (dir : Direction) : (s.foreignOther b addr dir).places = s.places := by
  unfold foreignOther
  split
  · rfl
  · exact foreignAddress_places ..

theorem tailEnds_places (b : BusIx) (addr : Addr) (dir : Direction) : (s.tailEnds b addr dir).places = s.places := by
  unfold tailEnds
  split
  next h =>
    have none_ : (s.bus b).engine.item = none := by rw [h]; rfl
    split
    · rw [judgeAddress_places, setEngine_places]
      exact s.setRuns_none none_
    · exact (enterIdle_places b).trans (s.setRuns_none none_)
  next => rfl

theorem clkLow_places (b : BusIx) : (s.clkLow b).places = s.places := by
  unfold clkLow
  split
  · rw [abandonWait_places, countBus_places, setLine_places]
  · rfl

theorem countCutOff_places (b : BusIx) (place : Place) : (s.countCutOff b place).places = s.places := by
  unfold countCutOff
  split
  · exact countBus_places b _
  · rfl

theorem startInTarget_places (b : BusIx) (place : Place) : (s.startInTarget b place).places = s.places := by
  unfold startInTarget
  dsimp only
  rw [setFollowing_places]
  split
  · exact (cutOff_places b).trans (countCutOff_places b place)
  · exact (endRead_places b).trans (countCutOff_places b place)

theorem stopInTarget_places (b : BusIx) (place : Place) (h : (s.bus b).engine.item = none) :
    (s.stopInTarget b place).places = s.places := by
  have cut : ((s.countCutOff b place).cutOff b).places = s.places := (cutOff_places b).trans (countCutOff_places b place)
  unfold stopInTarget
  dsimp only
  split
  · rw [leaveFault_places, cut]
    exact s.setRuns_none h
  · rw [enterIdle_places, cut]
    exact s.setRuns_none h

theorem idleSeen_places (b : BusIx) : (s.idleSeen b).places = s.places := by
  unfold idleSeen
  split
  · rfl
  dsimp only
  split
  next => rw [reportFree_places, setFollowing_places, setLine_places]
  next r h =>
    rw [recoveryEnds_places, setLine_places]
    exact s.setRuns_none (by rw [h]; rfl)
  next h =>
    rw [leaveFault_places, setFollowing_places, setLine_places]
    exact s.setRuns_none (by rw [h]; rfl)
  next => rw [setFollowing_places, setLine_places]
  next => rfl
  all_goals exact setLine_places b _

/-! ### Requests that move no record and no watch -/

theorem queryRequest_places (p : PortIx) (body : List Byte) : (s.queryRequest p body).1.places = s.places := by
  obtain h | h | ⟨b, h⟩ | ⟨n, h⟩ := s.queryRequest_cases p body <;> rw [h]
  · rfl
  · exact countBus_places b _
  · rfl

theorem ownedGroup_some {p : PortIx} {id : Byte} {i : Fin 8} {g : GroupEntry} (h : s.ownedGroup p id = .ok (i, g)) :
    s.group i = some g ∧ g.owner = p := by
  unfold ownedGroup at h
  split at h
  · cases h
  next found =>
    split at h
    · cases h
    next owner =>
      cases h
      exact ⟨(findGroup_some found).1, not_not.mp owner⟩

theorem ownedWatch_some {p : PortIx} {id : Byte} {i : Fin 12} {w : Watch} (h : s.ownedWatch p id = .ok (i, w)) :
    s.watch i = some w := by
  unfold ownedWatch at h
  split at h
  · cases h
  next found =>
    split at h
    · cases h
    · cases h
      exact (findWatch_some found).1

theorem groupArmRequest_places (p : PortIx) (body : List Byte) : (s.groupArmRequest p body).1.places = s.places := by
  unfold groupArmRequest
  split
  · rfl
  split
  · rfl
  next id _ i g h =>
    split
    · rfl
    · exact putGroup_places_same (ownedGroup_some h).1 rfl rfl

theorem groupBindRequest_places (p : PortIx) (body : List Byte) : (s.groupBindRequest p body).1.places = s.places := by
  have bind {i : Fin 8} {g : GroupEntry} (h : s.group i = some g) (l : TriggerLine) (e : Byte) :
      (s.bindLine i g l e).1.places = s.places := by
    unfold bindLine
    repeat' split
    · rfl
    · rfl
    · exact putGroup_places_same h rfl rfl
  unfold groupBindRequest
  split
  · rfl
  split
  · rfl
  next h =>
    obtain ⟨live, -⟩ := ownedGroup_some h
    repeat' split
    · exact putGroup_places_same live rfl rfl
    · exact bind live ..
    · exact bind live ..
    · rfl

theorem watchResumeRequest_places (p : PortIx) (body : List Byte) : (s.watchResumeRequest p body).1.places = s.places := by
  unfold watchResumeRequest
  split
  · rfl
  split
  · rfl
  next h =>
    split
    · rfl
    · exact putWatch_places_same (ownedWatch_some h) rfl rfl

/-- A watch loses its reports, and stays as the laws see it (R126). -/
theorem discardWatchReports_places {i : Fin 12} {w : Watch} (h : s.watch i = some w) :
    (s.discardWatchReports i w).places = s.places := by
  have put : (s.putWatch i { w with valueReport := none, suspensionReport := none, suspensionFirst := false }).places =
      s.places := putWatch_places_same h rfl rfl
  unfold discardWatchReports
  dsimp only
  split
  · exact put
  · exact (dropSource_places (src := .watch i) _ nofun).trans put

theorem offerWatch_places (i : Fin 12) : (s.offerWatch i).places = s.places := by
  unfold offerWatch
  repeat' split
  next => rfl
  next => rfl
  next => exact offer_places _ nofun
  next => rfl

end State

end Sys2Proof.Machine
end

section
/-! PROOF. How records come to their ends and leave them: finishes, retries, CANCEL, deadlines, and the outcomes of attempts
(chapter 1, R70, R122); and what they keep of the laws. -/

namespace Sys2Proof.Machine

/-- From `s` to `t` the laws of the records, and of their places, are kept. -/
def State.KeepsPlaces (s t : State) : Prop := ∀ strict : Prop, s.places.Lawful strict → t.places.Lawful strict

namespace State.KeepsPlaces

variable {s t u : State}

theorem of_eq (h : t.places = s.places) : s.KeepsPlaces t := fun _ hs => h ▸ hs

theorem rfl : s.KeepsPlaces s := fun _ => id

theorem trans (h : s.KeepsPlaces t) (k : t.KeepsPlaces u) : s.KeepsPlaces u := fun strict hs => k strict (h strict hs)

/-- A move that keeps the laws, after one that leaves the places as they are. -/
theorem after (k : t.KeepsPlaces u) (h : t.places = s.places) : s.KeepsPlaces u := (of_eq h).trans k

theorem foldl {α : Type} {f : State → α → State} (h : ∀ (s : State) (x : α), s.KeepsPlaces (f s x)) (l : List α) (s : State) :
    s.KeepsPlaces (l.foldl f s) := by
  induction l generalizing s with
  | nil => exact rfl
  | cons x l ih => exact (h s x).trans (ih _)

end State.KeepsPlaces

/-! ### The end of a record -/

section record

variable {strict : Prop} {P : Places} {v v' u : RecordPlace} {i : Fin 64}

/-- A record that is out of its place ends. -/
theorem Places.Lawful.finish (h : P.Lawful strict) (loose : u.Loose) (entry : u.entry = (P.record i).entry)
    (rests : ∀ k ∈ u.entry, k.state ≠ .active) (ends : u.Ends v') : (P.setRecord i v').Lawful strict := by
  refine h.setRecord (ends.ok loose) fun hs => (h.windows hs).setRecord fun k' hk' => ?_
  obtain ⟨k, hk, owner⟩ := ends.owner k' hk'
  exact ⟨k, entry ▸ hk, owner, fun _ active => absurd active (rests k hk)⟩

/-- A record that is out of its place leaves its slot. -/
theorem Places.Lawful.free (h : P.Lawful strict) (loose : u.Loose) :
    (P.setRecord i { u with entry := none }).Lawful strict :=
  h.setRecord loose.freed fun hs => (h.windows hs).setRecord nofun

/-- A record that was to be queued again and ends instead. -/
theorem RecordPlace.Ends.of_requeued {k : RecordKey}
    (h : ({ v with entry := some { k with state := .queued } } : RecordPlace).Ends v') (hk : v.entry = some k) :
    v.Ends v' := by
  cases h with
  | absent h => cases h
  | freed => exact .freed
  | waits k' h =>
    obtain rfl := Option.some.inj h
    exact .waits k hk

theorem RecordPlace.Ends.running (h : v.Ends v') (b : BusIx) (x : Bool) : (v.running b x).Ends (v'.running b x) := by
  cases h with
  | absent h => exact .absent h
  | freed => exact .freed
  | waits k h => exact .waits k h

/-- `v.Outcome v'`: an attempt of the record of place `v` has ended, and the record ends with it, or goes back to its queue. -/
inductive RecordPlace.Outcome (v : RecordPlace) : RecordPlace → Prop
  | ends {v' : RecordPlace} (h : v.Ends v') : v.Outcome v'
  | retried (k : RecordKey) (h : v.entry = some k) (again : k.attempts ≤ k.budget) :
      v.Outcome (({ v with entry := some { k with state := .queued } } : RecordPlace).enqueued k.bus)

theorem RecordPlace.Outcome.running (h : v.Outcome v') (b : BusIx) (x : Bool) :
    (v.running b x).Outcome (v'.running b x) := by
  cases h with
  | ends h => exact .ends (h.running b x)
  | retried k h again => exact .retried k h again

theorem RecordPlace.Outcome.ok (h : v.Outcome v') (loose : v.Loose) (active : ∀ k ∈ v.entry, k.state = .active) :
    v'.Ok strict := by
  cases h with
  | ends h => exact h.ok loose
  | retried k h again =>
    obtain ⟨segments, budget, attempts, result, -⟩ := loose.lawful k h
    have open_ : ¬k.hasResult = true := fun hr => absurd ((active k h).symm.trans (result.mp hr)) nofun
    exact loose.enqueued (k := { k with state := .queued })
      ⟨segments, budget, attempts, iff_of_false open_ nofun, fun _ => again⟩ rfl

theorem RecordPlace.Outcome.owner (h : v.Outcome v') : ∀ k' ∈ v'.entry, ∃ k ∈ v.entry, k.owner = k'.owner := by
  cases h with
  | ends h => exact h.owner
  | retried k h again =>
    intro k' hk'
    obtain rfl := Option.mem_some.mp hk'
    exact ⟨k, h, rfl⟩

end record

namespace State

variable {s : State}

theorem places_entry {i : Fin 64} {r : Record} (h : s.record i = some r) : (s.places.record i).entry = some r.key := by
  change (s.record i).map Record.key = _
  rw [h]
  rfl

theorem places_entry_none {i : Fin 64} (h : s.record i = none) : (s.places.record i).entry = none := by
  change (s.record i).map Record.key = _
  rw [h]
  rfl

/-- A record's report is admitted, which frees its slot, or waits in the admission list (R154, R155). -/
theorem offer_record_places {p : PortIx} {i : Fin 64} (report : s.reportOf p (.record i) ≠ none) :
    (s.offer p (.record i)).places = s.places.setRecord i { s.places.record i with entry := none } ∨
      (s.offer p (.record i)).places = s.places.setRecord i
        { s.places.record i with listed := Function.update (s.places.record i).listed p true } := by
  unfold offer
  split
  next listed =>
    refine .inr ((s.places.setRecord_record i).symm.trans (congrArg (s.places.setRecord i) ?_))
    exact RecordPlace.ext rfl rfl rfl rfl (Function.update_eq_self_iff.mpr (decide_eq_true listed).symm).symm
  next =>
    split
    next =>
      obtain ⟨none_, -⟩ | ⟨x, -, h⟩ := s.admitOne_cases p (.record i)
      · exact absurd none_ report
      · rw [h, releaseSource, freeRecord_places, push_places]
        exact .inl rfl
    next =>
      refine .inr (places_list p _ rfl rfl (decide_eq_true (List.mem_append_right _ (List.mem_singleton_self _))) fun j hj => ?_)
      rw [List.mem_append, List.mem_singleton]
      exact or_iff_left fun e => hj (Source.record.inj e)

/-- A record that ends is admitted at once or waits in its owner's admission list (R15, R21). -/
theorem finishRecord_ends (s : State) (i : Fin 64) (status : Status) (failing : Option Nat) (bytes : Nat) (data : List Byte) :
    ∃ v, (s.places.record i).Ends v ∧ (s.finishRecord i status failing bytes data).places = s.places.setRecord i v := by
  unfold finishRecord
  split
  next hr => exact ⟨_, .absent (places_entry_none hr), (s.places.setRecord_record i).symm⟩
  next r hr =>
    generalize hr' : ({ r with
      state := .done
      notBefore := none
      spacingOver := false
      result := some { status := status, failing := failing, bytesCompleted := bytes, completionTime := s.clock,
                       readData := data } } : Record) = r'
    have put : (s.putRecord i r').places = s.places.setRecord i { s.places.record i with entry := some r.key.finished } := by
      rw [putRecord_places, ← hr']
      rfl
    have report : (s.putRecord i r').reportOf r.owner (.record i) ≠ none := by
      rw [reportOf, putRecord_record, if_pos rfl, Option.bind_some, ← hr']
      exact nofun
    obtain h | h := offer_record_places report
    · exact ⟨_, .freed, by rw [h, put, Places.setRecord_setRecord, Places.setRecord_self]⟩
    · exact ⟨_, .waits r.key (places_entry hr), by rw [h, put, Places.setRecord_setRecord, Places.setRecord_self]; rfl⟩

/-- A record that has been taken out of its place ends. -/
theorem finish_keepsPlaces {t : State} {i : Fin 64} {u : RecordPlace} (ht : t.places = s.places.setRecord i u)
    (loose : ∀ strict : Prop, s.places.Lawful strict → u.Loose) (entry : u.entry = (s.places.record i).entry)
    (rests : ∀ k ∈ u.entry, k.state ≠ .active) (status : Status) : s.KeepsPlaces (t.finishWithoutAttempt i status) := by
  intro strict h
  obtain ⟨v, ends, hv⟩ := t.finishRecord_ends i status none 0 []
  rw [ht, Places.setRecord_setRecord] at hv
  rw [ht, Places.setRecord_self] at ends
  rw [finishWithoutAttempt, hv]
  exact h.finish (loose strict h) entry rests ends

/-- A QUEUED record leaves its queue and ends (R17, R18). -/
theorem dequeue_finish_keepsPlaces {i : Fin 64} {r : Record} (hr : s.record i = some r) (queued : r.state = .queued)
    (status : Status) : s.KeepsPlaces ((s.dequeueRecord r.bus i).finishWithoutAttempt i status) := by
  have entry := places_entry hr
  refine finish_keepsPlaces (dequeueRecord_places r.bus i) (fun _ h => (h.record i).dequeued (k := r.key) entry queued) rfl
    ?_ status
  intro k hk active
  obtain rfl := Option.mem_unique hk entry
  exact absurd (queued.symm.trans active) nofun

/-- A STAGED record leaves its staged list and ends (R18, R106). -/
theorem unstage_finish_keepsPlaces {i : Fin 64} {r : Record} (hr : s.record i = some r) (staged : r.state = .staged)
    (status : Status) : s.KeepsPlaces ((s.unstage i).finishWithoutAttempt i status) := by
  have entry := places_entry hr
  refine finish_keepsPlaces (unstage_places i) (fun _ h => (h.record i).unstaged (k := r.key) entry staged) rfl ?_ status
  intro k hk active
  obtain rfl := Option.mem_unique hk entry
  exact absurd (staged.symm.trans active) nofun

theorem cancelRequest_keepsPlaces (p : PortIx) (body : List Byte) : s.KeepsPlaces (s.cancelRequest p body).1 := by
  unfold cancelRequest
  split
  · exact .rfl
  split
  · exact .rfl
  next found =>
    obtain ⟨hr, -⟩ := findRecord_some found
    split
    · exact .rfl
    split
    next h => exact unstage_finish_keepsPlaces hr h _
    next h => exact dequeue_finish_keepsPlaces hr h _
    next => exact .of_eq (abortRecord_places _)
    next => exact .rfl

theorem deadlineReached_keepsPlaces (i : Fin 64) : s.KeepsPlaces (s.deadlineReached i) := by
  unfold deadlineReached
  split
  · exact .rfl
  next r hr =>
    split
    next h => exact dequeue_finish_keepsPlaces hr h.1 _
    next => exact .rfl

/-! ### The outcome of an attempt (R14, R19, R75 to R77) -/

theorem finishAttempted_outcome (i : Fin 64) (b : BusIx) (a : Attempt) (status : Status) :
    ∃ v, (s.places.record i).Outcome v ∧ (s.finishAttempted i b a status).places = s.places.setRecord i v := by
  have counted : (if status = .ok then s else s.countBus b fun c => { c with failedFinal := satInc c.failedFinal }).places =
      s.places := by
    split
    · rfl
    · exact countBus_places b _
  unfold finishAttempted
  dsimp only
  rw [← counted]
  obtain ⟨v, ends, hv⟩ := finishRecord_ends _ i status (if status = .ok then none else some a.segIndex)
    (a.written + a.readBytes.length) a.readBytes
  exact ⟨v, .ends ends, hv⟩

theorem retryRecord_outcome {i : Fin 64} {r : Record} (hr : s.record i = some r) (again : r.attempts ≤ r.budget)
    (why : Status) :
    ∃ v, (s.places.record i).Outcome v ∧ (s.retryRecord i why).places = s.places.setRecord i v := by
  unfold retryRecord
  rw [hr]
  dsimp only
  generalize hr' : ({ r with
    state := .queued
    notBefore := some (addTime s.clock ((s.bus r.bus).config.spacing.setWidth 16))
    spacingOver := false
    lastRetry := some why
    cls := if r.cls = .bulk ∧ agedOut (s.bus r.bus).config.aging (r.entryTime.elim 0 fun t => ageOf s.clock t r.ageStopped)
      then .normal else r.cls } : Record) = r'
  have put : (s.putRecord i r').places =
      s.places.setRecord i { s.places.record i with entry := some { r.key with state := .queued } } := by
    rw [putRecord_places, ← hr']
    rfl
  split
  · obtain ⟨v, ends, hv⟩ := (s.putRecord i r').finishRecord_ends i .expired none 0 []
    rw [put, Places.setRecord_self] at ends
    rw [put, Places.setRecord_setRecord] at hv
    exact ⟨v, .ends (ends.of_requeued (places_entry hr)), hv⟩
  · refine ⟨_, .retried r.key (places_entry hr) again, ?_⟩
    rw [enqueue_record_places, put, Places.setRecord_setRecord, Places.setRecord_self]
    rfl

theorem recordOutcome_outcome {i : Fin 64} {r : Record} (hr : s.record i = some r) (opened : s.isOpen r.owner = true)
    (a : Attempt) (e : AttemptEnd) :
    ∃ v, (s.places.record i).Outcome v ∧ (s.recordOutcome i a e).places = s.places.setRecord i v := by
  have known : (!s.isOpen r.owner) = false := by rw [opened]; rfl
  unfold recordOutcome
  rw [hr]
  dsimp only
  rw [if_neg (by rw [known]; exact nofun)]
  cases e with
  | lost =>
    dsimp only
    repeat' split
    · exact finishAttempted_outcome ..
    · exact finishAttempted_outcome ..
    next again => exact retryRecord_outcome hr again _
    · exact finishAttempted_outcome ..
  | nackAddress =>
    dsimp only
    repeat' split
    · exact finishAttempted_outcome ..
    · exact finishAttempted_outcome ..
    next again => exact retryRecord_outcome hr again _
    · exact finishAttempted_outcome ..
  | _ => exact finishAttempted_outcome ..

theorem watchOutcome_places (s : State) (w : Fin 12) (a : Attempt) (e : AttemptEnd) : ∃ x,
    (s.watchOutcome w a e).places = s.places.setWatch w { s.places.watch w with entry := x } := by
  have put (t : State) (ht : t.places = s.places) (x : Watch) : ((t.putWatch w x).offerWatch w).places =
      s.places.setWatch w { s.places.watch w with entry := some (x.bus, x.read) } := by
    rw [offerWatch_places, putWatch_places, ht]
  unfold watchOutcome
  split
  next => exact ⟨_, (s.places.setWatch_watch w).symm⟩
  next x hx =>
    dsimp only
    split
    · exact ⟨_, freeWatch_places w⟩
    split
    · exact ⟨_, putWatch_places w _⟩
    · exact ⟨_, put s rfl _⟩
    · exact ⟨_, put _ (countBus_places x.bus _) _⟩

/-! ### The end of an attempt (R65 to R67, R70) -/

theorem activeCount_eq_zero {p : PortIx} (h : s.activeCount p = 0) {i : Fin 64} {r : Record} (hr : s.record i = some r)
    (owner : r.owner = p) : r.state ≠ .active := by
  intro active
  have none_ := List.filter_eq_nil_iff.mp (List.length_eq_zero_iff.mp h) s.records[i] (by simp)
  rw [show s.records[i].entry = some r from hr] at none_
  exact none_ (Bool.and_eq_true .. |>.mpr ⟨decide_eq_true owner, decide_eq_true active⟩)

theorem modSession_places_session (p : PortIx) (f : Session → Session)
    (listed : (f (s.session p)).admission = (s.session p).admission) : (s.modSession p f).places =
      s.places.setSession p ((f (s.session p)).state, (f (s.session p)).window) := by
  refine Places.ext (funext fun i => RecordPlace.ext rfl rfl rfl rfl (funext fun q => ?_)) rfl (funext fun q => ?_)
  · change decide (Source.record i ∈ ((s.modSession p f).session q).admission) = decide _
    rw [modSession_session]
    split
    next h => rw [listed, h]
    next => rfl
  · change (((s.modSession p f).session q).state, ((s.modSession p f).session q).window) =
      Function.update s.places.session p _ q
    rw [modSession_session]
    by_cases hq : q = p
    · rw [if_pos hq, hq, Function.update_self]
    · rw [if_neg hq, Function.update_of_ne hq]
      rfl

/-- A CLOSING session without ACTIVE records is CLOSED (R149). -/
theorem closeIfDone_places (s : State) (p : PortIx) : (s.closeIfDone p).places = s.places ∨
    (s.places.session p).1 = .closing ∧ s.activeCount p = 0 ∧
      (s.closeIfDone p).places = s.places.setSession p (.closed, (s.places.session p).2) := by
  unfold closeIfDone
  split
  next h => exact .inr ⟨h.1, h.2, modSession_places_session p _ rfl⟩
  next => exact .inl rfl

end State

theorem Places.uses_eq_zero {P : Places} {p : PortIx} (h : ∀ i, ∀ k ∈ (P.record i).entry, k.owner ≠ p) : P.uses p = 0 := by
  rw [Places.uses, Finset.card_eq_zero, Finset.filter_eq_empty_iff]
  intro i _ hi
  obtain ⟨k, hk, owner⟩ := Option.any_eq_true .. |>.mp hi
  exact h i k hk (of_decide_eq_true owner)

theorem Places.Lawful.close {strict : Prop} {P : Places} {p : PortIx} (h : P.Lawful strict)
    (closing : (P.session p).1 = .closing) (idle : ∀ i, ∀ k ∈ (P.record i).entry, k.owner = p → k.state ≠ .active) :
    (P.setSession p (.closed, (P.session p).2)).Lawful strict := by
  have free (hs : strict) (i : Fin 64) (k : RecordKey) (hk : k ∈ (P.record i).entry) : k.owner ≠ p := fun owner =>
    idle i k hk owner ((h.windows hs p).2.1 (closing ▸ nofun) i k hk owner)
  exact h.setSession (fun hs => (h.windows hs p).1) (fun hs _ i k hk owner => absurd owner (free hs i k hk))
    fun hs _ => Places.uses_eq_zero (free hs)

namespace State

variable {s : State}

/-- The outcome of an attempt reaches its record, and the engine leaves the attempt. -/
theorem recordEnds_keepsPlaces {strict : Prop} (h : s.places.Lawful strict) {b : BusIx} {i : Fin 64}
    (runs : (s.bus b).engine.item = some (.record i)) (a : Attempt) (e : AttemptEnd) :
    ((s.recordOutcome i a e).places.setRuns b none).Lawful strict := by
  have here : s.places.setRuns b (some (.record i)) = s.places := runs ▸ s.setRuns_bus b
  have off := h.disengage here
  have loose := off.looseRecords i rfl
  obtain ⟨k, hk, active, -⟩ := (h.record i).runs b (decide_eq_true runs)
  obtain ⟨r, hr, rfl⟩ := Option.map_eq_some_iff.mp hk
  by_cases opened : s.isOpen r.owner = true
  · obtain ⟨v, outcome, hv⟩ := recordOutcome_outcome hr opened a e
    rw [hv, Places.setRuns_setRecord]
    refine off.put ((outcome.running b _).ok loose fun k' hk' => ?_) fun hs => (off.windows hs).setRecord fun k' hk' => ?_
    · exact Option.mem_unique hk hk' ▸ active
    · obtain ⟨k, hk', owner⟩ := outcome.owner k' hk'
      obtain rfl := Option.mem_unique hk hk'
      exact ⟨_, hk', owner, fun shut => absurd (of_decide_eq_true opened) shut⟩
  · have freed : ((s.freeRecord i).places.setRuns b none).Lawful strict := by
      rw [freeRecord_places, Places.setRuns_setRecord]
      exact off.put loose.freed fun hs => (off.windows hs).setRecord nofun
    rw [recordOutcome_silent hr fun e => opened (decide_eq_true e)]
    obtain same | ⟨closing, idle, hc⟩ := (s.freeRecord i).closeIfDone_places r.owner
    · rw [same]
      exact freed
    · rw [hc]
      refine freed.close closing fun j k hk owner => ?_
      obtain ⟨x, hx, rfl⟩ := Option.map_eq_some_iff.mp hk
      exact activeCount_eq_zero idle hx owner

/-- The outcome of an attempt reaches its watch, and the engine leaves the attempt. -/
theorem watchEnds_keepsPlaces {strict : Prop} (h : s.places.Lawful strict) {b : BusIx} {w : Fin 12}
    (runs : (s.bus b).engine.item = some (.watch w)) (a : Attempt) (e : AttemptEnd) :
    ((s.watchOutcome w a e).places.setRuns b none).Lawful strict := by
  have here : s.places.setRuns b (some (.watch w)) = s.places := runs ▸ s.setRuns_bus b
  have off := h.disengage here
  obtain ⟨x, hx⟩ := s.watchOutcome_places w a e
  rw [hx, Places.setRuns_setWatch]
  exact off.putWatch fun hs => (off.looseWatches hs w rfl).ok x

/-- An attempt ends: its outcome reaches its item's owner, and the engine goes on without it. -/
theorem attemptEnds_keepsPlaces {b : BusIx} {a : Attempt} (runs : (s.bus b).engine.item = some a.item) (e : AttemptEnd)
    {next : State → State} (hnext : ∀ t : State, (next t).places = t.places.setRuns b none) :
    s.KeepsPlaces ((s.handOver a e).leaveAttempt b next) := by
  intro strict h
  rw [leaveAttempt_places (hnext _)]
  unfold handOver
  split
  next i item => exact recordEnds_keepsPlaces h (item ▸ runs) a e
  next w item => exact watchEnds_keepsPlaces h (item ▸ runs) a e

end State

end Sys2Proof.Machine
end

section
/-! PROOF. Bus events, queues and watches: what ends an attempt and what begins one, aging, watch periods; and what they keep
of the laws of places (chapters 2 to 4 and 7). -/

namespace Sys2Proof.Machine

namespace State

variable {s : State}

/-! ### The ends of attempts -/

/-- Between the report of a bus event and the end of the attempt only counters and the monitor move. -/
theorem attemptEnds_after {t : State} {b : BusIx} {a : Attempt} (places : t.places = s.places)
    (runs : (t.bus b).engine.item = some a.item) (e : AttemptEnd) {next : State → State}
    (hnext : ∀ t : State, (next t).places = t.places.setRuns b none) :
    s.KeepsPlaces ((t.handOver a e).leaveAttempt b next) := (attemptEnds_keepsPlaces runs e hnext).after places

theorem countBus_item (b : BusIx) (f : BusCounters → BusCounters) :
    ((s.countBus b f).bus b).engine.item = (s.bus b).engine.item := by simp

section ends

variable {b : BusIx} {a : Attempt} (runs : (s.bus b).engine.item = some a.item)
include runs

theorem lose_keepsPlaces (e : AttemptEnd) (inAddress : Bool) : s.KeepsPlaces (s.lose b a e inAddress) := by
  refine attemptEnds_after (countBus_places b _) ((countBus_item b _).trans runs) e fun t => ?_
  split
  · exact enterTail_places b false
  · exact enterIdle_places b

theorem busError_keepsPlaces : s.KeepsPlaces (s.busError b a) :=
  attemptEnds_after (countBus_places b _) ((countBus_item b _).trans runs) _ fun _ => enterIdle_places b

theorem stretchEnd_keepsPlaces (atEntry : Option Bool) : s.KeepsPlaces (s.stretchEnd b a atEntry) :=
  attemptEnds_after (countBus_places b _) ((countBus_item b _).trans runs) _ fun _ => enterRecovery_places b false atEntry

theorem endAtStop_keepsPlaces (why : StopCause) : s.KeepsPlaces (s.endAtStop b a why) := by
  have counted : (s.countCompleted b why).places = s.places ∧
      ((s.countCompleted b why).bus b).engine.item = some a.item := by
    unfold countCompleted
    split
    · exact ⟨countBus_places b _, (countBus_item b _).trans runs⟩
    · exact ⟨rfl, runs⟩
  refine attemptEnds_after counted.1 counted.2 _ fun t => ?_
  split
  · exact (enterIdle_places b).trans (congrArg (Places.setRuns · b none) (setLine_places b _))
  · exact enterIdle_places b

end ends

variable {b : BusIx}

theorem setLine_item (b : BusIx) (l : LineState) : ((s.setLine b l).bus b).engine.item = (s.bus b).engine.item := by
  simp [setLine]

theorem setFollowing_item (b : BusIx) (x : Bool) : ((s.setFollowing b x).bus b).engine.item = (s.bus b).engine.item := by
  simp [setFollowing]

theorem startInAttempt_keepsPlaces {a0 : Attempt} (runs : (s.bus b).engine.item = some a0.item) (place : Place) :
    s.KeepsPlaces (s.startInAttempt b a0 place) := by
  have met : (((s.setLine b .busy).setFollowing b true).bus b).engine.item = some (a0.metAt place).item := by
    rw [setFollowing_item, setLine_item, runs, a0.metAt_item]
  have heard : ((s.setLine b .busy).setFollowing b true).places = s.places :=
    (setFollowing_places b true).trans (setLine_places b .busy)
  unfold startInAttempt
  dsimp only
  split
  · exact (lose_keepsPlaces met _ _).after heard
  · exact (lose_keepsPlaces met _ _).after heard
  · exact .rfl
  · exact .rfl
  · split
    · exact (lose_keepsPlaces met _ _).after heard
    · exact (busError_keepsPlaces met).after heard
    · exact .rfl

theorem stopInAttempt_keepsPlaces {a0 : Attempt} (runs : (s.bus b).engine.item = some a0.item) (place : Place) :
    s.KeepsPlaces (s.stopInAttempt b a0 place) := by
  have met : ((s.setLine b .free).bus b).engine.item = some (a0.metAt place).item := by
    rw [setLine_item, runs, a0.metAt_item]
  have heard : (s.setLine b .free).places = s.places := setLine_places b .free
  unfold stopInAttempt
  dsimp only
  split
  · exact (endAtStop_keepsPlaces met _).after heard
  · exact (lose_keepsPlaces met _ _).after heard
  · exact .rfl
  · exact .rfl
  · split
    · exact (lose_keepsPlaces met _ _).after heard
    · exact (busError_keepsPlaces met).after heard
    · exact .rfl

theorem startSeen_keepsPlaces (b : BusIx) (maker : Maker) (place : Place) : s.KeepsPlaces (s.startSeen b maker place) := by
  have heard : ((s.setLine b .busy).setFollowing b true).places = s.places :=
    (setFollowing_places b true).trans (setLine_places b .busy)
  unfold startSeen
  split
  next => exact .rfl
  next h =>
    split
    · refine .of_eq ((setEngine_places b _).trans ?_)
      rw [setLine_places]
      exact (congrArg (s.places.setRuns b) (item_of_active h).symm).trans (s.setRuns_bus b)
    · exact .rfl
  next => exact .rfl
  next h => exact startInAttempt_keepsPlaces (item_of_active h) place
  next h =>
    refine .of_eq ((enterIdle_places b).trans ?_)
    rw [heard]
    exact s.setRuns_none (by rw [h]; rfl)
  next => exact .of_eq heard
  next => exact .of_eq heard
  next => exact .of_eq ((abandonWait_places b).trans heard)
  next =>
    split
    · exact .rfl
    · exact .of_eq ((startInTarget_places b place).trans (setLine_places b .busy))
  next r h =>
    refine .of_eq ((recoveryEnds_places b r).trans ?_)
    rw [heard]
    exact s.setRuns_none (by rw [h]; rfl)

theorem stopSeen_keepsPlaces (b : BusIx) (place : Place) : s.KeepsPlaces (s.stopSeen b place) := by
  have heard : (s.setLine b .free).places = s.places := setLine_places b .free
  unfold stopSeen
  split
  next => exact .rfl
  next h => exact stopInAttempt_keepsPlaces (item_of_active h) place
  next h =>
    refine .of_eq ((enterIdle_places b).trans ?_)
    rw [heard]
    exact s.setRuns_none (by rw [h]; rfl)
  next => exact .of_eq ((setFollowing_places b false).trans heard)
  next => exact .of_eq ((setFollowing_places b false).trans heard)
  next => exact .of_eq ((reportFree_places b).trans ((setFollowing_places b false).trans heard))
  next h =>
    split
    · exact .rfl
    · refine .of_eq ((setFollowing_places b false).trans ((stopInTarget_places b place ?_).trans heard))
      rw [setLine_item, h]
      rfl
  next r h =>
    refine .of_eq ((recoveryEnds_places b r).trans ?_)
    rw [heard]
    exact s.setRuns_none (by rw [h]; rfl)

theorem stuckReport_keepsPlaces (b : BusIx) (atEntry : Option Bool) : s.KeepsPlaces (s.stuckReport b atEntry) := by
  have recovers {t : State} (ht : t.places = s.places) (h : (s.bus b).engine.item = none) :
      s.KeepsPlaces (t.enterRecovery b false atEntry) := by
    refine .of_eq ((enterRecovery_places b false atEntry).trans ?_)
    rw [ht]
    exact s.setRuns_none h
  unfold stuckReport
  split
  next h => exact recovers rfl (by rw [h]; rfl)
  next h => exact recovers rfl (by rw [h]; rfl)
  next h => exact recovers rfl (by rw [h]; rfl)
  next h => exact stretchEnd_keepsPlaces (item_of_active h) atEntry
  next h => exact recovers (cutOff_places b) (by rw [h]; rfl)
  all_goals exact .rfl

theorem stuckSeen_keepsPlaces (b : BusIx) (atEntry : Option Bool) : s.KeepsPlaces (s.stuckSeen b atEntry) := by
  have report : s.KeepsPlaces ((s.setLine b .stuck).stuckReport b atEntry) :=
    (stuckReport_keepsPlaces b atEntry).after (setLine_places b .stuck)
  unfold stuckSeen
  split
  · exact report
  · exact report
  all_goals exact .rfl

theorem stretched_keepsPlaces (b : BusIx) : s.KeepsPlaces (s.stretched b) := by
  unfold stretched
  split
  next h => exact stretchEnd_keepsPlaces (item_of_active h) none
  next => exact .rfl

theorem arbitrationLost_keepsPlaces (b : BusIx) (bit : LossBit) : s.KeepsPlaces (s.arbitrationLost b bit) := by
  unfold arbitrationLost
  split
  next h =>
    split
    next => exact .rfl
    next met =>
      exact lose_keepsPlaces ((item_of_active h).trans (congrArg some (Attempt.lossMet_item met).symm)) _ _
  next => exact .rfl

theorem lostInCondition_keepsPlaces (b : BusIx) (x : Bool) : s.KeepsPlaces (s.lostInCondition b x) := by
  unfold lostInCondition
  split
  next h =>
    have met (place : Place) := (item_of_active h).trans (congrArg some (Attempt.metAt_item _ place).symm)
    dsimp only
    split
    · exact lose_keepsPlaces (met _) _ _
    · exact lose_keepsPlaces (met _) _ _
    · exact .rfl
  next => exact .rfl

/-! ### Selection (R14, R40, R61, R121) -/

theorem startAttempt_places (b : BusIx) (it : Item) (segments : List Segment) :
    (s.startAttempt b it segments).places = s.places.setRuns b (some it) := modBus_places_runs b _ rfl

theorem select_record_keepsPlaces {i : Fin 64} (idle : (s.bus b).engine.item = none)
    (queued : QItem.record i ∈ (s.bus b).queue) : s.KeepsPlaces (s.select b (.record i)) := by
  intro strict h
  obtain ⟨k, hk, state, rfl⟩ := (h.record i).queued b (copies_record_ne_zero.mpr queued)
  obtain ⟨r, hr, rfl⟩ := Option.map_eq_some_iff.mp hk
  have out := (h.record i).dequeued hk state
  obtain ⟨segments, budget, -, result, attempts⟩ := out.lawful _ hk
  unfold select
  dsimp only
  rw [hr]
  dsimp only
  generalize hr' : ({ r with state := .active, notBefore := none, spacingOver := false, attempts := r.attempts + 1 } :
    Record) = r'
  have active : r'.key.state = .active := by rw [← hr']; rfl
  have lawful : r'.key.lawful := by
    rw [← hr']
    exact ⟨segments, budget, Nat.succ_le_succ (attempts (.inr state)),
      iff_of_false (fun hx => absurd (state.symm.trans (result.mp hx)) nofun) nofun, fun hx => hx.elim nofun nofun⟩
  have bus : r'.key.bus = r.key.bus := by rw [← hr']; rfl
  have owner : r.key.owner = r'.key.owner := by rw [← hr']; rfl
  have loose : ({ (s.places.record i).dequeued r.key.bus with entry := some r'.key } : RecordPlace).Loose :=
    ⟨fun k hk => Option.mem_some.mp hk ▸ lawful, out.queued, out.runs, out.staged⟩
  have taken := h.take loose fun hs => (h.windows hs).setRecord fun k' hk' =>
    ⟨r.key, hk, owner.trans (congrArg RecordKey.owner (Option.mem_some.mp hk')), fun _ _ => Option.mem_some.mp hk' ▸ active⟩
  rw [startAttempt_places, putRecord_places, dequeueRecord_places, Places.setRecord_setRecord, Places.setRecord_self]
  refine taken.engage ?_ (fun j hj => ?_) nofun
  · rw [Places.setRuns_setRecord, s.setRuns_none idle]
    refine congrArg (s.places.setRecord i) (RecordPlace.ext rfl rfl (Function.update_eq_self_iff.mpr ?_) rfl rfl)
    exact (out.runs r.key.bus).symm
  · obtain rfl := Item.record.inj hj
    rw [Places.setRecord_self]
    have engaged := loose.engaged (strict := strict) rfl active
    rwa [bus] at engaged

theorem select_watch_keepsPlaces {w : Fin 12} {c : Cls} {t : Clock} {z : Bool} (idle : (s.bus b).engine.item = none)
    (queued : QItem.watchRead w c t z ∈ (s.bus b).queue) : s.KeepsPlaces (s.select b (.watchRead w c t z)) := by
  intro strict h
  unfold select
  dsimp only
  split
  · exact h
  next x hx =>
    have entry (hs : strict) : (s.places.watch w).entry = some (b, .queued) :=
      (h.watch hs w).queued b (copies_watch_ne_zero.mpr ⟨c, t, z, queued⟩)
    have bus (hs : strict) : x.bus = b := by
      obtain ⟨y, hy, rfl, -⟩ := watch_entry.mp (entry hs)
      exact congrArg Watch.bus (Option.mem_unique hx hy)
    have out (hs : strict) : ((s.places.watch w).dequeued b).Loose := (h.watch hs w).dequeued (entry hs) nofun
    have taken := h.takeWatch (w := w) (v := { (s.places.watch w).dequeued b with entry := some (x.bus, .active) })
      fun hs => ⟨(out hs).queued, (out hs).runs⟩
    rw [startAttempt_places, putWatch_places, dequeueWatch_places, Places.setWatch_setWatch, Places.setWatch_self]
    refine taken.engage ?_ nofun fun hs v hv => ?_
    · rw [Places.setRuns_setWatch, s.setRuns_none idle]
      refine congrArg (s.places.setWatch w) (WatchPlace.ext rfl rfl (Function.update_eq_self_iff.mpr ?_))
      change decide (none = some (Item.watch w)) = decide ((s.bus b).engine.item = some (.watch w))
      rw [idle]
    · obtain rfl := Item.watch.inj hv
      rw [Places.setWatch_self]
      exact WatchPlace.Loose.engaged ⟨(out hs).queued, (out hs).runs⟩ (congrArg (fun y => some (y, ReadField.active)) (bus hs))

theorem waitEnd_keepsPlaces (b : BusIx) : s.KeepsPlaces (s.waitEnd b) := by
  unfold waitEnd
  split
  next h =>
    have idle : (s.bus b).engine.item = none := by rw [h]; rfl
    split
    next => exact .of_eq (setEngine_places_same idle.symm)
    next it found =>
      have queued := List.mem_of_find?_eq_some found
      cases it with
      | record i => exact select_record_keepsPlaces idle queued
      | watchRead w c t z => exact select_watch_keepsPlaces idle queued
  next => exact .rfl

end State

end Sys2Proof.Machine
end

section
/-! PROOF. Aging, watch periods and the requests about watches, and what they keep of the laws of places (R32, R33, R118 to
R127). -/

namespace Sys2Proof.Machine

/-- An item as it stands in the queue once promoted (R32). -/
def QItem.promoted : QItem → QItem
  | .record i => .record i
  | .watchRead w _ t z => .watchRead w .normal t z

theorem QItem.promoted_item (x : QItem) : x.promoted.item = x.item := by cases x <;> rfl

/-- A record leaves its queue and joins it again. -/
theorem RecordPlace.Ok.requeued {strict : Prop} {v : RecordPlace} {b : BusIx} (h : v.Ok strict) (hb : v.queued b ≠ 0) :
    ((v.dequeued b).enqueued b).Ok strict := by
  have here : ((v.dequeued b).enqueued b).queued = Function.update v.queued b 1 := by
    change Function.update (Function.update v.queued b 0) b (Function.update v.queued b 0 b + 1) = _
    rw [Function.update_self, Function.update_idem]
  obtain ⟨lawful, queued, runs, staged, placed, onceQueued, onceStaged⟩ := h
  refine ⟨lawful, fun c hc => ?_, runs, staged, fun hs k hk => ?_, fun hs c => ?_, onceStaged⟩
  · by_cases hcb : c = b
    · exact queued c (hcb ▸ hb)
    · rw [here, Function.update_of_ne hcb] at hc
      exact queued c hc
  · obtain ⟨inList, inQueue, rest⟩ := placed hs k hk
    refine ⟨inList, fun hq => ?_, rest⟩
    rw [here]
    by_cases hcb : k.bus = b
    · rw [hcb, Function.update_self]
      exact one_ne_zero
    · rw [Function.update_of_ne hcb]
      exact inQueue hq
  · rw [here]
    by_cases hcb : c = b
    · rw [hcb, Function.update_self]
    · rw [Function.update_of_ne hcb]
      exact onceQueued hs c

namespace State

variable {s : State} {b : BusIx}

/-! ### Promotion (R32, R33) -/

/-- A queue that holds an item at most once holds one entry of it. -/
theorem eq_of_copies_le_one {it : Item} {x y : QItem} (once : s.copies b it ≤ 1) (hx : x ∈ (s.bus b).queue)
    (hy : y ∈ (s.bus b).queue) (ix : x.item = it) (iy : y.item = it) : x = y := by
  have short : ((s.bus b).queue.filter fun z => decide (z.item = it)).length ≤ 1 := by
    rw [copies, List.count_eq_countP, List.countP_map, List.countP_eq_length_filter] at once
    refine (congrArg List.length (List.filter_congr fun z _ => ?_)).le.trans once
    exact (Bool.beq_eq_decide_eq z.item it).symm
  have mx : x ∈ (s.bus b).queue.filter fun z => decide (z.item = it) := List.mem_filter.mpr ⟨hx, decide_eq_true ix⟩
  have my : y ∈ (s.bus b).queue.filter fun z => decide (z.item = it) := List.mem_filter.mpr ⟨hy, decide_eq_true iy⟩
  generalize (s.bus b).queue.filter _ = l at short mx my
  match l, short with
  | [z], _ => exact (List.mem_singleton.mp mx).trans (List.mem_singleton.mp my).symm

theorem isRecord_iff {x : QItem} {i : Fin 64} : x.isRecord i = true ↔ x = .record i := by
  cases x <;> simp [QItem.isRecord]

theorem promote_record_places (b : BusIx) (i : Fin 64) : (s.promote b (.record i)).places =
    s.places.setRecord i (((s.places.record i).dequeued b).enqueued b) := by
  have left : ((s.bus b).queue.filter fun x => decide (x ≠ .record i)) = (s.bus b).queue.filter fun x => !x.isRecord i :=
    List.filter_congr fun x _ => by rw [decide_not, ← Bool.decide_coe (x.isRecord i)]; simp only [isRecord_iff]
  have leaves : (s.setQueue b ((s.bus b).queue.filter fun x => decide (x ≠ .record i))).places =
      s.places.setRecord i ((s.places.record i).dequeued b) := by
    rw [left]
    exact dequeueRecord_places b i
  have renamed : ((s.setQueue b ((s.bus b).queue.filter fun x => decide (x ≠ .record i))).modRecord i fun r =>
      { r with cls := .normal }).places = s.places.setRecord i ((s.places.record i).dequeued b) := by
    refine .trans (modRecord_places_same i ?_) leaves
    exact fun _ => rfl
  unfold promote
  dsimp only
  rw [enqueue_record_places, renamed, Places.setRecord_setRecord, Places.setRecord_self]

/-- What stands in the queue after a promotion. -/
theorem mem_promote {x y : QItem} : y ∈ ((s.promote b x).bus b).queue ↔ y = x.promoted ∨ y ∈ (s.bus b).queue ∧ y ≠ x := by
  have rest (t : State) (z : QItem) (ht : (t.bus b).queue = (s.bus b).queue.filter fun y => decide (y ≠ x)) :
      y ∈ ((t.enqueue b z).bus b).queue ↔ y = z ∨ y ∈ (s.bus b).queue ∧ y ≠ x := by
    rw [enqueue, setQueue, modBus_bus_self, mem_insertItem, ht, List.mem_filter, decide_eq_true_iff]
  cases x with
  | record i => exact rest _ _ (by simp [setQueue])
  | watchRead w c t z => exact rest _ _ (by simp [setQueue])

theorem promote_copies_ne_zero {x : QItem} {it : Item} (h : s.copies b it ≠ 0) : (s.promote b x).copies b it ≠ 0 := by
  obtain ⟨y, hy, rfl⟩ := copies_ne_zero.mp h
  refine copies_ne_zero.mpr ?_
  by_cases same : y = x
  · exact ⟨x.promoted, mem_promote.mpr (.inl rfl), by rw [x.promoted_item, same]⟩
  · exact ⟨y, mem_promote.mpr (.inr ⟨hy, same⟩), rfl⟩

theorem promote_lawful {strict : Prop} (h : s.places.Lawful strict) {x : QItem} (here : s.copies b x.item ≠ 0)
    (stands : strict → x ∈ (s.bus b).queue) : (s.promote b x).places.Lawful strict := by
  cases x with
  | record i =>
    rw [promote_record_places]
    exact h.setRecord ((h.record i).requeued here) fun hs => (h.windows hs).setRecord fun k hk => ⟨k, hk, rfl, fun _ => id⟩
  | watchRead w c t z =>
    have others (it : Item) (hit : it ≠ .watch w) : (((s.bus b).queue.filter fun x =>
        decide (x ≠ .watchRead w c t z)).map QItem.item).count it = s.copies b it :=
      count_filter_item s b _ fun x _ hx => decide_eq_true fun e => hit (hx.symm.trans (congrArg QItem.item e))
    unfold promote
    dsimp only
    rw [enqueue_watch_places, setQueue_places_watch b rfl others, Places.setWatch_setWatch, Places.setWatch_self]
    refine h.setWatch fun hs => ?_
    have alone : (((s.bus b).queue.filter fun x => decide (x ≠ .watchRead w c t z)).map QItem.item).count (.watch w) = 0 := by
      rw [List.count_eq_zero]
      intro hm
      obtain ⟨y, hy, iy⟩ := List.mem_map.mp hm
      obtain ⟨hy, other⟩ := List.mem_filter.mp hy
      exact of_decide_eq_true other (eq_of_copies_le_one ((h.watch hs w).once b) hy (stands hs) iy rfl)
    refine ⟨fun c hc => ?_, (h.watch hs w).runs, fun c => ?_⟩
    · by_cases hcb : c = b
      · exact (h.watch hs w).queued c (hcb ▸ here)
      · exact (h.watch hs w).queued c fun e => hc (by simp [Function.update_of_ne hcb, e])
    · by_cases hcb : c = b
      · rw [hcb, alone]
        simp
      · simpa [Function.update_of_ne hcb] using (h.watch hs w).once c

theorem promoteAll_lawful {strict : Prop} (l : List QItem) (h : s.places.Lawful strict)
    (here : ∀ x ∈ l, s.copies b x.item ≠ 0) (once : strict → l.Nodup) (stands : strict → ∀ x ∈ l, x ∈ (s.bus b).queue) :
    (l.foldl (fun acc it => acc.promote b it) s).places.Lawful strict := by
  induction l generalizing s with
  | nil => exact h
  | cons x l ih =>
    refine ih (promote_lawful h (here x List.mem_cons_self) fun hs => stands hs x List.mem_cons_self)
      (fun y hy => promote_copies_ne_zero (here y (List.mem_cons_of_mem x hy))) (fun hs => (List.nodup_cons.mp (once hs)).2)
      fun hs y hy => mem_promote.mpr (.inr ⟨stands hs y (List.mem_cons_of_mem x hy), fun e => ?_⟩)
    exact (List.nodup_cons.mp (once hs)).1 (e ▸ hy)

/-- Under the law of places no item stands twice in a queue. -/
theorem lawful_nodup {strict : Prop} (h : s.places.Lawful strict) (hs : strict) (b : BusIx) :
    ((s.bus b).queue.map QItem.item).Nodup := by
  rw [List.nodup_iff_count_le_one]
  intro it
  cases it with
  | record i => exact (h.record i).onceQueued hs b
  | watch w => exact (h.watch hs w).once b

theorem promoteDue_keepsPlaces (b : BusIx) : s.KeepsPlaces (s.promoteDue b) := by
  intro strict h
  refine promoteAll_lawful _ h (fun x hx => copies_ne_zero.mpr ⟨x, (List.mem_filter.mp hx).1, rfl⟩) (fun hs => ?_)
    fun _ x hx => (List.mem_filter.mp hx).1
  exact ((lawful_nodup h hs b).of_map _).filter _

/-! ### Watches (R118 to R127) -/

theorem watchAddRequest_keepsPlaces (p : PortIx) (body : List Byte) : s.KeepsPlaces (s.watchAddRequest p body).1 := by
  unfold watchAddRequest
  split
  · exact .rfl
  unfold watchAddFields
  repeat' split
  next => exact .rfl
  next => exact .rfl
  next => exact .rfl
  next => exact .rfl
  next => exact .rfl
  next => exact .rfl
  next i free =>
    intro strict h
    rw [putWatch_places]
    refine h.setWatch fun hs => ((h.watch hs i).loose fun x hx => ?_).ok _
    have none_ : (s.places.watch i).entry = none := by
      change (s.watch i).map _ = none
      rw [show s.watch i = none from (lowestFree_some free).1]
      rfl
    rw [none_] at hx
    cases hx

/-- A live watch as the laws see it. -/
theorem places_watch {i : Fin 12} {w : Watch} (h : s.watch i = some w) : (s.places.watch i).entry = some (w.bus, w.read) := by
  change (s.watch i).map _ = _
  rw [h]
  rfl

theorem removeWatch_keepsPlaces {i : Fin 12} {w : Watch} (hw : s.watch i = some w) (owner : Option PortIx) :
    s.KeepsPlaces (s.removeWatch i w owner) := by
  unfold removeWatch
  split
  next =>
    refine .of_eq (.trans (modWatch_places_same i ?_) (discardWatchReports_places hw))
    exact fun _ => ⟨rfl, rfl⟩
  next idle =>
    intro strict h
    rw [freeWatch_places, dequeueWatch_places, discardWatchReports_places hw, Places.setWatch_setWatch, Places.setWatch_self]
    exact h.setWatch fun hs => ((h.watch hs i).dequeued (places_watch hw) idle).ok none

theorem watchRemoveRequest_keepsPlaces (p : PortIx) (body : List Byte) : s.KeepsPlaces (s.watchRemoveRequest p body).1 := by
  unfold watchRemoveRequest
  split
  · exact .rfl
  split
  · exact .rfl
  next h =>
    split
    · exact .rfl
    · exact removeWatch_keepsPlaces (ownedWatch_some h) _

theorem periodExpired_keepsPlaces (i : Fin 12) : s.KeepsPlaces (s.periodExpired i) := by
  unfold periodExpired
  split
  next => exact .rfl
  next w hw =>
    split
    next => exact .rfl
    next t _ =>
      split
      · exact .rfl
      dsimp only
      split
      · exact .of_eq (putWatch_places_same hw rfl rfl)
      split
      next => exact .of_eq (putWatch_places_same hw rfl rfl)
      next queued =>
        intro strict h
        rw [dequeueWatch_places, putWatch_places, Places.setWatch_setWatch, Places.setWatch_self]
        refine h.setWatch fun hs => ?_
        have entry := places_watch hw
        rw [queued] at entry
        exact ((h.watch hs i).dequeued entry nofun).ok _
      next none_ =>
        intro strict h
        rw [join, wake_places, enqueue_watch_places, putWatch_places, Places.setWatch_setWatch, Places.setWatch_self]
        refine h.setWatch fun hs => ((h.watch hs i).loose fun x hx => ?_).enqueued
        rw [places_watch hw] at hx
        rw [← Option.mem_some.mp hx]
        exact none_

theorem tearWatch_keepsPlaces (p : PortIx) (i : Fin 12) : s.KeepsPlaces (s.tearWatch p i) := by
  unfold tearWatch
  split
  next => exact .rfl
  next w hw =>
    split
    · exact removeWatch_keepsPlaces hw none
    · exact .rfl

theorem tearWatches_keepsPlaces (p : PortIx) : s.KeepsPlaces (s.tearWatches p) :=
  .foldl (fun _ i => tearWatch_keepsPlaces p i) _ s

end State

end Sys2Proof.Machine
end

section
/-! PROOF. SUBMIT and the staged groups, and what they keep of the laws of places (R11 to R13, R104 to R113). -/

namespace Sys2Proof.Machine

/-! ### SUBMIT -/

theorem newRecord_lawful {p : PortIx} {b : BusIx} {x : SubmitBody} {t : Clock} {staged : Bool} (segments : x.segments.length ≤ 6)
    (budget : x.budget.toNat ≤ 7) : (newRecord p b x t staged).key.lawful := by
  refine ⟨by simpa [newRecord, Record.key] using segments, budget, Nat.zero_le _, iff_of_false nofun ?_, fun _ => Nat.zero_le _⟩
  cases staged <;> exact nofun

namespace State

variable {s : State}

/-- A group id that resolves is the id of the slot it names. -/
theorem findGroup_id {id : Byte} {i : Fin 8} {g : GroupEntry} (h : s.findGroup id = some (i, g)) : s.groupId i = id := by
  unfold findGroup at h
  dsimp only at h
  split at h
  next gen =>
    obtain ⟨x, -, hp⟩ := Option.map_eq_some_iff.mp h
    cases hp
    rw [groupId, gen, byteOf, Nat.mod_add_div, BitVec.ofNat_toNat, BitVec.setWidth_eq]
  next => cases h

theorem submitGroup_some {p : PortIx} {x : SubmitBody} {k : Fin 8} {e : GroupEntry} (h : s.submitGroup p x = .ok (some (k, e))) :
    s.group k = some e ∧ s.groupId k = x.groupId ∧ e.owner = p := by
  unfold submitGroup at h
  split at h
  · split at h
    · cases h
    next found =>
      split at h
      · cases h
      next owner =>
        split at h
        · cases h
        · cases h
          exact ⟨(findGroup_some found).1, findGroup_id found, not_not.mp owner⟩
  · cases h

/-- A FREE slot takes the record of an OPEN session whose window has room (R10, R12, R13). -/
theorem acceptSubmit_lawful {strict : Prop} (h : s.places.Lawful strict) {p : PortIx} {b : BusIx} {x : SubmitBody}
    {g : Option (Fin 8 × GroupEntry)} {i : Fin 64} (free : s.record i = none) (opened : s.isOpen p = true)
    (room : s.windowUse p < (s.session p).window) (segments : x.segments.length ≤ 6) (budget : x.budget.toNat ≤ 7)
    (hg : s.submitGroup p x = .ok g) : (s.acceptSubmit p b x g i).places.Lawful strict := by
  have entry := places_entry_none free
  have loose : (s.places.record i).Loose := (h.record i).loose fun k hk => absurd (entry.symm.trans hk) nofun
  rw [← windowUse_eq] at room
  have window {v : RecordPlace} {staged : Bool} (hv : v.entry = some (newRecord p b x s.clock staged).key) :
      strict → (s.places.setRecord i v).Windows := fun hs =>
    (h.windows hs).take hv entry room (of_decide_eq_true opened)
  unfold acceptSubmit
  split
  next =>
    rw [join, wake_places, enqueue_record_places, putRecord_places, Places.setRecord_setRecord, Places.setRecord_self]
    exact h.setRecord (loose.enqueued (newRecord_lawful segments budget) rfl) (window rfl)
  next k e =>
    obtain ⟨hk, id, owner⟩ := submitGroup_some hg
    have seat : (s.places.record i).staged k = some { owner := e.owner, id := s.groupId k, copies := e.staged.count i } := by
      change (s.group k).map _ = _
      rw [hk]
      rfl
    rw [putGroup_places_stage (s := s.putRecord i _) (k := k) hk, putRecord_places, Places.setRecord_setRecord,
      Places.setRecord_self]
    exact h.setRecord (loose.staged_at seat (newRecord_lawful segments budget) rfl (congrArg some id.symm) owner.symm)
      (window rfl)

theorem submitRequest_keepsPlaces {p : PortIx} (opened : s.isOpen p = true) (body : List Byte) :
    s.KeepsPlaces (s.submitRequest p body).1 := by
  unfold submitRequest
  split
  · exact .rfl
  unfold submitFields
  split
  · exact .rfl
  split
  · exact .rfl
  split
  · exact .rfl
  split
  · exact .rfl
  next lengths =>
    split
    · exact .rfl
    next fields =>
      rw [Bool.not_eq_true', Bool.not_eq_false] at lengths fields
      split
      · exact .rfl
      next hg =>
        split
        · exact .rfl
        next room =>
          split
          · exact .rfl
          next free =>
            intro strict h
            exact acceptSubmit_lawful h (lowestFree_some free).1 opened (not_le.mp room) ((lengthsAllowed_iff _).mp lengths).2.1
              ((submitFieldsAllowed_iff _).mp fields).2.1 hg

end State

/-! ### Fire (R110) -/

/-- The place of a record whose seat in group slot `g` is emptied. -/
def RecordPlace.cleared (v : RecordPlace) (g : Fin 8) : RecordPlace :=
  { v with staged := Function.update v.staged g ((v.staged g).map fun x => { x with copies := 0 }) }

theorem Places.clearSeats_setRecord (P : Places) (g : Fin 8) (i : Fin 64) (v : RecordPlace) :
    (P.setRecord i v).clearSeats g = (P.clearSeats g).setRecord i (v.cleared g) := by
  refine Places.ext (funext fun j => ?_) rfl rfl
  by_cases hj : j = i
  · subst hj
    rw [Places.setRecord_self]
    exact congrArg (fun u : RecordPlace => u.cleared g) (P.setRecord_self j v)
  · rw [Places.setRecord_of_ne _ hj]
    exact congrArg (fun u : RecordPlace => u.cleared g) (P.setRecord_of_ne hj v)

theorem RecordPlace.Ends.cleared {v v' : RecordPlace} (h : v.Ends v') (g : Fin 8) : (v.cleared g).Ends (v'.cleared g) := by
  cases h with
  | absent h => exact .absent h
  | freed => exact .freed
  | waits k h => exact .waits k h

/-- A record that was not ACTIVE is not once it has ended. -/
theorem RecordPlace.Ends.idle {v v' : RecordPlace} (h : v.Ends v') (rests : ∀ k ∈ v.entry, k.state ≠ .active) :
    ∀ k ∈ v'.entry, k.state ≠ .active := by
  cases h with
  | absent => exact rests
  | freed => exact nofun
  | waits k => exact fun k' hk' => Option.mem_some.mp hk' ▸ nofun

/-- A record of one slot ends; what stands in another slot is not ACTIVE if it was not. -/
theorem RecordPlace.Ends.stillIdle {P : Places} {i j : Fin 64} {v : RecordPlace} (h : (P.record i).Ends v)
    (here : ∀ k ∈ (P.record i).entry, k.state ≠ .active) (there : ∀ k ∈ (P.record j).entry, k.state ≠ .active) :
    ∀ k ∈ ((P.setRecord i v).record j).entry, k.state ≠ .active := by
  by_cases hji : j = i
  · subst hji
    rw [Places.setRecord_self]
    exact h.idle here
  · rw [Places.setRecord_of_ne _ hji]
    exact there

/-- One of several records that are out of their places ends. -/
theorem Places.LawfulBut.finish {strict : Prop} {P : Places} {L L' : Item → Prop} (h : P.LawfulBut strict L) {i : Fin 64}
    {v : RecordPlace} (loose : (P.record i).Loose) (rests : ∀ k ∈ (P.record i).entry, k.state ≠ .active)
    (ends : (P.record i).Ends v) (same : ∀ it, it ≠ .record i → (L' it ↔ L it)) : (P.setRecord i v).LawfulBut strict L' := by
  refine h.setRecord (fun _ => ends.ok loose) (fun _ => ends.loose loose) same fun hs => (h.windows hs).setRecord fun k' hk' => ?_
  obtain ⟨k, hk, owner⟩ := ends.owner k' hk'
  exact ⟨k, hk, owner, fun _ active => absurd active (rests k hk)⟩

/-- `v.Fires on v'`: the record of place `v` is fired, while the buses of `on` are enabled. -/
inductive RecordPlace.Fires (on : BusIx → Bool) (v : RecordPlace) : RecordPlace → Prop
  | absent (h : v.entry = none) : v.Fires on v
  | queued (k : RecordKey) (h : v.entry = some k) (enabled : on k.bus = true) :
      v.Fires on (({ v with entry := some { k with state := .queued } } : RecordPlace).enqueued k.bus)
  | ended (k : RecordKey) (h : v.entry = some k) (disabled : on k.bus = false) {v' : RecordPlace} (ends : v.Ends v') :
      v.Fires on v'

theorem RecordPlace.Fires.cleared {on : BusIx → Bool} {v v' : RecordPlace} (h : v.Fires on v') (g : Fin 8) :
    (v.cleared g).Fires on (v'.cleared g) := by
  cases h with
  | absent h => exact .absent h
  | queued k h enabled => exact .queued k h enabled
  | ended k h disabled ends => exact .ended (v := v.cleared g) k h disabled (ends.cleared g)

/-- What a fired record has become. -/
theorem RecordPlace.Fires.entry {on : BusIx → Bool} {u v : RecordPlace} (fires : u.Fires on v) : ∀ k' ∈ v.entry,
    ∃ k ∈ u.entry, k.owner = k'.owner ∧
      (k'.state = .queued ∧ on k'.bus = true ∨ k'.state = .done ∧ on k'.bus = false) := by
  cases fires with
  | absent h => rw [h]; exact nofun
  | queued k hk enabled =>
    intro k' hk'
    obtain rfl := Option.mem_some.mp hk'
    exact ⟨k, hk, rfl, .inl ⟨rfl, enabled⟩⟩
  | ended k hk disabled ends =>
    cases ends with
    | absent h => rw [h]; exact nofun
    | freed => exact nofun
    | waits k2 hk2 =>
      intro k' hk'
      obtain rfl := Option.mem_some.mp hk'
      obtain rfl := Option.mem_unique hk hk2
      exact ⟨k, hk, rfl, .inr ⟨rfl, disabled⟩⟩

/-- A record that stands in its queue joins it again: without the law of places nothing forbids it. -/
theorem RecordPlace.Ok.enqueued_again {strict : Prop} {v : RecordPlace} {k : RecordKey} (h : v.Ok strict) (lax : ¬strict)
    (hk : v.entry = some k) (queued : k.state = .queued) : (v.enqueued k.bus).Ok strict := by
  refine ⟨h.lawful, fun b hb => ?_, h.runs, h.staged, fun hs => absurd hs lax, fun hs => absurd hs lax, fun hs => absurd hs lax⟩
  by_cases hkb : b = k.bus
  · exact ⟨k, hk, queued, hkb.symm⟩
  · exact h.queued b fun e => hb ((Function.update_of_ne hkb ..).trans e)

namespace Places

/-- The records of `l` that are still STAGED. -/
def unfired (P : Places) (l : List (Fin 64)) (it : Item) : Prop :=
  ∃ i ∈ l, it = .record i ∧ ∃ k ∈ (P.record i).entry, k.state = .staged

/-- A fire has come to the records of `l`, which have left their staged list. -/
structure Firing (strict : Prop) (on : BusIx → Bool) (P : Places) (l : List (Fin 64)) : Prop where
  laws : P.LawfulBut strict (P.unfired l)
  seen : ∀ i ∈ l, ∀ k ∈ (P.record i).entry, k.state = .staged ∨
    ¬strict ∧ (k.state = .queued ∧ on k.bus = true ∨ k.state = .done ∧ on k.bus = false)
  once : strict → l.Nodup

variable {strict : Prop} {on : BusIx → Bool} {P : Places} {i : Fin 64} {l : List (Fin 64)} {v : RecordPlace}

/-- The record at the head of a fire takes its place, or ends. -/
theorem Firing.ok (h : P.Firing strict on (i :: l)) (fires : (P.record i).Fires on v) : v.Ok strict := by
  have head : i ∈ i :: l := List.mem_cons_self
  have loose (k : RecordKey) (hk : (P.record i).entry = some k) (staged : k.state = .staged) : (P.record i).Loose :=
    h.laws.looseRecords i ⟨i, head, rfl, k, hk, staged⟩
  have ok (k : RecordKey) (hk : (P.record i).entry = some k) (other : k.state ≠ .staged) : (P.record i).Ok strict := by
    refine h.laws.records i fun ⟨j, _, e, k', hk', staged⟩ => other ?_
    obtain rfl := Item.record.inj e
    exact Option.mem_unique hk' hk ▸ staged
  cases fires with
  | absent hn =>
    refine h.laws.records i fun ⟨j, _, e, k, hk, _⟩ => ?_
    obtain rfl := Item.record.inj e
    exact absurd (hn.symm.trans hk) nofun
  | queued k hk enabled =>
    obtain staged | ⟨lax, ⟨queued, -⟩ | ⟨-, off⟩⟩ := h.seen i head k hk
    · obtain ⟨segments, budget, attempts, result, again⟩ := (loose k hk staged).lawful k hk
      have open_ : ¬k.hasResult = true := fun hr => absurd (staged.symm.trans (result.mp hr)) nofun
      exact (loose k hk staged).enqueued (k := { k with state := .queued })
        ⟨segments, budget, attempts, iff_of_false open_ nofun, fun _ => again (.inl staged)⟩ rfl
    · have same : ({ P.record i with entry := some { k with state := .queued } } : RecordPlace) = P.record i :=
        RecordPlace.ext ((congrArg some (congrArg (fun x => { k with state := x }) queued.symm)).trans hk.symm) rfl rfl rfl rfl
      rw [same]
      exact (ok k hk (queued ▸ nofun)).enqueued_again lax hk queued
    · exact absurd (enabled.symm.trans off) nofun
  | ended k hk disabled ends =>
    obtain staged | ⟨-, ⟨-, enabled⟩ | ⟨done, -⟩⟩ := h.seen i head k hk
    · exact ends.ok (loose k hk staged)
    · exact absurd (enabled.symm.trans disabled) nofun
    · exact ends.ok ((ok k hk (done ▸ nofun)).loose fun k' hk' => Option.mem_unique hk hk' ▸ done)

theorem Firing.step (h : P.Firing strict on (i :: l)) (fires : (P.record i).Fires on v) :
    (P.setRecord i v).Firing strict on l := by
  have still {j : Fin 64} (hj : j ≠ i) : (P.setRecord i v).record j = P.record j := P.setRecord_of_ne hj v
  have here : (P.setRecord i v).record i = v := P.setRecord_self i v
  refine ⟨h.laws.setRecord (fun _ => h.ok fires) (fun ⟨j, _, e, k, hk, staged⟩ => ?_) (fun it hit => ?_) fun hs => ?_,
    fun j hj k hk => ?_, fun hs => (List.nodup_cons.mp (h.once hs)).2⟩
  · obtain rfl := Item.record.inj e
    rw [here] at hk
    obtain ⟨-, -, -, ⟨queued, -⟩ | ⟨done, -⟩⟩ := fires.entry k hk
    · exact absurd (queued.symm.trans staged) nofun
    · exact absurd (done.symm.trans staged) nofun
  · constructor
    · rintro ⟨j, hj, rfl, k, hk, staged⟩
      rw [still fun e => hit (congrArg Item.record e)] at hk
      exact ⟨j, List.mem_cons_of_mem i hj, rfl, k, hk, staged⟩
    · rintro ⟨j, hj, rfl, hk⟩
      have hji : j ≠ i := fun e => hit (congrArg Item.record e)
      rw [← still hji] at hk
      exact ⟨j, (List.mem_cons.mp hj).resolve_left hji, rfl, hk⟩
  · refine (h.laws.windows hs).setRecord fun k' hk' => ?_
    obtain ⟨k, hk, owner, -⟩ := fires.entry k' hk'
    refine ⟨k, hk, owner, fun _ active => ?_⟩
    obtain staged | ⟨-, ⟨queued, -⟩ | ⟨done, -⟩⟩ := h.seen i List.mem_cons_self k hk
    · exact absurd (active.symm.trans staged) nofun
    · exact absurd (active.symm.trans queued) nofun
    · exact absurd (active.symm.trans done) nofun
  · by_cases hji : j = i
    · subst hji
      rw [here] at hk
      obtain ⟨-, -, -, fired⟩ := fires.entry k hk
      exact .inr ⟨fun hs => (List.nodup_cons.mp (h.once hs)).1 hj, fired⟩
    · rw [still hji] at hk
      exact h.seen j (List.mem_cons_of_mem i hj) k hk

theorem Firing.finished (h : P.Firing strict on []) : P.Lawful strict :=
  h.laws.congr fun _ => iff_of_false id fun ⟨_, hj, _⟩ => absurd hj List.not_mem_nil

end Places

namespace State

variable {s : State}

theorem offer_record_groups (p : PortIx) (i : Fin 64) : (s.offer p (.record i)).groups = s.groups := by
  unfold offer admitOne
  repeat' split
  all_goals rfl

theorem finishWithoutAttempt_groups (i : Fin 64) (status : Status) : (s.finishWithoutAttempt i status).groups = s.groups := by
  unfold finishWithoutAttempt finishRecord
  split
  · rfl
  · exact offer_record_groups ..

theorem join_groups (b : BusIx) (it : QItem) : (s.join b it).groups = s.groups := by
  unfold join wake
  split <;> rfl

theorem fireRecord_groups (i : Fin 64) : (s.fireRecord i).groups = s.groups := by
  unfold fireRecord
  repeat' split
  · rfl
  · exact join_groups ..
  · exact finishWithoutAttempt_groups ..

theorem groups_foldl {α : Type} {f : State → α → State} (h : ∀ (s : State) (x : α), (f s x).groups = s.groups) (l : List α)
    (s : State) : (l.foldl f s).groups = s.groups := by
  induction l generalizing s with
  | nil => rfl
  | cons x l ih => exact (ih _).trans (h s x)

theorem fireRecord_fires (s : State) (i : Fin 64) :
    ∃ v, (s.places.record i).Fires s.enabled v ∧ (s.fireRecord i).places = s.places.setRecord i v := by
  unfold fireRecord
  split
  next hr => exact ⟨_, .absent (places_entry_none hr), (s.places.setRecord_record i).symm⟩
  next r hr =>
    have entry := places_entry hr
    split
    next on =>
      refine ⟨_, .queued r.key entry on, ?_⟩
      rw [join, wake_places, enqueue_record_places, putRecord_places, Places.setRecord_setRecord, Places.setRecord_self]
      rfl
    next off =>
      obtain ⟨v, ends, hv⟩ := s.finishRecord_ends i .busOff none 0 []
      exact ⟨v, .ended r.key entry (Bool.eq_false_iff.mpr off) ends, hv⟩

theorem fireAll_lawful {strict : Prop} {on : BusIx → Bool} {g : Fin 8} (l : List (Fin 64)) (hon : s.enabled = on)
    (h : (s.places.clearSeats g).Firing strict on l) :
    ((l.foldl (fun acc j => acc.fireRecord j) s).places.clearSeats g).Lawful strict := by
  induction l generalizing s with
  | nil => exact h.finished
  | cons i l ih =>
    obtain ⟨v, fires, hv⟩ := s.fireRecord_fires i
    refine ih ((funext fun b => congrArg BusConfig.enabled ((s.fireRecord_still i).configs b)).trans hon) ?_
    rw [hv, Places.clearSeats_setRecord]
    exact h.step (hon ▸ fires.cleared g)

/-- The staged list of a group as the laws see it. -/
theorem places_seat {k : Fin 8} {g : GroupEntry} (hk : s.group k = some g) (i : Fin 64) :
    (s.places.record i).staged k = some { owner := g.owner, id := s.groupId k, copies := g.staged.count i } := by
  change (s.group k).map _ = _
  rw [hk]
  rfl

/-- The staged list of a live group under the laws: its records are STAGED. -/
theorem staged_of_lawful {strict : Prop} (h : s.places.Lawful strict) {k : Fin 8} {g : GroupEntry} (hk : s.group k = some g)
    {i : Fin 64} (hi : i ∈ g.staged) : ∃ x ∈ (s.places.record i).entry, x.state = .staged := by
  obtain ⟨x, hx, staged, -⟩ := (h.record i).staged k _ (places_seat hk i) (count_ne_zero.mpr hi)
  exact ⟨x, hx, staged⟩

/-- The staged list of a live group is emptied. -/
theorem clearSeats_lawful {strict : Prop} (h : s.places.Lawful strict) {k : Fin 8} {g : GroupEntry} (hk : s.group k = some g) :
    (s.places.clearSeats k).LawfulBut strict fun it => ∃ i ∈ g.staged, it = .record i := by
  refine (h.clearSeats fun i g' x y => s.staged_distinct i i k g').congr fun it => ?_
  constructor
  · rintro ⟨i, hi, rfl⟩
    exact ⟨i, _, rfl, places_seat hk i, count_ne_zero.mpr hi⟩
  · rintro ⟨i, x, rfl, hx, hc⟩
    rw [places_seat hk i] at hx
    obtain rfl := Option.some.inj hx
    exact ⟨i, count_ne_zero.mp hc, rfl⟩

theorem firing {strict : Prop} (h : s.places.Lawful strict) {k : Fin 8} {g : GroupEntry} (hk : s.group k = some g) :
    (s.places.clearSeats k).Firing strict s.enabled g.staged where
  laws := (clearSeats_lawful h hk).congr fun it =>
    ⟨fun ⟨i, hi, e, _⟩ => ⟨i, hi, e⟩, fun ⟨i, hi, e⟩ => ⟨i, hi, e, staged_of_lawful h hk hi⟩⟩
  seen i hi x hx := by
    obtain ⟨y, hy, staged⟩ := staged_of_lawful h hk hi
    exact .inl (Option.mem_unique hx hy ▸ staged)
  once hs := List.nodup_iff_count_le_one.mpr fun i => (h.record i).onceStaged hs k _ (places_seat hk i)

theorem fire_keepsPlaces {k : Fin 8} {g : GroupEntry} (hk : s.group k = some g) (source : FireSource) :
    s.KeepsPlaces (s.fire k g source) := by
  intro strict h
  have live : (g.staged.foldl (fun acc j => acc.fireRecord j) s).group k = some g := by
    rw [group, groups_foldl (fun s i => s.fireRecord_groups (i := i))]
    exact hk
  unfold fire
  dsimp only
  rw [offer_places (src := .group k) g.owner nofun, putGroup_places_clear live (x' := { g with
    state := .collecting, staged := [], fireCount := _, report := _ }) rfl rfl]
  exact fireAll_lawful g.staged rfl (firing h hk)

theorem groupFireRequest_keepsPlaces (p : PortIx) (body : List Byte) : s.KeepsPlaces (s.groupFireRequest p body).1 := by
  unfold groupFireRequest
  split
  · exact .rfl
  split
  · exact .rfl
  next h => exact fire_keepsPlaces (ownedGroup_some h).1 _

theorem edge_keepsPlaces (l : TriggerLine) (up : Bool) : s.KeepsPlaces (s.edge l up) := by
  unfold edge
  split
  · exact .rfl
  split
  · exact .rfl
  next hg =>
    split
    · split
      · exact fire_keepsPlaces hg _
      · exact .of_eq (putGroup_places_same hg rfl rfl)
    · exact .rfl

theorem sampleLine_keepsPlaces (l : TriggerLine) (up : Bool) : s.KeepsPlaces (s.sampleLine l up) := by
  unfold sampleLine
  split
  · exact .rfl
  · exact (edge_keepsPlaces l up).after (setLevel_places l up)

/-! ### Creating and deleting (R104, R113) -/

/-- The records of a list that are out of their places, end one after the other. -/
theorem finishAll_lawful {strict : Prop} (status : Status) (l : List (Fin 64))
    (h : s.places.LawfulBut strict fun it => ∃ i ∈ l, it = .record i)
    (rests : ∀ i ∈ l, ∀ k ∈ (s.places.record i).entry, k.state ≠ .active) :
    (l.foldl (fun acc j => acc.finishWithoutAttempt j status) s).places.Lawful strict := by
  induction l generalizing s with
  | nil => exact h.congr fun _ => iff_of_false id fun ⟨_, hj, _⟩ => absurd hj List.not_mem_nil
  | cons i l ih =>
    have head : i ∈ i :: l := List.mem_cons_self
    have loose := h.looseRecords i ⟨i, head, rfl⟩
    obtain ⟨v, ends, hv⟩ := s.finishRecord_ends i status none 0 []
    refine ih (s := s.finishWithoutAttempt i status) ?_ fun j hj => ?_
    · rw [finishWithoutAttempt, hv]
      refine h.finish loose (rests i head) ends fun it hit => ⟨?_, ?_⟩
      · rintro ⟨j, hj, rfl⟩
        exact ⟨j, List.mem_cons_of_mem i hj, rfl⟩
      · rintro ⟨j, hj, rfl⟩
        exact ⟨j, (List.mem_cons.mp hj).resolve_left fun e => hit (congrArg Item.record e), rfl⟩
    · rw [finishWithoutAttempt, hv]
      exact ends.stillIdle (rests i head) (rests j (List.mem_cons_of_mem i hj))

/-- A new group with an empty staged list takes a FREE slot. -/
theorem putGroup_lawful_new {strict : Prop} (h : s.places.Lawful strict) {k : Fin 8} {x : GroupEntry} (free : s.group k = none)
    (empty : x.staged = []) : (s.putGroup k x).places.Lawful strict := by
  have seats (i : Fin 64) : ((s.putGroup k x).places.record i).staged = Function.update (s.places.record i).staged k
      (some { owner := x.owner, id := s.groupId k, copies := 0 }) := by
    funext g
    change ((s.putGroup k x).group g).map _ = Function.update (s.recordPlace i).staged k _ g
    by_cases hg : g = k
    · subst hg
      rw [putGroup_group, if_pos rfl, Function.update_self, Option.map_some, putGroup_groupId, empty, List.count_nil]
    · rw [putGroup_group, if_neg hg, Function.update_of_ne hg]
      simp only [recordPlace, putGroup_groupId]
  have none_ (i : Fin 64) : (s.places.record i).staged k = none := by
    change (s.group k).map _ = none
    rw [free]
    rfl
  have old {i : Fin 64} {g : Fin 8} {y : Seat} (hy : ((s.putGroup k x).places.record i).staged g = some y)
      (hc : y.copies ≠ 0) : (s.places.record i).staged g = some y := by
    rw [seats] at hy
    by_cases hg : g = k
    · rw [hg, Function.update_self] at hy
      exact absurd (congrArg Seat.copies (Option.some.inj hy)).symm hc
    · rwa [Function.update_of_ne hg] at hy
  refine .of_parts (fun i => ?_) (fun hs w => h.watch hs w) fun hs => h.windows hs
  obtain ⟨lawful, queued, runs, staged, placed, onceQueued, onceStaged⟩ := h.record i
  refine ⟨lawful, queued, runs, fun g y hy hc => staged g y (old hy hc) hc, fun hs z hz => ?_, onceQueued, fun hs g y hy => ?_⟩
  · obtain ⟨inList, rest⟩ := placed hs z hz
    refine ⟨fun hst => ?_, rest⟩
    obtain ⟨g, y, hy, hc⟩ := inList hst
    have hg : g ≠ k := by
      rintro rfl
      exact absurd ((none_ i).symm.trans hy) nofun
    exact ⟨g, y, by rw [seats, Function.update_of_ne hg, hy], hc⟩
  · by_cases hc : y.copies = 0
    · exact hc.le.trans (Nat.zero_le 1)
    · exact onceStaged hs g y (old hy hc)

theorem deleteGroup_keepsPlaces {k : Fin 8} {g : GroupEntry} (hk : s.group k = some g) : s.KeepsPlaces (s.deleteGroup k g) := by
  intro strict h
  have cleared : (s.putGroup k { g with staged := [] }).places = s.places.clearSeats k := putGroup_places_clear hk rfl rfl
  have done := finishAll_lawful (s := s.putGroup k { g with staged := [] }) (strict := strict) .cancelled g.staged
    (cleared ▸ clearSeats_lawful h hk) fun i hi x hx => by
      rw [cleared] at hx
      obtain ⟨y, hy, staged⟩ := staged_of_lawful h hk hi
      obtain rfl := Option.mem_unique hx hy
      exact staged ▸ nofun
  have live : (g.staged.foldl (fun acc j => acc.finishWithoutAttempt j .cancelled)
      (s.putGroup k { g with staged := [] })).group k = some { g with staged := [] } := by
    rw [group, groups_foldl fun s i => s.finishWithoutAttempt_groups (i := i) (status := .cancelled)]
    exact (putGroup_group ..).trans (if_pos rfl)
  unfold deleteGroup
  dsimp only
  rw [freeGroup_places, dropSource_places (src := .group k) g.owner nofun]
  refine done.keepSeats fun i k' x hx hkeep => ?_
  obtain rfl : k' = k := not_not.mp (of_decide_eq_false hkeep)
  rw [places_seat live] at hx
  obtain rfl := Option.some.inj hx
  rfl

theorem groupDeleteRequest_keepsPlaces (p : PortIx) (body : List Byte) : s.KeepsPlaces (s.groupDeleteRequest p body).1 := by
  unfold groupDeleteRequest
  split
  · exact .rfl
  split
  · exact .rfl
  next h => exact deleteGroup_keepsPlaces (ownedGroup_some h).1

theorem groupCreateRequest_keepsPlaces (p : PortIx) (body : List Byte) : s.KeepsPlaces (s.groupCreateRequest p body).1 := by
  unfold groupCreateRequest
  split
  · exact .rfl
  split
  · exact .rfl
  next k free =>
    intro strict h
    exact putGroup_lawful_new h (lowestFree_some free).1 rfl

end State

end Sys2Proof.Machine
end

section
/-! PROOF. BUS_CONFIGURE, teardown, sessions and admission, and what they keep of the laws of places (chapters 9 and 11). -/

namespace Sys2Proof.Machine

/-- A record that is not DONE leaves an admission list. -/
theorem RecordPlace.Ok.relisted {strict : Prop} {v : RecordPlace} (h : v.Ok strict)
    (rests : ∀ k ∈ v.entry, k.state ≠ .done) (f : PortIx → Bool) : ({ v with listed := f } : RecordPlace).Ok strict where
  lawful := h.lawful
  queued := h.queued
  runs := h.runs
  staged := h.staged
  placed hs k hk := by
    obtain ⟨inList, inQueue, inEngine, -⟩ := h.placed hs k hk
    exact ⟨inList, inQueue, inEngine, fun done => absurd done (rests k hk)⟩
  onceQueued := h.onceQueued
  onceStaged := h.onceStaged

namespace State

variable {s : State}

/-! ### BUS_CONFIGURE (R174 to R177) -/

/-- The items of a list are in no queue, and none runs. -/
def out (l : List QItem) (it : Item) : Prop := ∃ x ∈ l, x.item = it

theorem out_tail {x : QItem} {l : List QItem} {it : Item} (h : it ≠ x.item) : out l it ↔ out (x :: l) it := by
  constructor
  · rintro ⟨y, hy, rfl⟩
    exact ⟨y, List.mem_cons_of_mem x hy, rfl⟩
  · rintro ⟨y, hy, rfl⟩
    exact ⟨y, (List.mem_cons.mp hy).resolve_left fun e => h (congrArg QItem.item e), rfl⟩

theorem modWatch_places (w : Fin 12) (f : Watch → Watch) : ∃ x,
    (s.modWatch w f).places = s.places.setWatch w { s.places.watch w with entry := x } := by
  unfold modWatch
  split
  · exact ⟨_, (s.places.setWatch_watch w).symm⟩
  · exact ⟨_, putWatch_places w _⟩

/-- The items of an emptied queue end one after the other (R23, R43, R127). -/
theorem dropAll_lawful {strict : Prop} (l : List QItem) (h : s.places.LawfulBut strict (out l))
    (rests : ∀ i, .record i ∈ l → ∀ k ∈ (s.places.record i).entry, k.state ≠ .active) :
    (l.foldl (fun acc it => acc.dropItem it) s).places.Lawful strict := by
  induction l generalizing s with
  | nil => exact h.congr fun _ => iff_of_false id fun ⟨_, hx, _⟩ => absurd hx List.not_mem_nil
  | cons x l ih =>
    have head : out (x :: l) x.item := ⟨x, List.mem_cons_self, rfl⟩
    cases x with
    | record i =>
      have rest := rests i List.mem_cons_self
      obtain ⟨v, ends, hv⟩ := s.finishRecord_ends i .busOff none 0 []
      refine ih (s := s.finishWithoutAttempt i .busOff) ?_ fun j hj => ?_
      · rw [finishWithoutAttempt, hv]
        exact h.finish (h.looseRecords i head) rest ends fun _ hit => out_tail (x := .record i) hit
      · rw [finishWithoutAttempt, hv]
        exact ends.stillIdle rest (rests j (List.mem_cons_of_mem _ hj))
    | watchRead w c t z =>
      obtain ⟨e, he⟩ := s.modWatch_places w fun x => { x with read := .none }
      refine ih (s := s.modWatch w fun x => { x with read := .none }) ?_ fun j hj => ?_
      · rw [he]
        refine h.setWatch (fun hs _ => (h.looseWatches hs w head).ok e) (fun hs _ => ?_) fun _ hit =>
          out_tail (x := .watchRead w c t z) hit
        have loose := h.looseWatches hs w head
        exact ⟨loose.queued, loose.runs⟩
      · rw [he]
        exact rests j (List.mem_cons_of_mem _ hj)

theorem clearQueue_keepsPlaces (b : BusIx) : s.KeepsPlaces (s.clearQueue b) := by
  intro strict h
  refine dropAll_lawful (s := s.setQueue b []) _ ?_ fun i hi k hk => ?_
  · rw [clearedQueue_places]
    refine (h.clearQueue b).congr fun it => ⟨fun ⟨x, hx, e⟩ => ?_, ?_⟩
    · cases x with
      | record i => exact .inl ⟨i, e.symm, copies_ne_zero.mpr ⟨_, hx, rfl⟩⟩
      | watchRead w c t z => exact .inr ⟨w, e.symm, copies_ne_zero.mpr ⟨_, hx, rfl⟩⟩
    · rintro (⟨i, rfl, hc⟩ | ⟨w, rfl, hc⟩) <;> exact copies_ne_zero.mp hc
  · rw [clearedQueue_places] at hk
    obtain ⟨k', hk', queued, -⟩ := (h.record i).queued b (copies_record_ne_zero.mpr hi)
    obtain rfl := Option.mem_unique hk hk'
    exact queued ▸ nofun

theorem disableBus_keepsPlaces (b : BusIx) : s.KeepsPlaces (s.disableBus b) :=
  ((clearQueue_keepsPlaces b).after (modConfig_places b _)).trans (.of_eq (disableEngine_places b))

theorem applyValues_keepsPlaces (b : BusIx) (c : BusConfig) : s.KeepsPlaces (s.applyValues b c) := by
  unfold applyValues
  dsimp only
  split
  · exact (promoteDue_keepsPlaces b).after (modConfig_places b _)
  · exact .of_eq (modConfig_places b _)

theorem applyConfig_keepsPlaces (b : BusIx) (c : BusConfig) : s.KeepsPlaces (s.applyConfig b c) := by
  unfold applyConfig
  repeat' split
  · exact applyValues_keepsPlaces b c
  · exact (disableBus_keepsPlaces b).trans (applyValues_keepsPlaces b c)
  · exact (applyValues_keepsPlaces b c).trans (.of_eq (enableBus_places b))
  · exact applyValues_keepsPlaces b c

theorem busConfigureRequest_keepsPlaces (p : PortIx) (body : List Byte) : s.KeepsPlaces (s.busConfigureRequest p body).1 := by
  unfold busConfigureRequest
  dsimp only
  repeat' split
  next => exact .rfl
  next => exact .rfl
  next => exact .rfl
  next => exact .rfl
  next => exact .rfl
  next => exact applyConfig_keepsPlaces _ _

/-! ### Teardown (R22, R115, R127, R148) -/

theorem tearRecord_keepsPlaces (p : PortIx) (i : Fin 64) : s.KeepsPlaces (s.tearRecord p i) := by
  unfold tearRecord
  split
  · exact .rfl
  next r hr =>
    have entry := places_entry hr
    split
    · exact .rfl
    split
    next => exact .of_eq (abortRecord_places i)
    next staged =>
      intro strict h
      rw [freeRecord_places, unstage_places, Places.setRecord_setRecord, Places.setRecord_self]
      exact h.free ((h.record i).unstaged entry staged)
    next queued =>
      intro strict h
      rw [freeRecord_places, dequeueRecord_places, Places.setRecord_setRecord, Places.setRecord_self]
      exact h.free ((h.record i).dequeued entry queued)
    next done =>
      intro strict h
      rw [freeRecord_places]
      exact h.free ((h.record i).loose fun k hk => Option.mem_unique entry hk ▸ done)

/-- Every record of session `p` is ACTIVE. -/
def onlyActive (s : State) (p : PortIx) : Prop := ∀ i r, s.record i = some r → r.owner = p → r.state = .active

theorem onlyActive.places {p : PortIx} (h : s.onlyActive p) {i : Fin 64} {k : RecordKey} (hk : k ∈ (s.places.record i).entry)
    (owner : k.owner = p) : k.state = .active := by
  obtain ⟨r, hr, rfl⟩ := Option.map_eq_some_iff.mp hk
  exact h i r hr owner

theorem onlyActive_of_loses {t : State} {p : PortIx} (h : s.onlyActive p) (l : s.Loses t) : t.onlyActive p := by
  intro i r' hr' owner
  obtain ⟨r, hr, same, -, state, -⟩ := l.records i r' hr'
  exact state.trans (h i r hr (same.symm.trans owner))

theorem tearRecords_onlyActive (s : State) (p : PortIx) : (s.tearRecords p).onlyActive p := fun i r hr owner =>
  (State.Loses.foldl_establishes (fun t i => t.tearRecord_loses p i) (fun i t => t.recordTorn p i)
    (State.recordTorn_of_loses p) (fun t i => t.tearRecord_torn p i) (List.mem_finRange i) s r hr owner).1

theorem freeGroupsOf_keepsPlaces {p : PortIx} (torn : s.onlyActive p) : s.KeepsPlaces (s.freeGroupsOf p) := by
  intro strict h
  rw [freeGroupsOf_places]
  refine h.keepSeats fun i g x hx hkeep => ?_
  by_contra hc
  obtain ⟨k, hk, staged, -, owner⟩ := (h.record i).staged g x hx hc
  exact absurd (staged.symm.trans (torn.places hk (owner.trans (not_not.mp (of_decide_eq_false hkeep))))) nofun

theorem tearTargets_places (p : PortIx) : (s.tearTargets p).places = s.places := by
  refine places_foldl _ (fun t b => ?_) _ s
  split
  · exact loseOwnership_places p b
  · rfl

/-- A session changes, and its admission list is emptied. -/
theorem modSession_places_emptied (p : PortIx) (f : Session → Session) (empty : (f (s.session p)).admission = []) :
    (s.modSession p f).places = (s.places.unlist p).setSession p ((f (s.session p)).state, (f (s.session p)).window) := by
  refine Places.ext (funext fun i => RecordPlace.ext rfl rfl rfl rfl (funext fun q => ?_)) rfl (funext fun q => ?_)
  · change decide (Source.record i ∈ ((s.modSession p f).session q).admission) =
      Function.update (s.recordPlace i).listed p false q
    rw [modSession_session]
    by_cases hq : q = p
    · rw [if_pos hq, empty, hq, Function.update_self]
      exact decide_eq_false List.not_mem_nil
    · rw [if_neg hq, Function.update_of_ne hq]
      rfl
  · change (((s.modSession p f).session q).state, ((s.modSession p f).session q).window) =
      Function.update s.places.session p _ q
    rw [modSession_session]
    by_cases hq : q = p
    · rw [if_pos hq, hq, Function.update_self]
    · rw [if_neg hq, Function.update_of_ne hq]
      rfl

theorem tearSession_keepsPlaces {p : PortIx} (torn : s.onlyActive p) : s.KeepsPlaces (s.tearSession p) := by
  intro strict h
  have quiet := h.unlist (p := p) fun _ i k hk owner => torn.places hk owner ▸ nofun
  unfold tearSession
  dsimp only
  rw [modSession_places_emptied p _ rfl]
  refine quiet.setSession (fun hs => (h.windows hs p).1) (fun _ _ i k hk owner => torn.places hk owner) fun _ closed => ?_
  refine Places.uses_eq_zero fun i k hk owner => ?_
  obtain ⟨r, hr, rfl⟩ := Option.map_eq_some_iff.mp hk
  refine activeCount_eq_zero (Nat.eq_zero_of_not_pos fun pos => ?_) hr owner (torn i r hr owner)
  rw [show decide (0 < s.activeCount p) = true from decide_eq_true pos] at closed
  cases closed

theorem tearOwned_keepsPlaces (p : PortIx) : s.KeepsPlaces (s.tearOwned p) := by
  have records : s.KeepsPlaces (s.tearRecords p) := .foldl (fun _ i => tearRecord_keepsPlaces p i) _ s
  have active := (s.tearRecords_onlyActive p)
  have leases := onlyActive_of_loses active (freeLeasesOf_loses _ p)
  have watches := onlyActive_of_loses leases (tearWatches_loses _ p)
  have groups := onlyActive_of_loses watches (freeGroupsOf_loses _ p)
  have targets := onlyActive_of_loses groups (tearTargets_loses _ p)
  exact ((((records.trans (.of_eq (freeLeasesOf_places p))).trans (tearWatches_keepsPlaces p)).trans
    (freeGroupsOf_keepsPlaces watches)).trans (.of_eq (tearTargets_places p))).trans (tearSession_keepsPlaces targets)

theorem teardown_keepsPlaces (p : PortIx) : s.KeepsPlaces (s.teardown p) := by
  refine (tearOwned_keepsPlaces p).trans (.of_eq ?_)
  unfold teardown
  dsimp only
  rw [places_foldl _ (fun t b => t.wakeAfter_places s p b), places_foldl _ (fun t b => t.reexamineAfter_places s p b)]

theorem closeRequest_keepsPlaces (p : PortIx) (body : List Byte) : s.KeepsPlaces (s.closeRequest p body).1 := by
  unfold closeRequest
  split
  · exact .rfl
  · exact teardown_keepsPlaces p

theorem tearIfOpen_keepsPlaces (p : PortIx) : s.KeepsPlaces (s.tearIfOpen p) := by
  unfold tearIfOpen
  split
  · exact tearOwned_keepsPlaces p
  · exact .rfl

theorem brokerReset_keepsPlaces : s.KeepsPlaces s.brokerReset :=
  (((tearIfOpen_keepsPlaces 0).trans (tearIfOpen_keepsPlaces 1)).trans (tearIfOpen_keepsPlaces 2)).trans
    (.of_eq (clearCounters_places.trans abortEverywhere_places))

theorem resetBrokerRequest_keepsPlaces (p : PortIx) (body : List Byte) : s.KeepsPlaces (s.resetBrokerRequest p body).1 := by
  unfold resetBrokerRequest
  repeat' split
  · exact .rfl
  · exact .rfl
  · exact brokerReset_keepsPlaces

/-! ### OPEN (R146) -/

theorem openRequest_keepsPlaces (p : PortIx) (body : List Byte) : s.KeepsPlaces (s.openRequest p body).1 := by
  unfold openRequest
  split
  · exact .rfl
  split
  · exact .rfl
  · exact .rfl
  next closed =>
    split
    · intro strict h
      have free (hs : strict) : s.places.uses p = 0 := (h.windows hs p).2.2 closed
      have active (hs : strict) := (h.windows hs p).2.1 (show (s.session p).state ≠ .opened from closed ▸ nofun)
      rw [modSession_places_emptied p _ rfl]
      refine (h.unlist fun hs i k hk owner => ?_).setSession (fun hs => (free hs).le.trans (Nat.zero_le _))
        (fun _ shut => absurd rfl shut) fun _ => nofun
      exact active hs i k hk owner ▸ nofun
    · exact .rfl

/-! ### Admission (R155, R156) -/

/-- The head leaves the admission list. -/
theorem advanceList_places (p : PortIx) {src : Source} {rest : List Source} (list : (s.session p).admission = src :: rest)
    (other : ∀ i, src ≠ .record i) : (s.modSession p fun x => { x with admission := rest }).places = s.places := by
  refine modSession_places p _ rfl rfl fun i => ?_
  rw [list, List.mem_cons]
  exact (or_iff_right fun e => other i e.symm).symm

theorem advanceList_record_places (p : PortIx) {i : Fin 64} {rest : List Source}
    (list : (s.session p).admission = .record i :: rest) : (s.modSession p fun x => { x with admission := rest }).places =
      s.places.setRecord i { s.places.record i with
        listed := Function.update (s.places.record i).listed p (decide (Source.record i ∈ rest)) } := by
  refine places_list p _ rfl rfl rfl fun j hj => ?_
  rw [list, List.mem_cons]
  exact (or_iff_right fun e => hj (Source.record.inj e)).symm

/-- The admission of a record's report frees its slot (R155). -/
theorem admitOne_record_keepsPlaces (p : PortIx) (i : Fin 64) : s.KeepsPlaces (s.admitOne p (.record i)) ∧
    (s.admitOne p (.record i)).reportOf p (.record i) = none := by
  obtain ⟨none_, h⟩ | ⟨x, hx, h⟩ := s.admitOne_cases p (.record i)
  · rw [h]
    exact ⟨.rfl, none_⟩
  · rw [h, releaseSource]
    constructor
    · intro strict l
      rw [freeRecord_places, push_places]
      refine l.free ((l.record i).loose fun k hk => ?_)
      obtain ⟨r, hr, rfl⟩ := Option.map_eq_some_iff.mp hk
      have result : r.result.isSome = true := by
        rw [reportOf, show s.record i = some r from hr, Option.bind_some] at hx
        obtain ⟨y, hy, -⟩ := Option.map_eq_some_iff.mp hx
        rw [hy]
        rfl
      exact ((l.record i).lawful _ hk).2.2.2.1.mp result
    · rw [reportOf, freeRecord_record, if_pos rfl]
      rfl

theorem admitHead_keepsPlaces (p : PortIx) : s.KeepsPlaces (s.admitHead p) := by
  have lists (src : Source) : ((s.admitOne p src).session p).admission = (s.session p).admission := (s.admitOne_session p src).1
  unfold admitHead
  split
  · exact .rfl
  next src rest list =>
    dsimp only
    by_cases hsrc : ∃ i, src = .record i
    · obtain ⟨i, rfl⟩ := hsrc
      obtain ⟨keeps, none_⟩ := s.admitOne_record_keepsPlaces p i
      rw [none_]
      refine keeps.trans fun strict h => ?_
      rw [if_neg nofun, advanceList_record_places p ((lists _).trans list)]
      refine h.setRecord ((h.record i).relisted (fun k hk done => ?_) _) fun hs =>
        (h.windows hs).setRecord fun k hk => ⟨k, hk, rfl, fun _ => id⟩
      obtain ⟨r, hr, rfl⟩ := Option.map_eq_some_iff.mp hk
      obtain ⟨x, hx⟩ := Option.isSome_iff_exists.mp (((h.record i).lawful _ hk).2.2.2.1.mpr done)
      rw [reportOf, show (s.admitOne p (.record i)).record i = some r from hr, Option.bind_some,
        show r.result = some x from hx] at none_
      cases none_
    · have other (i : Fin 64) : src ≠ .record i := fun e => hsrc ⟨i, e⟩
      split
      · exact .of_eq (admitOne_places p other)
      · exact .of_eq ((advanceList_places p ((lists _).trans list) other).trans (admitOne_places p other))

theorem admitRounds_keepsPlaces (p : PortIx) (n : Nat) : s.KeepsPlaces (s.admitRounds n p) := by
  induction n generalizing s with
  | zero => exact .rfl
  | succ n ih =>
    rw [admitRounds]
    split
    · exact (admitHead_keepsPlaces p).trans ih
    · exact .rfl

theorem noticeAck_keepsPlaces (p : PortIx) (body : List Byte) : s.KeepsPlaces (s.noticeAck p body) := by
  have acks (n : Byte) (t : State) (h : s.ackNotices p n = some t) : s.KeepsPlaces t := by
    obtain ⟨rest, -, rfl⟩ := Option.map_eq_some_iff.mp h
    exact (admitRounds_keepsPlaces p _).after (modSession_places p _ rfl rfl fun _ => .rfl)
  unfold noticeAck
  dsimp only
  split
  · cases h : (parseByte body).bind (s.ackNotices p) with
    | none => exact .of_eq rfl
    | some t =>
      obtain ⟨n, -, hn⟩ := Option.bind_eq_some_iff.mp h
      exact acks n t hn
  · exact .of_eq rfl

end State

end Sys2Proof.Machine
end

section
/-! PROOF. The host link and every command keep the laws of the records and of their places (R9, R10, R27, R103, R117). -/

namespace Sys2Proof.Machine

namespace State

variable {s : State}

/-! ### Requests (R145, R168) -/

theorem serveOpen_keepsPlaces {p : PortIx} (opened : s.isOpen p = true) (kind : Byte) (body : List Byte) :
    s.KeepsPlaces (s.serveOpen p kind body).1 := by
  unfold serveOpen
  split
  · exact closeRequest_keepsPlaces p body
  · exact .of_eq (queryRequest_places p body)
  · exact .of_eq (rewindRequest_places p body)
  · exact submitRequest_keepsPlaces opened body
  · exact cancelRequest_keepsPlaces p body
  · exact .of_eq (claimRequest_places p body)
  · exact .of_eq (renewRequest_places p body)
  · exact .of_eq (releaseRequest_places p body)
  · exact .of_eq (revokeRequest_places p body)
  · exact groupCreateRequest_keepsPlaces p body
  · exact .of_eq (groupArmRequest_places p body)
  · exact groupFireRequest_keepsPlaces p body
  · exact .of_eq (groupBindRequest_places p body)
  · exact groupDeleteRequest_keepsPlaces p body
  · exact watchAddRequest_keepsPlaces p body
  · exact watchRemoveRequest_keepsPlaces p body
  · exact .of_eq (watchResumeRequest_places p body)
  · exact .of_eq (targetOwnRequest_places p body)
  · exact .of_eq (targetLoadRequest_places p body)
  · exact busConfigureRequest_keepsPlaces p body
  · exact .of_eq (busRecoverRequest_places body)
  · exact resetBrokerRequest_keepsPlaces p body
  · exact .rfl

theorem serve_keepsPlaces (p : PortIx) (kind : Byte) (body : List Byte) : s.KeepsPlaces (s.serve p kind body).1 := by
  unfold serve
  split
  · exact openRequest_keepsPlaces p body
  split
  next opened => exact serveOpen_keepsPlaces opened kind body
  next => exact .rfl

theorem respond_places (s : State) (p : PortIx) (kind seq : Byte) (m : Message) :
    (s.respond p kind seq m).places = s.places := rfl

theorem takeRequest_keepsPlaces (p : PortIx) (kind seq : Byte) (body : List Byte) :
    s.KeepsPlaces (s.takeRequest p kind seq body) := by
  unfold takeRequest
  repeat' split
  · exact .of_eq rfl
  · exact .of_eq rfl
  · exact (serve_keepsPlaces p kind body).trans (.of_eq (respond_places _ p kind seq _))
  · exact .of_eq rfl

theorem goodFrame_keepsPlaces (p : PortIx) (m : Message) : s.KeepsPlaces (s.goodFrame p m) := by
  unfold goodFrame
  dsimp only
  split
  · exact (noticeAck_keepsPlaces p m.body).after (countPort_places p _)
  · exact (takeRequest_keepsPlaces p m.kind m.seq m.body).after (countPort_places p _)

theorem lineInput_keepsPlaces (p : PortIx) (input : LineInput) : s.KeepsPlaces (s.lineInput p input) := by
  unfold lineInput
  dsimp only
  repeat' split
  · exact .of_eq rfl
  · exact .of_eq rfl
  · exact .of_eq rfl
  · exact (goodFrame_keepsPlaces p _).after (modPort_places p _)

theorem requestFrame_keepsPlaces (p : PortIx) (kind seq : Byte) (body : List Byte) :
    s.KeepsPlaces (s.requestFrame p kind seq body) := by
  unfold requestFrame
  dsimp only
  split
  · exact (goodFrame_keepsPlaces p _).after (modPort_places p _)
  · exact .of_eq rfl

theorem breakSeen_keepsPlaces (p : PortIx) : s.KeepsPlaces (s.breakSeen p) := by
  unfold breakSeen
  dsimp only
  split
  · exact ((teardown_keepsPlaces p).after (countPort_places p _)).trans (.of_eq rfl)
  · exact .of_eq rfl

end State

/-! ### Every command -/

/-- A command but POWER_ON_RESET is an event that keeps the laws of the records and of their places. -/
theorem exec_keepsPlaces (c : Instr) (s : State) (hc : ∀ h x y, c ≠ .powerOnReset h x y) :
    ∃ u, exec c s = .next u.settle ∧ s.KeepsPlaces u := by
  cases c
  case powerOnReset h x y => exact absurd rfl (hc h x y)
  case clockTick => exact ⟨_, rfl, .of_eq State.tick_places⟩
  case busRecover p q body =>
    exact ⟨_, rfl, (State.requestFrame_keepsPlaces p _ q _).trans (.of_eq (State.clockAtEntry_places s body))⟩
  case badFrame p input => exact ⟨_, rfl, State.lineInput_keepsPlaces p input⟩
  case characterReceived p x => exact ⟨_, rfl, State.lineInput_keepsPlaces p _⟩
  case lineBreak p => exact ⟨_, rfl, State.breakSeen_keepsPlaces p⟩
  case transmitFrameEnd p => exact ⟨_, rfl, .of_eq (State.modPort_places p _)⟩
  case retransmitTimerExpiry p => exact ⟨_, rfl, .of_eq (State.timerExpired_places p)⟩
  case deadlineExpiry i => exact ⟨_, rfl, State.deadlineReached_keepsPlaces i⟩
  case notBeforeReached i => exact ⟨_, rfl, .of_eq (State.spacingReached_places i)⟩
  case agingPromotion b => exact ⟨_, rfl, State.promoteDue_keepsPlaces b⟩
  case leaseExpiry i => exact ⟨_, rfl, .of_eq (State.leaseExpired_places i)⟩
  case triggerEdge l up => exact ⟨_, rfl, State.sampleLine_keepsPlaces l up⟩
  case watchPeriodExpiry i => exact ⟨_, rfl, State.periodExpired_keepsPlaces i⟩
  case busFreeWaitEnd b => exact ⟨_, rfl, State.waitEnd_keepsPlaces b⟩
  case startSeen b m x => exact ⟨_, rfl, State.startSeen_keepsPlaces b m x⟩
  case stopSeen b x => exact ⟨_, rfl, State.stopSeen_keepsPlaces b x⟩
  case clkLowOnFreeBus b => exact ⟨_, rfl, .of_eq (State.clkLow_places b)⟩
  case idleDetect b => exact ⟨_, rfl, .of_eq (State.idleSeen_places b)⟩
  case stuckDetected x => exact ⟨_, rfl, State.stuckSeen_keepsPlaces x.bus _⟩
  case stretchTimeout b => exact ⟨_, rfl, State.stretched_keepsPlaces b⟩
  case addressByteAcknowledge b ack => exact ⟨_, rfl, .of_eq (State.addressAck_places b ack)⟩
  case writeByteAcknowledge b ack => exact ⟨_, rfl, .of_eq (State.writeAck_places b ack)⟩
  case readByteReceived b x => exact ⟨_, rfl, .of_eq (State.readByte_places b x)⟩
  case arbitrationLoss b bit => exact ⟨_, rfl, State.arbitrationLost_keepsPlaces b bit⟩
  case lossInRepeatedStartOrStop x => exact ⟨_, rfl, State.lostInCondition_keepsPlaces x.bus _⟩
  case addressTailDirectionBit b a d => exact ⟨_, rfl, .of_eq (State.tailEnds_places b a d)⟩
  case foreignOwnAddress b d => exact ⟨_, rfl, .of_eq (State.foreignOwn_places b d)⟩
  case foreignAddressOther b a d => exact ⟨_, rfl, .of_eq (State.foreignOther_places b a d)⟩
  case targetWriteByte b x => exact ⟨_, rfl, .of_eq (State.targetByte_places b x)⟩
  case targetReadByteTaken x => exact ⟨_, rfl, .of_eq (State.targetTake_places x.bus _)⟩
  case recoveryClockRise b d => exact ⟨_, rfl, .of_eq (State.recoveryRise_places b d)⟩
  case recoveryPulseEnd b d => exact ⟨_, rfl, .of_eq (State.recoveryPulse_places b d)⟩
  case recoveryClockTimeout b => exact ⟨_, rfl, .of_eq (State.recoveryTimeout_places b)⟩
  case recoveryStopDataHeld b => exact ⟨_, rfl, .of_eq (State.recoveryStopHeld_places b)⟩
  all_goals exact ⟨_, rfl, State.requestFrame_keepsPlaces _ _ _ _⟩

/-- A step either keeps the laws of the records and of their places, or leaves the power-on state, which meets them. -/
theorem step_keepsPlaces {s t : State} (h : step s = .next t) : s.KeepsPlaces t ∨ t.recordsLawful ∧ t.placesLawful := by
  unfold step at h
  split at h
  · cases h
    exact .inl .rfl
  next c rest _ =>
    by_cases hc : ∃ x y z, c = .powerOnReset x y z
    · obtain ⟨x, y, z, rfl⟩ := hc
      cases h
      exact .inr ⟨State.powerOn_recordsLawful x y z, State.powerOn_placesLawful x y z⟩
    · obtain ⟨u, hu, keeps⟩ := exec_keepsPlaces c { s with pending := rest } fun x y z e => hc ⟨x, y, z, e⟩
      rw [hu] at h
      cases h
      exact .inl ((keeps.after (s := s) rfl).trans (.of_eq State.settle_places))

end Sys2Proof.Machine

namespace Sys2Proof.Proofs

open Sys2Proof Sys2Proof.Machine

/-- Settles O9: every step keeps the laws of each slot's place (`RecordPlace.Ok`, `WatchPlace.Ok`) and of the windows, with
and without the law of places. -/
theorem stepsKeepTheRecordLaws : Obligations.StepsKeepTheRecordLaws := by
  unfold Obligations.StepsKeepTheRecordLaws
  refine ⟨fun s t records h => ?_, fun s t records places h => ?_⟩
  · obtain keeps | ⟨fresh, -⟩ := step_keepsPlaces h
    · exact State.recordsLawful_of_ok (keeps False (State.lawful_of_laws records False.elim)).record
    · exact fresh
  · obtain keeps | ⟨-, fresh⟩ := step_keepsPlaces h
    · exact State.placesLawful_of_lawful (keeps True (State.lawful_of_laws records fun _ => places))
    · exact fresh

end Sys2Proof.Proofs
end
